-- ==== Sys2Proof/Word.lean ====
section
/-! DEFINITION. The word types of the 4260's line protocols and the one total update of a fixed-size table.

The 4260 has no machine word of its own. Bytes appear in its frames (R168, R176) and sets are carried as bits
(R176). Every other quantity is a number with a stated range (section 2.2 of the scope file) and is a `Nat` or
an `Int` in the state. -/

namespace Sys2Proof

/-- A byte of a frame (R168). -/
abbrev Byte := BitVec 8

/-- A set of attention classes, TRIP in bit 0 to LINK in bit 7 (R176). -/
abbrev ClassSet := BitVec 8

/-- A table of fixed size from the list of its entries. -/
def ofList {α : Type} {n : Nat} (l : List α) (h : l.length = n) : Vector α n := ⟨⟨l⟩, h⟩

/-- `f` at each place of a list, counted from `k`. -/
def mapFrom {α β : Type} (f : Nat → α → β) : Nat → List α → List β
  | _, [] => []
  | k, a :: l => f k a :: mapFrom f (k + 1) l

@[simp] theorem mapFrom_length {α β : Type} (f : Nat → α → β) (k : Nat) (l : List α) :
    (mapFrom f k l).length = l.length := by
  induction l generalizing k with
  | nil => rfl
  | cons a l ih => simp [mapFrom, ih]

theorem mapFrom_get {α β : Type} (f : Nat → α → β) (k : Nat) (l : List α) (i : Nat) (h : i < l.length) :
    (mapFrom f k l)[i]'(by simpa using h) = f (k + i) l[i] := by
  induction l generalizing k i with
  | nil => simp at h
  | cons a l ih =>
    cases i with
    | zero => rfl
    | succ i =>
      have := ih (k + 1) i (by simpa using h)
      simpa [mapFrom, Nat.add_assoc, Nat.add_comm 1 i] using this

/-- Form every entry of a table anew from its place and the old entry. -/
def mapAt {α β : Type} {n : Nat} (v : Vector α n) (f : Nat → α → β) : Vector β n :=
  ofList (mapFrom f 0 v.toList) (by simp)

@[simp] theorem mapAt_get {α β : Type} {n : Nat} (v : Vector α n) (f : Nat → α → β) (i : Nat) (h : i < n) :
    (mapAt v f)[i] = f i v[i] := by
  have := mapFrom_get f 0 v.toList i (by simpa using h)
  simpa [mapAt, ofList] using this

/-- Change entry `i` of a table of fixed size. -/
def upd {α : Type} {n : Nat} (v : Vector α n) (i : Fin n) (f : α → α) : Vector α n :=
  v.set i.val (f v[i.val]) i.isLt

@[simp] theorem upd_get_self {α : Type} {n : Nat} (v : Vector α n) (i : Fin n) (f : α → α) :
    (upd v i f)[i.val] = f v[i.val] := by simp [upd]

theorem upd_get_ne {α : Type} {n : Nat} (v : Vector α n) (i j : Fin n) (f : α → α) (h : i ≠ j) :
    (upd v i f)[j.val] = v[j.val] := by
  have : i.val ≠ j.val := fun e => h (Fin.ext e)
  simp [upd, this]

theorem upd_get {α : Type} {n : Nat} (v : Vector α n) (i j : Fin n) (f : α → α) :
    (upd v i f)[j.val] = if i = j then f v[j.val] else v[j.val] := by
  by_cases h : i = j
  · subst h; simp
  · simp [h, upd_get_ne v i j f h]

end Sys2Proof
end

