-- ==== Sys2Proof/Config.lean ====
section
/-! DEFINITION. What the part fixes: the fixed times and codes the spec states, and the one value it leaves open. -/

namespace Sys2Proof.Config

/-- The gap between two bytes of a Floor Link frame and of a scan frame, in ms, above which the frame ends (R168, R114). -/
def frameGap : Nat := 20
def scanGap : Nat := 5
/-- The vendor code of Delkaro, the part code and the revision that PING carries (section 11.3). -/
def vendorCode : Nat := 0x0D4C
def partCode : Nat := 0x10A4
def revision : Nat := 1

/-- The fixed debounce time of DI1, in ms (R109). -/
def estopDebounce : Nat := 5
/-- The flame proof time, in ms (R13). -/
def flameProof : Nat := 2000
/-- The pilot hold time, in ms (R14). -/
def pilotHold : Nat := 600000
/-- The air loss time, in ms (R20). -/
def airLoss : Nat := 3000
/-- The settle of an actuator move, in ms (R28). -/
def moveSettle : Nat := 500
/-- The steps after which a home without its switch ends FAULT (R27). -/
def homeLimit : Nat := 440
/-- The open end of an actuator, in steps (R10). -/
def actuatorOpen : Nat := 400
/-- The doser drop pulse and the scale settle, in ms (R66). -/
def dropPulse : Nat := 500
def scaleSettle : Nat := 3000
/-- The cap of the slot credit (R64). -/
def creditCap : Nat := 199
/-- The grate stagger, the BED update, the fan low-current time and the blaster pulse, in ms (R105). -/
def grateStagger : Nat := 5000
def bedUpdate : Nat := 2000
def lowCurrent : Nat := 10000
def blasterPulse : Nat := 500
/-- The hysteresis of the SAT-low condition, in °C (R99). -/
def satHysteresis : Int := 20
/-- A Drive Link frame begins within this many ms of a change, and at the latest this many after the last (R116). -/
def driveLatest : Nat := 50
def driveRefresh : Nat := 1000
/-- The greatest heat in kW and the greatest rate in kg/h (Table 2). -/
def heatMax : Nat := 666666
def rateMax : Nat := 60000

/-- The level of a direction output (AXD, SWD) for steps away from the home end.
The spec names the direction outputs and gives them no polarity, so the level is a free value (log entry 5). -/
opaque awayLevel : Bool

end Sys2Proof.Config
end

