-- ==== Sys2Proof/Machine/Names.lean ====
section
/-! DEFINITION. The named values of the 4260's records.

Constructors stand in the order of Table 11-3 wherever that table codes the field, so a value's code on the wire is
its place in the list. -/

namespace Sys2Proof.Machine

/-- Reply statuses (Table 10-2). -/
inductive Status where
  | done | accepted | busy | locked | notPermitted | badValue | full | empty | noSuch | unknownType | badLength
  | causeActive
  deriving DecidableEq, Repr

/-- Burner states (Table 1-1). -/
inductive BurnerState where
  | lockout | idle | purge | prepare | ignition | pilot | mainTrial | mainFiring | stopping
  deriving DecidableEq, Repr

/-- First-out causes (R4). -/
inductive Cause where
  | powerRestored | restarted | flameFail | ignitionFail | airLost | alarmTrip | hostStop | estopInput | coolerStopped
  deriving DecidableEq, Repr

/-- Last stop reasons (Table 1-2). -/
inductive StopReason where
  | stopRequest | purgeTimeout | actuatorFault | pilotTimeout | noFuel | lockoutReset
  deriving DecidableEq, Repr

/-- Flame voting (Table 1-8). -/
inductive Voting where
  | oneOfTwo | twoOfTwo
  deriving DecidableEq, Repr

/-- Actuator motion, verification, owner and completion outcome (Table 1-9, R31). -/
inductive Motion where
  | still | moving | homing | settling
  deriving DecidableEq, Repr

inductive Verify where
  | verified | unverified | mismatch
  deriving DecidableEq, Repr

inductive Owner where
  | none | operator | sequence
  deriving DecidableEq, Repr

inductive WorkOutcome where
  | done | fault | stopped | aborted
  deriving DecidableEq, Repr

/-- Fuel line states (Table 2-3) and kinds (R33). -/
inductive LineState where
  | shut | admitting | opened | shutting | fault
  deriving DecidableEq, Repr

inductive LineKind where
  | continuous | batch
  deriving DecidableEq, Repr

/-- Order outcomes (Table 2-6). -/
inductive OrderOutcome where
  | complete | abortedShut | abortedFault | abortedClear | abortedTrip | discarded
  deriving DecidableEq, Repr

/-- The four reason flags of a line (Table 2-7). -/
inductive Reason where
  | completion | lowWater | empty | state
  deriving DecidableEq, Repr

/-- Slot phases, outcomes and miss reasons (R65, R66, R69). -/
inductive SlotPhase where
  | gateDelay | drop | settle
  deriving DecidableEq, Repr

inductive SlotOutcome where
  | fed | missed | skipped | aborted
  deriving DecidableEq, Repr

inductive MissReason where
  | busy | notReady | readyLost
  deriving DecidableEq, Repr

/-- The five ceiling sources, in the order that decides the binding source (R74). -/
inductive CeilingSource where
  | operator | cooler | alarm | burner | max
  deriving DecidableEq, Repr

/-- Cooler states (R87), sequence timers (R89 to R91), grate states and modes. -/
inductive CoolerState where
  | stopped | starting | running | surge | stopping
  deriving DecidableEq, Repr

inductive SequenceTimer where
  | fanStart | stagger | runOn
  deriving DecidableEq, Repr

inductive GrateState where
  | still | running | fault
  deriving DecidableEq, Repr

inductive GrateMode where
  | fixed | bed | follow
  deriving DecidableEq, Repr

/-- Quality of an analog channel (R114, R115). -/
inductive Quality where
  | good | bad | stale
  deriving DecidableEq, Repr

/-- Phase of a valve watch (R118). -/
inductive WatchPhase where
  | proving | proven | unproven
  deriving DecidableEq, Repr

/-- The set of fault kinds latched on an output diagnostic record (R117). -/
structure FaultKinds where
  failToOpen : Bool
  failToClose : Bool
  noMotion : Bool
  deriving DecidableEq, Repr

/-- One fault kind. -/
inductive FaultKind where
  | failToOpen | failToClose | noMotion
  deriving DecidableEq, Repr

/-- State of an output diagnostic record (R117). -/
inductive DiagState where
  | ok | powerup | fault (kinds : FaultKinds)
  deriving DecidableEq, Repr

/-- Alarm point states, classes and suppression groups (Tables 7-1, 7-2). -/
inductive PointState where
  | disabled | normal | raised | acked | returned | shelved | suppressed
  deriving DecidableEq, Repr

inductive PointClass where
  | trip | urgent | routine | record
  deriving DecidableEq, Repr

inductive Group where
  | none | kilnStopped | coolerAtRest | burnerNotFiring | lineShut (line : Fin 6)
  deriving DecidableEq, Repr

/-- What a point watches (R126, R127): a state of the 4260's own, a channel against a limit, or an input's level. -/
inductive PointSource where
  | analog (channel : Fin 32) (limit : Int) (high : Bool) (deadband : Nat)
  | discrete (input : Fin 24) (level : Bool)
  | internal
  deriving DecidableEq, Repr

/-- Attention classes (Table 8-1). -/
inductive AttentionClass where
  | trip | alarm | burner | feed | cooler | shift | diag | link
  deriving DecidableEq, Repr

/-- Lock groups (Table 10-3). -/
inductive LockGroup where
  | burner | fuel | envelope | cooler | alarm | field | shift
  deriving DecidableEq, Repr

/-- Causes by which a shift opens and closes (R156, R163), and the causes of a reset (R171). -/
inductive OpenCause where
  | schedule | request | coldReset
  deriving DecidableEq, Repr

inductive CloseCause where
  | none | schedule | request
  deriving DecidableEq, Repr

inductive RestartCause where
  | coldPin | coldSupply | coldRequest | warmRequest
  deriving DecidableEq, Repr

/-- The kinds of reset (R175). -/
inductive ResetKind where
  | cold | warm
  deriving DecidableEq, Repr

/-- A calendar date and time to the second (R157). -/
structure DateTime where
  year : Nat
  month : Nat
  day : Nat
  hour : Nat
  minute : Nat
  second : Nat
  deriving DecidableEq, Repr

/-- The kinds of shift event with their subjects and values, in the order of Table 9-3. -/
inductive EventKind where
  | ignition
  | mainFiring
  | lockout (cause : Cause) (point : Option Nat)
  | idle (reason : StopReason)
  | lineAdmitted (line : Fin 6)
  | lineShut (line : Fin 6)
  | lineFault (line : Fin 6)
  | contextChange (line : Fin 6) (cv : Nat)
  | surgeStart
  | surgeEnd
  | coolerState (state : CoolerState)
  | floodStart
  | floodEnd
  | tripRaise (point : Nat)
  | clockSet (old : Option DateTime) (new : DateTime)
  | restart (cause : RestartCause)
  | reportOverwritten (sequence : Nat)
  deriving DecidableEq, Repr

end Sys2Proof.Machine
end

