-- ==== Sys2Proof/Syntax.lean ====
section
/-! DEFINITION. The commands of the 4260: one constructor of `Instr` for each row of spec/opcode_table.json.

A host request is one valid Floor Link frame. Its constructor carries the frame's tag and the request's payload
fields at the widths of Table 11-1 and Table 11-4 (R176, R177), before any range check. The other rows are events
of the 4260's pins, lines and timers, and carry which pin, line, grate, record or point they concern. -/

namespace Sys2Proof

/-- The payload of SET BURNER, in the order of Table 1-8 (R24, R176). -/
structure BurnerFields where
  voting : Byte
  ffrt : Byte
  purgeTime : BitVec 16
  purgeAir : Byte
  minAir : Byte
  ignitionTrial : Byte
  mainTrial : Byte
  lightOffAxial : BitVec 16
  lightOffSwirl : BitVec 16
  toleranceAxial : Byte
  toleranceSwirl : Byte
  stepRateAxial : Byte
  stepRateSwirl : Byte
  deriving DecidableEq, Repr

/-- The settings part of CONFIGURE LINE's payload, in the order of Table 2-2 (R33, R176). -/
structure LineFields where
  kind : Byte
  maxRate : BitVec 16
  minRate : BitVec 16
  gramsPerPulse : BitVec 16
  shutRamp : BitVec 16
  deviationLimit : Byte
  deviationTime : BitVec 16
  lowWater : Byte
  noticeDelay : Byte
  gateDelay : Byte
  deriving DecidableEq, Repr

/-- A feed order as carried in POST ORDERS (Table 11-5): the two-byte fields at offsets 4, 6 and 8 are whole here. -/
structure OrderFields where
  kind : Byte
  tag : BitVec 16
  flags : Byte
  at4 : BitVec 16
  at6 : BitVec 16
  at8 : BitVec 16
  deriving DecidableEq, Repr

/-- The payload of SET ENVELOPE, in the order of Table 4-3 (R85, R176). -/
structure EnvelopeFields where
  nominalHeat : BitVec 32
  maxHeat : BitVec 32
  lightOffHeat : BitVec 32
  lightOffRamp : BitVec 16
  satLowLimit : BitVec 16
  satCeilingPct : Byte
  surgeCutback : Byte
  deriving DecidableEq, Repr

/-- The payload of SET COOLER, in the order of Table 5-3 (R105, R176). -/
structure CoolerFields where
  fanStartDelay : Byte
  fanRunOn : BitVec 16
  fanMinSpeed : Vector (BitVec 16) 12
  fanThreshold : Vector (BitVec 16) 12
  boostSpeed : BitVec 16
  bedBase : BitVec 16
  bedGain : Byte
  bedSetpoint : BitVec 16
  bedMin : BitVec 16
  bedMax : BitVec 16
  surgeRise : Byte
  surgeWindow : Byte
  surgeLevel : BitVec 16
  releaseLevel : BitVec 16
  releaseTime : BitVec 16
  surgeRate : BitVec 16
  blasterRevs : Byte
  blasterInterval : Byte
  deriving DecidableEq, Repr

/-- The payload of SET FIELD, in the order of Table 6-7: the debounce times of DI2 to DI24 first (R123, R176). -/
structure FieldFields where
  debounce : Vector Byte 23
  scanPeriod : BitVec 16
  kilnStopTime : BitVec 16
  valveProofTime : Byte
  deriving DecidableEq, Repr

/-- The definition part of DEFINE ALARM's payload, in the order of Table 7-2 (R141, R176). -/
structure AlarmFields where
  source : Byte
  signal : Byte
  limit : BitVec 16
  direction : Byte
  deadband : BitVec 16
  level : Byte
  cls : Byte
  onDelay : Byte
  offDelay : Byte
  group : Byte
  cutBack : Byte
  deriving DecidableEq, Repr

/-- The payload of SET CLOCK: the year less 2000, month, day, hour, minute and second (R158, Table 11-1). -/
structure ClockFields where
  year : Byte
  month : Byte
  day : Byte
  hour : Byte
  minute : Byte
  second : Byte
  deriving DecidableEq, Repr

/-- One channel of a Sensor Link scan: its 16-bit two's complement value, and whether its mark says BAD (R114). -/
structure ScanEntry where
  value : BitVec 16
  bad : Bool
  deriving DecidableEq, Repr

/-- The 4260's commands, one constructor per row of spec/opcode_table.json, in the table's order. -/
inductive Instr where
  | readBurner (tag : Byte)
  | setBurner (tag : Byte) (f : BurnerFields)
  | resetLockout (tag : Byte)
  | startPurge (tag : Byte)
  | stopBurner (tag : Byte)
  | emergencyStop (tag : Byte)
  | mainLight (tag : Byte) (lines : Byte)
  | homeActuator (tag : Byte) (actuator : Byte)
  | moveActuator (tag : Byte) (actuator : Byte) (target : BitVec 16)
  | stepActuator (tag : Byte) (actuator : Byte) (count : Byte)
  | stopActuator (tag : Byte) (actuator : Byte)
  | configureLine (tag : Byte) (line : Byte) (f : LineFields)
  | postOrders (tag : Byte) (line : Byte) (orders : List OrderFields)
  | clearLine (tag : Byte) (line : Byte)
  | openLine (tag : Byte) (line : Byte)
  | shutLine (tag : Byte) (line : Byte)
  | readLine (tag : Byte) (line : Byte)
  | readCompletions (tag : Byte) (line : Byte)
  | setEnvelope (tag : Byte) (f : EnvelopeFields)
  | setOperatorCeiling (tag : Byte) (value : BitVec 32)
  | clearOperatorCeiling (tag : Byte)
  | readHeatBalance (tag : Byte)
  | startCooler (tag : Byte)
  | stopCooler (tag : Byte)
  | setGrate (tag : Byte) (grate : Byte) (mode : Byte) (value : BitVec 16)
  | setFanSpeed (tag : Byte) (chamber : Byte) (speed : BitVec 16)
  | blastersOn (tag : Byte)
  | blastersOff (tag : Byte)
  | setCooler (tag : Byte) (f : CoolerFields)
  | readCooler (tag : Byte)
  | readField (tag : Byte) (part : Byte)
  | clearDiagnostics (tag : Byte) (record : Byte)
  | setDiagMasks (tag : Byte) (masks : BitVec 32)
  | setField (tag : Byte) (f : FieldFields)
  | defineAlarm (tag : Byte) (point : Byte) (f : AlarmFields)
  | setAlarm (tag : Byte) (threshold : Byte) (window : BitVec 16) (silence : Byte)
  /-- ACKNOWLEDGE with target byte 0 (a point) or an unlisted target byte; target byte 1 is `acknowledgeClass`. -/
  | acknowledgePoint (tag : Byte) (target : Byte) (point : Byte)
  | acknowledgeClass (tag : Byte) (cls : Byte)
  | shelve (tag : Byte) (point : Byte) (minutes : BitVec 16)
  | unshelve (tag : Byte) (point : Byte)
  | disable (tag : Byte) (point : Byte)
  | enable (tag : Byte) (point : Byte)
  | readAlarmPoint (tag : Byte) (point : Byte)
  | readAlarmTable (tag : Byte)
  | readAlarmChanges (tag : Byte)
  | readAttention (tag : Byte)
  | rearm (tag : Byte) (classes : ClassSet)
  | dismiss (tag : Byte) (classes : ClassSet)
  | setClock (tag : Byte) (f : ClockFields)
  | setSchedule (tag : Byte) (times : List (BitVec 16))
  | closeShift (tag : Byte)
  | peekShift (tag : Byte)
  | readPeek (tag : Byte) (part : Byte)
  | listReports (tag : Byte)
  | readReport (tag : Byte) (sequence : BitVec 32) (part : Byte)
  | releaseReport (tag : Byte) (sequence : BitVec 32)
  | ping (tag : Byte)
  | readStatus (tag : Byte)
  | lockGroup (tag : Byte) (group : Byte)
  | unlockGroup (tag : Byte) (group : Byte)
  /-- RESTART with kind byte 0 (COLD) or an unlisted kind byte; kind byte 1 is `restartWarm`. -/
  | restartCold (tag : Byte) (kind : Byte)
  | restartWarm (tag : Byte)
  | unknownTypeRequest (type : Byte) (tag : Byte)
  | badLengthRequest (type : Byte) (tag : Byte) (length : Nat)
  | frameDiscarded
  | frameGapTimeout
  | earlyFrameDiscarded
  | frameSendEnd
  | restartResetEnd
  | resetPinAssert
  | resetPinRelease
  | supplyFall
  | supplyRestore
  | scanFrame (scan : Vector ScanEntry 32)
  | scanIgnored
  | scanGapTimeout
  | scanTimeout
  | driveFrameBegin
  | driveFrameRefresh
  | diRawChange (input : Fin 24) (level : Bool)
  | debounceExpiry (input : Fin 24)
  | weighPulse (line : Fin 6)
  | strokePulse (grate : Fin 4)
  | indexPulse
  | kilnStopTimerExpiry
  | giveUpTimerExpiry
  | purgeComplete
  | ignitionTrialExpiry
  | flameProofExpiry
  | pilotHoldExpiry
  | mainTrialExpiry
  | flameLossExpiry
  | airLossExpiry
  | ceilingRampTick
  | actuatorStep (actuator : Fin 2)
  | homeStepLimit (actuator : Fin 2)
  | actuatorSettleEnd (actuator : Fin 2)
  | valveProofExpiry (valve : Fin 7)
  | rateRampTick (line : Fin 6)
  | shutRampTick (line : Fin 6)
  | holdExpiry (line : Fin 6)
  | measuredRateTick (line : Fin 6)
  | deviationTimerExpiry (line : Fin 6)
  | noticeDelayExpiry (line : Fin 6)
  | gateDelayEnd (batch : Fin 2)
  | dropPulseEnd (batch : Fin 2)
  | batchSettleEnd (batch : Fin 2)
  | fanStartDelayExpiry
  | grateStaggerExpiry
  | fanRunOnExpiry
  | bedUpdateTick
  | releaseTimerExpiry
  | grateWatchExpiry (grate : Fin 4)
  | lowCurrentExpiry (chamber : Fin 12)
  | blasterDue
  | blasterPulseEnd
  | onDelayExpiry (point : Fin 96)
  | offDelayExpiry (point : Fin 96)
  | shelfExpiry
  | reviewTimerExpiry
  | linkSilenceExpiry
  | clockSecondTick
  deriving DecidableEq, Repr

end Sys2Proof
end

