-- ==== Sys2Proof/Machine/State.lean ====
section
/-! DEFINITION. The state of the 4260 as plain data, block by block (Table 1), the reasons a step can stop, and the
state after reset.

A timer is held as the floor time at which it expires, `none` while it is stopped (R172: every timer runs on floor
time). A field marked (model) is bookkeeping of this model and not a field of the spec's records. -/

namespace Sys2Proof.Machine

/-- Why the part stops with a fault. The spec names no condition that stops the part: every fault it describes (a
trip, a latched diagnostic, a line in FAULT, a sensor link fault) is a state it goes on from. -/
inductive Fault where
  /-- Raised by no step: an empty queue or a reset in progress is not a fault either. It stands so that the type is
  inhabited. Safe. -/
  | none
  deriving DecidableEq, Repr

/-- Why a command is refused by the model. -/
inductive Refusal where
  /-- Raised by an arm of `exec` whose command has no meaning yet. Safe. No arm does. -/
  | notModelled (mnemonic : String)
  deriving DecidableEq, Repr

/-! ### Floor Link port (Chapter 10) -/

/-- A frame of the Floor Link that the 4260 sends: its type, tag and payload bytes (Table 11-2), and whether it is a
reply (an attention frame otherwise). -/
structure Frame where
  type : Nat
  tag : Byte
  payload : List Byte
  reply : Bool
  deriving DecidableEq, Repr

/-- A receiver: hunting for a start byte, or in a frame with the bytes after the start byte and the floor time at which
the last of its bytes arrived (R114, R168). -/
inductive Receiver where
  | hunting
  | inFrame (buffer : List Byte) (last : Nat)
  deriving DecidableEq, Repr

structure Link where
  /-- a request is taken and the last byte of its reply has not been sent (R169) -/
  unanswered : Bool
  sending : Option Frame
  waiting : List Frame
  /-- 0–65 535 (R170) -/
  discarded : Nat
  silenceAt : Option Nat
  /-- the condition of fixed point 5 (R173) -/
  silent : Bool
  /-- lock states of BURNER, FUEL, ENVELOPE, COOLER, ALARM, FIELD, SHIFT (R174) -/
  locks : Vector Bool 7
  /-- the strap pins BR1 and BR0 (an input) and the rate sampled from them (R168) -/
  strapBR1 : Bool
  strapBR0 : Bool
  baud : Nat
  receiver : Receiver
  deriving DecidableEq, Repr

/-! ### Burner unit (Chapter 1) -/

structure BurnerSettings where
  voting : Voting
  ffrt : Nat
  purgeTime : Nat
  purgeAir : Nat
  minAir : Nat
  ignitionTrial : Nat
  mainTrial : Nat
  lightOff : Vector Nat 2
  tolerance : Vector Nat 2
  stepRate : Vector Nat 2
  deriving DecidableEq, Repr

/-- The first-out record (R4). -/
structure FirstOut where
  cause : Cause
  point : Option Nat
  stateAtTrip : BurnerState
  time : Nat
  deriving DecidableEq, Repr

/-- An actuator record (Table 1-9). -/
structure Actuator where
  /-- 0–400 steps; `none` is UNKNOWN -/
  position : Option Nat
  target : Option Nat
  motion : Motion
  verify : Verify
  owner : Owner
  homeFault : Bool
  /-- the MISMATCH of earlier work still has its part in fixed point 9, although verify has left it (R31) -/
  mismatchHeld : Bool
  lastOutcome : Option WorkOutcome
  /-- when the next step is given or the settle ends -/
  dueAt : Option Nat
  /-- steps given in the home in progress -/
  homeSteps : Nat
  /-- the commanded level of the direction output -/
  direction : Bool
  deriving DecidableEq, Repr

/-- The burner record (Table 1-2), its timers, its outputs IG and FR, and the two actuator records, AXIAL first. -/
structure Burner where
  cfg : BurnerSettings
  state : BurnerState
  firstOut : Option FirstOut
  claims : Nat
  previous : Option (FirstOut × Nat)
  lastStop : Option StopReason
  /-- since when the purge timer counts; `none` while it does not count (elapsed time 0) -/
  purgeSince : Option Nat
  purgeStarted : Bool
  giveUpAt : Option Nat
  ignitionTrialAt : Option Nat
  flameProofAt : Option Nat
  pilotHoldAt : Option Nat
  mainTrialAt : Option Nat
  flameLossAt : Option Nat
  airLossAt : Option Nat
  /-- the ceiling ramp timer: its start, and the whole seconds already recomputed (model) -/
  rampFrom : Option Nat
  rampDone : Nat
  flame : Bool
  /-- the BURNER ceiling value (R21) -/
  ceiling : Option Nat
  igniter : Bool
  firingRelay : Bool
  actuators : Vector Actuator 2
  deriving DecidableEq, Repr

/-! ### Fuel lines (Chapters 2 and 3) -/

/-- What an order asks for (R44). -/
inductive OrderBody where
  | rate (target ramp hold : Nat)
  | context (cv priority : Nat)
  | batch (slots revs mass : Nat)
  deriving DecidableEq, Repr

structure Order where
  tag : Nat
  notify : Bool
  delay : Bool
  body : OrderBody
  deriving DecidableEq, Repr

/-- The progress of an active head order (Table 2-1): its start, its ramp's starting value, when its target was
reached, its delivered mass and its two flags. -/
structure Progress where
  startTime : Nat
  rampStart : Nat
  /-- whole seconds of the ramp already recomputed (model) -/
  rampDone : Nat
  holdStart : Option Nat
  delivered : Nat
  cut : Bool
  deviation : Bool
  deriving DecidableEq, Repr

/-- A completion record (Table 2-5). -/
structure Completion where
  tag : Nat
  body : OrderBody
  outcome : OrderOutcome
  delivered : Nat
  start : Option Nat
  finish : Nat
  cut : Bool
  deviation : Bool
  counts : Option (Nat × Nat × Nat)
  deriving DecidableEq, Repr

/-- The FUEL settings of a line (Table 2-2). -/
structure LineSettings where
  kind : LineKind
  maxRate : Nat
  minRate : Nat
  gramsPerPulse : Nat
  shutRamp : Nat
  deviationLimit : Nat
  deviationTime : Nat
  lowWater : Nat
  noticeDelay : Nat
  gateDelay : Nat
  deriving DecidableEq, Repr

/-- The ramp of a shut in progress (R39): when it began, from which rate, and the seconds recomputed (model). -/
structure ShutRamp where
  since : Nat
  rate : Nat
  done : Nat
  deriving DecidableEq, Repr

/-- A line record (Table 2-1). -/
structure Line where
  cfg : LineSettings
  state : LineState
  cv : Nat
  priority : Nat
  requested : Nat
  allowed : Nat
  cut : Bool
  commanded : Nat
  measured : Nat
  /-- the pulses of the last 10 s: floor time and grams -/
  window : List (Nat × Nat)
  /-- when the measured rate was last computed (model) -/
  measuredAt : Nat
  deviation : Bool
  deviationAt : Option Nat
  queue : List Order
  /-- present exactly while the head order is active -/
  progress : Option Progress
  shutRamp : Option ShutRamp
  completions : List Completion
  overrun : Bool
  noticeAt : Option Nat
  completionFlag : Bool
  lowWaterFlag : Bool
  emptyFlag : Bool
  stateFlag : Bool
  posted : Nat
  retired : Nat
  discarded : Nat
  lifetime : Nat
  deriving DecidableEq, Repr

/-- A slot in flight (Table 3-2): its number, phase and the end of that phase, with what its last slot record will
carry. -/
structure Slot where
  number : Nat
  phase : SlotPhase
  endsAt : Nat
  openedAt : Nat
  credit : Nat
  deriving DecidableEq, Repr

/-- The last slot record (Table 3-4). -/
structure SlotRecord where
  number : Nat
  tag : Nat
  openedAt : Nat
  endedAt : Nat
  outcome : SlotOutcome
  reason : Option MissReason
  credit : Nat
  mass : Option Nat
  estimated : Bool
  deriving DecidableEq, Repr

/-- A batch record (Table 3-2). -/
structure Batch where
  indexCount : Nat
  opened : Nat
  credit : Nat
  slot : Option Slot
  before : Option (Int × Quality)
  gateOpen : Bool
  idle : Nat
  fed : Nat
  missed : Nat
  skipped : Nat
  misses : Nat
  batchMissed : Bool
  last : Option SlotRecord
  deriving DecidableEq, Repr

/-! ### Heat balance (Chapter 4) -/

structure EnvelopeSettings where
  nominalHeat : Nat
  maxHeat : Nat
  lightOffHeat : Nat
  lightOffRamp : Nat
  satLowLimit : Nat
  satCeilingPct : Nat
  surgeCutback : Nat
  deriving DecidableEq, Repr

/-- The heats of one line (Table 4-1); what the line last handed stands in its line record, and its allowed rate and
cut flag too. -/
structure HeatEntry where
  requested : Nat
  floor : Nat
  allowed : Nat
  commanded : Nat
  deriving DecidableEq, Repr

/-- The heat balance (Table 4-1). The BURNER value stands in the burner record, MAX in the envelope, the SAT value and
the ALARM value are formed from the cooler's SAT-low condition and from the claims. -/
structure Heat where
  entries : Vector HeatEntry 6
  operator : Option Nat
  surge : Option Nat
  /-- cut-back claims: point number and percentage, ascending -/
  claims : List (Nat × Nat)
  effective : Nat
  binding : CeilingSource
  active : Option CeilingSource
  cutOrder : List (Fin 6)
  heatCut : Bool
  /-- the changes of the HEAT_CUT condition handed within the event in progress, in their order, and not yet taken by the
  alarm unit (model) -/
  cutChanges : List Bool
  /-- a commanded rate has changed within the event in progress, and the Drive Link image has not taken it up (model) -/
  ratesChanged : Bool
  totalRequested : Nat
  totalAllowed : Nat
  totalCommanded : Nat
  deriving DecidableEq, Repr

/-! ### Clinker cooler (Chapter 5) -/

structure CoolerSettings where
  fanStartDelay : Nat
  fanRunOn : Nat
  fanMinSpeed : Vector Nat 12
  fanThreshold : Vector Nat 12
  boostSpeed : Nat
  bedBase : Nat
  bedGain : Nat
  bedSetpoint : Nat
  bedMin : Nat
  bedMax : Nat
  surgeRise : Nat
  surgeWindow : Nat
  surgeLevel : Nat
  releaseLevel : Nat
  releaseTime : Nat
  surgeRate : Nat
  blasterRevs : Nat
  blasterInterval : Nat
  deriving DecidableEq, Repr

structure Grate where
  state : GrateState
  mode : GrateMode
  fixedRate : Nat
  ratio : Nat
  commanded : Nat
  /-- the reference time of the motion watch, `none` while it is stopped (R100) -/
  watch : Option Nat
  deriving DecidableEq, Repr

structure Chamber where
  setSpeed : Nat
  commanded : Nat
  fault : Bool
  /-- the low-current timer (R101) -/
  lowAt : Option Nat
  /-- the low-current timer has expired and its conditions still hold -/
  lowExpired : Bool
  deriving DecidableEq, Repr

/-- The cooler (Table 5-2). -/
structure Cooler where
  cfg : CoolerSettings
  state : CoolerState
  sequence : Option (SequenceTimer × Nat)
  /-- in STARTING: how many of G4, G3, G2, G1 have had their turn -/
  started : Nat
  /-- in STOPPING: the grates of the stop list not yet stopped -/
  stopList : List (Fin 4)
  grates : Vector Grate 4
  lead : Nat
  bed : Nat
  bedAt : Option Nat
  chambers : Vector Chamber 12
  bedMean : Option Int
  /-- the surge history: floor time and mean, oldest first -/
  history : List (Nat × Int)
  releaseAt : Option Nat
  satLow : Bool
  blasters : Bool
  pulseCount : Nat
  /-- the next blaster, 1–8, and its due time -/
  cycle : Option (Nat × Nat)
  /-- the blaster output that is on, 1–8, and the end of its pulse -/
  blasterOut : Option (Nat × Nat)
  deriving DecidableEq, Repr

/-! ### Field unit (Chapter 6) -/

structure FieldSettings where
  /-- DI2 to DI24 -/
  debounce : Vector Nat 23
  scanPeriod : Nat
  kilnStopTime : Nat
  /-- in 0.1 s -/
  valveProofTime : Nat
  deriving DecidableEq, Repr

structure Input where
  raw : Bool
  level : Bool
  dueAt : Option Nat
  deriving DecidableEq, Repr

structure Channel where
  value : Int
  quality : Quality
  deriving DecidableEq, Repr

/-- The rotation monitor (R112). -/
structure Rotation where
  turning : Bool
  last : Option Nat
  stopAt : Option Nat
  period : Option Nat
  deriving DecidableEq, Repr

/-- A valve watch (R118): SV1 to SV6 and PV. -/
structure Valve where
  openCommand : Bool
  phase : WatchPhase
  proofAt : Option Nat
  deriving DecidableEq, Repr

/-- An output diagnostic record (R117). -/
structure DiagRecord where
  state : DiagState
  checked : Bool
  deriving DecidableEq, Repr

structure Field where
  cfg : FieldSettings
  inputs : Vector Input 24
  counters : Vector Nat 11
  rotation : Rotation
  channels : Vector Channel 32
  scanAt : Option Nat
  linkFault : Bool
  lastScan : Option Nat
  validScans : Nat
  ignoredScans : Nat
  receiver : Receiver
  valves : Vector Valve 7
  records : Vector DiagRecord 23
  openCheck : Bool
  closeCheck : Bool
  motionCheck : Bool
  /-- the Drive Link output image: RO1–RO6, GR1–GR4, FN1–FN12 -/
  image : Vector Nat 22
  /-- when the image first changed since the last frame began, `none` if it has not -/
  changedAt : Option Nat
  frameCount : Nat
  frameAt : Nat
  /-- the values the last Drive Link frame carries -/
  frameValues : Vector Nat 22
  deriving DecidableEq, Repr

/-! ### Alarm unit (Chapter 7) -/

structure PointDef where
  source : PointSource
  cls : PointClass
  onDelay : Nat
  offDelay : Nat
  group : Group
  cutBack : Nat
  deriving DecidableEq, Repr

/-- A point record (Table 7-1). Its one running delay timer is the on-delay while it is inactive and the off-delay
while it is active (R130). -/
structure Point where
  defn : PointDef
  state : PointState
  condition : Bool
  active : Bool
  delayAt : Option Nat
  expiry : Option Nat
  lastChange : Option Nat
  deriving DecidableEq, Repr

/-- A change record (Table 7-6). -/
structure Change where
  sequence : Nat
  time : Nat
  point : Nat
  cls : PointClass
  old : PointState
  new : PointState
  value : Option Int
  deriving DecidableEq, Repr

structure Alarm where
  points : Vector Point 96
  /-- the shelf list: point and expiry, earliest first -/
  shelf : List (Fin 96 × Nat)
  changes : List Change
  overrun : Bool
  /-- the sequence number of the next change record -/
  nextSequence : Nat
  raises : List Nat
  flood : Bool
  reviewAt : Option Nat
  reviewCount : Nat
  horn : Bool
  standing : Nat
  /-- the ALARM settings F and W and the link silence time (Table 7-7) -/
  floodThreshold : Nat
  floodWindow : Nat
  silenceTime : Nat
  /-- the flood threshold F in force: the setting as it stood at the latest raise (R145) -/
  raiseThreshold : Nat
  /-- conditions of fixed points handed within the event in progress, in their order, and not yet taken (model). A pulse
  is a true and then a false -/
  handed : List (Fin 96 × Bool)
  deriving DecidableEq, Repr

/-! ### Attention unit (Chapter 8) -/

/-- The request and arm flags and the frame-owed flag (R149). The vector is formed from the flags. -/
structure Attention where
  request : ClassSet
  arm : ClassSet
  owed : Bool
  deriving DecidableEq, Repr

/-! ### Shift recorder (Chapter 9) -/

/-- A duration accumulator (R161): the ms accrued, and since when its condition holds. -/
structure Duration where
  total : Nat
  since : Option Nat
  deriving DecidableEq, Repr

structure LineTotals where
  mass : Nat
  /-- in J -/
  heat : Nat
  retired : Nat
  deviation : Duration
  cut : Duration
  fed : Nat
  missed : Nat
  skipped : Nat
  aborted : Nat
  deriving DecidableEq, Repr

/-- The accumulators of a shift (Table 9-2). -/
structure Totals where
  lines : Vector LineTotals 6
  firing : Duration
  lockout : Duration
  trips : Nat
  purgeStarts : Nat
  strokes : Vector Nat 4
  surges : Nat
  surgeTime : Duration
  blastersFired : Nat
  blastersSkipped : Nat
  /-- raises of class TRIP, URGENT, ROUTINE, RECORD -/
  raises : Vector Nat 4
  floods : Nat
  floodTime : Duration
  maxStanding : Nat
  shelves : Nat
  /-- ceiling-active time of OPERATOR, COOLER, ALARM, BURNER, MAX -/
  ceilings : Vector Duration 5
  deriving DecidableEq, Repr

structure ShiftEvent where
  time : Nat
  kind : EventKind
  deriving DecidableEq, Repr

/-- The open shift (Table 9-1). -/
structure OpenShift where
  sequence : Nat
  index : Nat
  openFloor : Nat
  openCalendar : Option DateTime
  cause : OpenCause
  totals : Totals
  events : List ShiftEvent
  notListed : Nat
  deriving DecidableEq, Repr

/-- A report (Table 9-4). -/
structure Report where
  shift : OpenShift
  closeFloor : Nat
  closeCalendar : Option DateTime
  cause : CloseCause
  released : Bool
  overwrote : Option Nat
  deriving DecidableEq, Repr

/-- The peek snapshot (R167). -/
structure Peek where
  shift : OpenShift
  floor : Nat
  calendar : Option DateTime
  deriving DecidableEq, Repr

structure Shift where
  /-- the calendar clock, `none` while invalid, with the floor time of its next second (R157) -/
  clock : Option (DateTime × Nat)
  schedule : List Nat
  current : OpenShift
  peek : Option Peek
  store : List Report
  deriving DecidableEq, Repr

/-! ### The whole part -/

/-- A reset in progress (R175): its kind, and whether a RESTART is among its causes and has not ended. -/
structure ResetRun where
  kind : ResetKind
  restart : Bool
  deriving DecidableEq, Repr

/-- The 4260, and the queue of commands that wait for it, first in, first out. -/
structure State where
  /-- 48-bit count of ms (R172) -/
  floorTime : Nat
  /-- the reset in progress, if any -/
  resetRun : Option ResetRun
  /-- the RESET pin is low; the supply is below its working level -/
  pinLow : Bool
  supplyLow : Bool
  restartCause : RestartCause
  /-- RESTART was answered and its reply has not ended -/
  restartPending : Option ResetKind
  link : Link
  burner : Burner
  lines : Vector Line 6
  /-- the batch records of L5 and L6 -/
  batches : Vector Batch 2
  envelope : EnvelopeSettings
  heat : Heat
  cooler : Cooler
  field : Field
  alarm : Alarm
  attention : Attention
  shift : Shift
  pending : List Instr
  deriving DecidableEq, Repr

/-! ### The state after reset -/

/-- The defaults of Table 1-8. -/
def BurnerSettings.default : BurnerSettings :=
  { voting := .oneOfTwo, ffrt := 2, purgeTime := 300, purgeAir := 70, minAir := 25, ignitionTrial := 10, mainTrial := 15,
    lightOff := #v[100, 100], tolerance := #v[6, 6], stepRate := #v[100, 100] }

/-- The defaults of Table 2-2. -/
def LineSettings.default : LineSettings :=
  { kind := .continuous, maxRate := 20000, minRate := 0, gramsPerPulse := 1000, shutRamp := 6000, deviationLimit := 10,
    deviationTime := 60, lowWater := 0, noticeDelay := 0, gateDelay := 2 }

/-- The defaults of Table 4-3. -/
def EnvelopeSettings.default : EnvelopeSettings :=
  { nominalHeat := 100000, maxHeat := 110000, lightOffHeat := 15000, lightOffRamp := 5000, satLowLimit := 600,
    satCeilingPct := 60, surgeCutback := 20 }

/-- The defaults of Table 5-3. -/
def CoolerSettings.default : CoolerSettings :=
  { fanStartDelay := 30, fanRunOn := 120, fanMinSpeed := Vector.replicate 12 200, fanThreshold := Vector.replicate 12 50,
    boostSpeed := 900, bedBase := 120, bedGain := 4, bedSetpoint := 50, bedMin := 40, bedMax := 250, surgeRise := 15,
    surgeWindow := 10, surgeLevel := 90, releaseLevel := 60, releaseTime := 60, surgeRate := 250, blasterRevs := 20,
    blasterInterval := 5 }

/-- The defaults of Table 6-7. -/
def FieldSettings.default : FieldSettings :=
  { debounce := Vector.replicate 23 20, scanPeriod := 500, kilnStopTime := 120, valveProofTime := 30 }

/-- An actuator record after a cold reset (R25). -/
def Actuator.reset : Actuator :=
  { position := none, target := none, motion := .still, verify := .unverified, owner := .sequence, homeFault := false,
    mismatchHeld := false, lastOutcome := none, dueAt := none, homeSteps := 0, direction := false }

/-- The burner record after a reset that enters LOCKOUT with first-out record `fo` (Table 1-2). -/
def Burner.reset (cfg : BurnerSettings) (fo : FirstOut) (flame : Bool) (actuators : Vector Actuator 2)
    (previous : Option (FirstOut × Nat)) (lastStop : Option StopReason) : Burner :=
  { cfg := cfg, state := .lockout, firstOut := some fo, claims := 0, previous := previous, lastStop := lastStop,
    purgeSince := none, purgeStarted := false, giveUpAt := none, ignitionTrialAt := none, flameProofAt := none,
    pilotHoldAt := none, mainTrialAt := none, flameLossAt := none, airLossAt := none, rampFrom := none, rampDone := 0,
    flame := flame, ceiling := none, igniter := false, firingRelay := false, actuators := actuators }

/-- A line record after a reset at floor time `now` (Table 2-1). -/
def Line.reset (cfg : LineSettings) (lifetime now : Nat) : Line :=
  { cfg := cfg, state := .shut, cv := 25000, priority := 4, requested := 0, allowed := 0, cut := false, commanded := 0,
    measured := 0, window := [], measuredAt := now, deviation := false, deviationAt := none, queue := [], progress := none,
    shutRamp := none, completions := [], overrun := false, noticeAt := none, completionFlag := false, lowWaterFlag := false,
    emptyFlag := false, stateFlag := false, posted := 0, retired := 0, discarded := 0, lifetime := lifetime }

/-- A batch record after either reset (Table 3-2). -/
def Batch.reset : Batch :=
  { indexCount := 0, opened := 0, credit := 0, slot := none, before := none, gateOpen := false, idle := 0, fed := 0,
    missed := 0, skipped := 0, misses := 0, batchMissed := false, last := none }

/-- The heat balance after a cold reset (Table 4-1). -/
def Heat.reset : Heat :=
  { entries := Vector.replicate 6 { requested := 0, floor := 0, allowed := 0, commanded := 0 }, operator := none,
    surge := none, claims := [], effective := 110000, binding := .max, active := none, cutOrder := [5, 4, 3, 2, 1, 0],
    heatCut := false, cutChanges := [], ratesChanged := false, totalRequested := 0, totalAllowed := 0, totalCommanded := 0 }

/-- A grate after a cold reset (Table 5-2). -/
def Grate.reset (mode : GrateMode) : Grate :=
  { state := .still, mode := mode, fixedRate := 100, ratio := 100, commanded := 0, watch := none }

/-- The cooler after a reset, given what the two resets treat differently (Table 5-2). -/
def Cooler.reset (cfg : CoolerSettings) (grates : Vector Grate 4) (chambers : Vector Chamber 12) : Cooler :=
  { cfg := cfg, state := .stopped, sequence := none, started := 0, stopList := [], grates := grates, lead := 0, bed := 0,
    bedAt := none, chambers := chambers, bedMean := none, history := [], releaseAt := none, satLow := false,
    blasters := false, pulseCount := 0, cycle := none, blasterOut := none }

/-- The rotation monitor after either reset (R112). -/
def Rotation.reset : Rotation := { turning := false, last := none, stopAt := none, period := none }

/-- An input whose raw level is inactive, after a reset. -/
def Input.inactive : Input := { raw := false, level := false, dueAt := none }

/-- A valve commanded closed and not shown closed, its proof ending at `due` (R118). -/
def Valve.provingClosed (due : Nat) : Valve := { openCommand := false, phase := .proving, proofAt := some due }

/-- The field unit after a cold reset at which every input's raw level is inactive (R110 to R118). -/
def Field.reset : Field :=
  { cfg := FieldSettings.default, inputs := Vector.replicate 24 Input.inactive, counters := Vector.replicate 11 0,
    rotation := Rotation.reset, channels := Vector.replicate 32 { value := 0, quality := .bad }, scanAt := some 1500,
    linkFault := false, lastScan := none, validScans := 0, ignoredScans := 0, receiver := .hunting,
    valves := Vector.replicate 7 (Valve.provingClosed 3000),
    records := Vector.replicate 23 { state := .powerup, checked := true }, openCheck := true, closeCheck := true,
    motionCheck := true, image := Vector.replicate 22 0, changedAt := none, frameCount := 0, frameAt := 0,
    frameValues := Vector.replicate 22 0 }

/-- The definition of a fixed point (R126). -/
def PointDef.fixed (cls : PointClass) : PointDef :=
  { source := .internal, cls := cls, onDelay := 0, offDelay := 0, group := .none, cutBack := 0 }

/-- The default definition of a configurable point (Table 7-2). -/
def PointDef.default : PointDef :=
  { source := .discrete 23 true, cls := .routine, onDelay := 0, offDelay := 0, group := .none, cutBack := 0 }

/-- The definitions of the 96 points after a cold reset: Table 7-3, then the default (R125). -/
def PointDef.table : Vector PointDef 96 :=
  ofList
    ([PointClass.routine, .routine, .urgent, .routine, .urgent, .routine, .urgent, .urgent, .urgent, .urgent, .routine,
      .routine, .routine, .routine, .urgent, .urgent].map PointDef.fixed ++ List.replicate 80 PointDef.default) rfl

/-- A point in NORMAL, or DISABLED, with nothing running (R125). -/
def Point.fresh (defn : PointDef) (state : PointState) : Point :=
  { defn := defn, state := state, condition := false, active := false, delayAt := none, expiry := none, lastChange := none }

/-- The 96 points right after a cold reset and its first evaluations: point 1 has pulsed, point 10 is raised because
every valve record holds POWERUP, the other fixed points are NORMAL and the configurable ones DISABLED. -/
def Point.resetTable : Vector Point 96 :=
  ofList
    ([{ Point.fresh (.fixed .routine) .returned with lastChange := some 0 },
      Point.fresh (.fixed .routine) .normal, Point.fresh (.fixed .urgent) .normal, Point.fresh (.fixed .routine) .normal,
      Point.fresh (.fixed .urgent) .normal, Point.fresh (.fixed .routine) .normal, Point.fresh (.fixed .urgent) .normal,
      Point.fresh (.fixed .urgent) .normal, Point.fresh (.fixed .urgent) .normal,
      { Point.fresh (.fixed .urgent) .raised with condition := true, active := true, lastChange := some 0 },
      Point.fresh (.fixed .routine) .normal, Point.fresh (.fixed .routine) .normal,
      Point.fresh (.fixed .routine) .normal, Point.fresh (.fixed .routine) .normal, Point.fresh (.fixed .urgent) .normal,
      Point.fresh (.fixed .urgent) .normal]
    ++ List.replicate 80 (Point.fresh PointDef.default .disabled)) rfl

/-- The alarm unit right after a cold reset and its first evaluations (R125, R126). -/
def Alarm.reset : Alarm :=
  { points := Point.resetTable, shelf := [],
    changes := [{ sequence := 1, time := 0, point := 1, cls := .routine, old := .normal, new := .raised, value := none },
      { sequence := 2, time := 0, point := 1, cls := .routine, old := .raised, new := .returned, value := none },
      { sequence := 3, time := 0, point := 10, cls := .urgent, old := .normal, new := .raised, value := none }],
    overrun := false, nextSequence := 4, raises := [0, 0], flood := false, reviewAt := none, reviewCount := 0, horn := true,
    standing := 2, floodThreshold := 20, floodWindow := 60, silenceTime := 0,
    raiseThreshold := 20, handed := [] }

def Duration.zero : Duration := { total := 0, since := none }

def LineTotals.zero : LineTotals :=
  { mass := 0, heat := 0, retired := 0, deviation := .zero, cut := .zero, fed := 0, missed := 0, skipped := 0, aborted := 0 }

/-- Accumulators at 0 with no condition holding. -/
def Totals.zero : Totals :=
  { lines := Vector.replicate 6 .zero, firing := .zero, lockout := .zero, trips := 0, purgeStarts := 0,
    strokes := Vector.replicate 4 0, surges := 0, surgeTime := .zero, blastersFired := 0, blastersSkipped := 0,
    raises := Vector.replicate 4 0, floods := 0, floodTime := .zero, maxStanding := 0, shelves := 0,
    ceilings := Vector.replicate 5 .zero }

/-- Shift 1 as a cold reset opens it (R156). -/
def OpenShift.first : OpenShift :=
  { sequence := 1, index := 0, openFloor := 0, openCalendar := none, cause := .coldReset, totals := .zero, events := [],
    notListed := 0 }

/-- The shift recorder after a cold reset, its schedule the default 06:00, 14:00 and 22:00 (Table 9-1). -/
def Shift.fresh : Shift :=
  { clock := none, schedule := [360, 840, 1320], current := .first, peek := none, store := [] }

/-- The recorder after the first evaluations of a cold reset: the two raises and their standing count are counted, and
the lockout time accrues from floor time 0. -/
def Shift.reset : Shift :=
  { Shift.fresh with
    current := { OpenShift.first with
      totals := { Totals.zero with
        lockout := { total := 0, since := some 0 }, raises := #v[0, 1, 1, 0], maxStanding := 2 } } }

/-- The attention frame (Table 11-2): type 0x7F, tag 0, no payload. -/
def Frame.attention : Frame := { type := 0x7F, tag := 0, payload := [], reply := false }

/-- The link port right after a cold reset with both strap pins low: the attention frame is being sent (R155, R175). -/
def Link.reset : Link :=
  { unanswered := false, sending := some .attention, waiting := [], discarded := 0, silenceAt := none, silent := false,
    locks := Vector.replicate 7 false, strapBR1 := false, strapBR0 := false, baud := 19200, receiver := .hunting }

/-- The 4260 right after the cold reset that the supply monitor ends, every input line inactive (R175, R110).
`Sys2Proof.Laws.reset_is_cold_reset` shows that it is what the end of that reset gives. -/
def State.reset : State :=
  { floorTime := 0, resetRun := none, pinLow := false, supplyLow := false, restartCause := .coldSupply,
    restartPending := none, link := .reset,
    burner := .reset .default { cause := .powerRestored, point := none, stateAtTrip := .lockout, time := 0 } false
      (Vector.replicate 2 .reset) none none,
    lines := Vector.replicate 6 (.reset .default 0 0), batches := Vector.replicate 2 .reset, envelope := .default,
    heat := .reset,
    cooler := .reset .default #v[.reset .bed, .reset .follow, .reset .follow, .reset .follow]
      (Vector.replicate 12 { setSpeed := 500, commanded := 0, fault := false, lowAt := none, lowExpired := false }),
    field := .reset, alarm := .reset,
    attention := { request := 0x82#8, arm := 0xFF#8, owed := false }, shift := .reset, pending := [] }

end Sys2Proof.Machine
end

