-- ==== Sys2Proof/Machine/Ops.lean ====
section
/-! DEFINITION. The operations every block uses: timers on floor time, attention requests, shift events and counts, the
lock groups, valve commands, and the fields of a reply as bytes (R176). -/

namespace Sys2Proof.Machine

/-! ### Places in the fixed tables -/

/-- Every line, grate, chamber, valve and point, in ascending number. -/
def allLines : List (Fin 6) := [0, 1, 2, 3, 4, 5]
def allGrates : List (Fin 4) := [0, 1, 2, 3]
def allActuators : List (Fin 2) := [0, 1]
def allValves : List (Fin 7) := [0, 1, 2, 3, 4, 5, 6]
def allChambers : List (Fin 12) := List.finRange 12
def allPoints : List (Fin 96) := List.finRange 96
def allRecords : List (Fin 23) := List.finRange 23

/-- The valve SV of a line, and PV (Table 6-6). -/
def svOf (l : Fin 6) : Fin 7 := ⟨l.val, by omega⟩
def pv : Fin 7 := 6

/-- The line whose valve this is, if it is not PV. -/
def lineOfValve (v : Fin 7) : Option (Fin 6) := if h : v.val < 6 then some ⟨v.val, h⟩ else none

/-- The batch record of L5 and L6, and the line of a batch record. -/
def batchOf (l : Fin 6) : Option (Fin 2) := if l.val = 4 then some 0 else if l.val = 5 then some 1 else none
def lineOfBatch (b : Fin 2) : Fin 6 := if b.val = 0 then 4 else 5

/-- The output diagnostic record of a valve, a grate and a fan (Table 6-6). -/
def recordOfValve (v : Fin 7) : Fin 23 := ⟨v.val, by omega⟩
def recordOfGrate (g : Fin 4) : Fin 23 := ⟨g.val + 7, by omega⟩
def recordOfFan (k : Fin 12) : Fin 23 := ⟨k.val + 11, by omega⟩

/-! ### Timers (R172) -/

/-- A timer has expired by `now`. A stopped timer has not. -/
def isDue (t : Option Nat) (now : Nat) : Bool :=
  match t with
  | some d => d ≤ now
  | none => false

/-- The remaining time of a timer, 0 if it is stopped. It is 0 too once the timer has expired and its event still waits,
which is the model's choice, log entry 12. -/
def remaining (t : Option Nat) (now : Nat) : Nat :=
  match t with
  | some d => d - now
  | none => 0

/-- A timer that runs while `on` holds: it keeps running, starts at `now + time`, or stops (R13, R19, R20, R101). -/
def runWhile (on : Bool) (t : Option Nat) (now time : Nat) : Option Nat :=
  if on then (match t with | some d => some d | none => some (now + time)) else none

/-- More than `limit` ms have passed by `now` since the last byte of the frame in progress (R114, R168). -/
def Receiver.gapOver (r : Receiver) (limit now : Nat) : Bool :=
  match r with
  | .hunting => false
  | .inFrame _ last => decide (last + limit < now)

/-- The receiver once a gap has ended the frame it held: it hunts. A frame begun since is not touched. -/
def Receiver.afterGap (r : Receiver) (limit now : Nat) : Receiver := if r.gapOver limit now then .hunting else r

/-! ### Counts of stated width (R160) -/

def max32 : Nat := 4294967295
def max16 : Nat := 65535

/-- Add to a count that stops at the greatest value of its 32-bit width. -/
def add32 (n k : Nat) : Nat := min max32 (n + k)

/-- Add 1 to a count that stops at 65 535. -/
def inc16 (n : Nat) : Nat := min max16 (n + 1)

/-- Add 1 to a count that wraps at 32 bits (R111, R114). -/
def wrap32 (n : Nat) : Nat := (n + 1) % 4294967296

/-! ### Updates of one block -/

namespace State

def modLink (s : State) (f : Link → Link) : State := { s with link := f s.link }
def modBurner (s : State) (f : Burner → Burner) : State := { s with burner := f s.burner }
def modLine (s : State) (l : Fin 6) (f : Line → Line) : State := { s with lines := upd s.lines l f }
def modBatch (s : State) (b : Fin 2) (f : Batch → Batch) : State := { s with batches := upd s.batches b f }
def modHeat (s : State) (f : Heat → Heat) : State := { s with heat := f s.heat }
def modCooler (s : State) (f : Cooler → Cooler) : State := { s with cooler := f s.cooler }
def modField (s : State) (f : Field → Field) : State := { s with field := f s.field }
def modAlarm (s : State) (f : Alarm → Alarm) : State := { s with alarm := f s.alarm }
def modAttention (s : State) (f : Attention → Attention) : State := { s with attention := f s.attention }
def modShift (s : State) (f : Shift → Shift) : State := { s with shift := f s.shift }

/-- Change one actuator record. -/
def modActuator (s : State) (a : Fin 2) (f : Actuator → Actuator) : State :=
  s.modBurner fun b => { b with actuators := upd b.actuators a f }

/-- Change one grate or chamber record. -/
def modGrate (s : State) (g : Fin 4) (f : Grate → Grate) : State :=
  s.modCooler fun c => { c with grates := upd c.grates g f }
def modChamber (s : State) (k : Fin 12) (f : Chamber → Chamber) : State :=
  s.modCooler fun c => { c with chambers := upd c.chambers k f }

/-- Change one point record. -/
def modPoint (s : State) (p : Fin 96) (f : Point → Point) : State :=
  s.modAlarm fun a => { a with points := upd a.points p f }

/-- Change the accumulators of the open shift (R160). -/
def modTotals (s : State) (f : Totals → Totals) : State :=
  s.modShift fun h => { h with current := { h.current with totals := f h.current.totals } }

/-- Change one line's accumulators in the open shift. -/
def modLineTotals (s : State) (l : Fin 6) (f : LineTotals → LineTotals) : State :=
  s.modTotals fun t => { t with lines := upd t.lines l f }

end State

/-! ### Attention requests (R149 to R151) -/

/-- The class as a set of one, in its bit (R176). -/
def AttentionClass.set (c : AttentionClass) : ClassSet := 1#8 <<< c.ctorIdx

/-- The attention vector: the classes whose request and arm flags are both set (R149). -/
def Attention.vector (a : Attention) : ClassSet := a.request &&& a.arm

/-- Change the flags. The attention frame becomes owed when the vector goes from empty to non-empty (R151). -/
def Attention.setFlags (a : Attention) (request arm : ClassSet) : Attention :=
  { request := request, arm := arm, owed := a.owed || (a.vector == 0#8 && request &&& arm != 0#8) }

/-- An owner raises a request for a class (R150). -/
def State.raise (s : State) (c : AttentionClass) : State :=
  s.modAttention fun a => a.setFlags (a.request ||| c.set) a.arm

/-! ### Shift events (R162) -/

/-- Hand the recorder an event: listed while fewer than 48 are, counted as not listed otherwise. -/
def State.addEvent (s : State) (k : EventKind) : State :=
  s.modShift fun h =>
    { h with
      current :=
        if h.current.events.length < 48 then
          { h.current with events := h.current.events ++ [{ time := s.floorTime, kind := k }] }
        else { h.current with notListed := add32 h.current.notListed 1 } }

/-! ### Lock groups (R174) -/

def State.locked (s : State) (g : LockGroup) : Bool :=
  match g with
  | .burner => s.link.locks[0]
  | .fuel => s.link.locks[1]
  | .envelope => s.link.locks[2]
  | .cooler => s.link.locks[3]
  | .alarm => s.link.locks[4]
  | .field => s.link.locks[5]
  | .shift => s.link.locks[6]

/-! ### Signals -/

/-- The debounced level of DI*n* (R109). -/
def State.di (s : State) (n : Fin 24) : Bool := s.field.inputs[n.val].level

/-- The record of AI*n* (R114). -/
def State.ai (s : State) (n : Fin 32) : Channel := s.field.channels[n.val]

/-- The channels of chamber pressure, fan current, batch scale and position feedback (Table 6-3). -/
def pressureOf (k : Fin 12) : Fin 32 := ⟨k.val + 2, by omega⟩
def currentOf (k : Fin 12) : Fin 32 := ⟨k.val + 14, by omega⟩
def scaleOf (b : Fin 2) : Fin 32 := ⟨b.val + 26, by omega⟩
def feedbackOf (a : Fin 2) : Fin 32 := ⟨a.val + 28, by omega⟩

/-- The home switch of an actuator, and the doser ready input of a batch line (Table 6-1). -/
def homeOf (a : Fin 2) : Fin 24 := ⟨a.val + 17, by omega⟩
def readyOf (b : Fin 2) : Fin 24 := ⟨b.val + 19, by omega⟩

/-! ### Valve commands (R118) -/

/-- Command a valve. At a change of its command the watch starts PROVING; at no change it runs on. -/
def State.commandValve (s : State) (v : Fin 7) (toOpen : Bool) : State :=
  if s.field.valves[v.val].openCommand = toOpen then s
  else
    s.modField fun f =>
      { f with
        valves := upd f.valves v fun _ =>
          { openCommand := toOpen, phase := .proving, proofAt := some (s.floorTime + f.cfg.valveProofTime * 100) } }

/-! ### Fields as bytes (R176) -/

/-- The low `8 × k` bits of a number, most significant byte first. -/
def beBytes : Nat → Nat → List Byte
  | 0, _ => []
  | k + 1, n => BitVec.ofNat 8 (n / 256 ^ k) :: beBytes k n

/-- A signed value of two bytes in two's complement. -/
def signed2 (v : Int) : List Byte := beBytes 2 (v % 65536).toNat

/-- A field of two states. -/
def flag (b : Bool) : List Byte := [if b then 1 else 0]

/-- A set of up to eight members as bits, the first in bit 0. -/
def bitSet (l : List Bool) : Nat := l.foldr (fun b n => 2 * n + b.toNat) 0

/-- An optional field: a presence byte, then its full width, zeros when absent. -/
def opt {α : Type} (width : Nat) (o : Option α) (f : α → List Byte) : List Byte :=
  match o with
  | some a => 1 :: f a
  | none => 0 :: List.replicate width 0

/-- A calendar time (Table 11-1). -/
def calendarBytes (d : DateTime) : List Byte :=
  [d.year - 2000, d.month, d.day, d.hour, d.minute, d.second].map (BitVec.ofNat 8)

/-- The CRC-16 of the Floor Link, Sensor Link and Drive Link (R114, R116, R168): polynomial 0x1021, most significant
bit first, no reflection and no final exclusive or. -/
def crcShift : Nat → BitVec 16 → BitVec 16
  | 0, c => c
  | k + 1, c => crcShift k (if c.msb then (c <<< 1) ^^^ 0x1021#16 else c <<< 1)

def crc16 (bytes : List Byte) : BitVec 16 :=
  bytes.foldl (fun c b => crcShift 8 (c ^^^ (b ++ 0#8))) 0xFFFF#16

/-- A frame as it stands on the line (Table 11-2). -/
def Frame.bytes (f : Frame) : List Byte :=
  let body := BitVec.ofNat 8 (f.payload.length + 2) :: BitVec.ofNat 8 f.type :: f.tag :: f.payload
  0xC3 :: body ++ beBytes 2 (crc16 body).toNat

/-- A Drive Link frame as it stands on the line (section 11.2). -/
def driveBytes (values : List Nat) (count : Nat) : List Byte :=
  let body := (values.map (beBytes 2)).flatten ++ beBytes 1 count
  0x3C :: body ++ beBytes 2 (crc16 body).toNat

end Sys2Proof.Machine
end

