-- ==== Sys2Proof/WellFormed.lean ====
section
/-! DEFINITION. Which commands a frame or an event can spell: the operands that a constructor's type leaves too wide
(Table 11-4, R169, R177). -/

namespace Sys2Proof

/-- The payload lengths that a request type takes, `none` for a type that is not a request type (Table 11-4). -/
def payloadLengths (type : Nat) : Option (List Nat) :=
  match type with
  | 0x01 | 0x03 | 0x04 | 0x05 | 0x06 | 0x22 | 0x23 | 0x28 | 0x29 | 0x2C | 0x2D | 0x2F | 0x40 | 0x41 | 0x48 | 0x52 | 0x53
  | 0x55 | 0x60 | 0x61 => some [0]
  | 0x07 | 0x08 | 0x0B | 0x12 | 0x13 | 0x14 | 0x15 | 0x16 | 0x30 | 0x31 | 0x3C | 0x3D | 0x3E | 0x3F | 0x49 | 0x4A | 0x54
  | 0x62 | 0x63 | 0x64 => some [1]
  | 0x0A | 0x3A => some [2]
  | 0x09 | 0x2B | 0x3B => some [3]
  | 0x21 | 0x2A | 0x32 | 0x39 | 0x57 => some [4]
  | 0x56 => some [5]
  | 0x50 => some [6]
  | 0x38 => some [14]
  | 0x02 | 0x10 => some [16]
  | 0x20 => some [18]
  | 0x33 => some [28]
  | 0x2E => some [74]
  | 0x11 => some [12, 22, 32, 42]
  | 0x51 => some [3, 5, 7, 9]
  | _ => none

/-- A type and a payload length that are answered BAD_LENGTH. POST ORDERS and SET SCHEDULE can carry a count that does
not fit a length they take (R177). -/
def wrongLength (type length : Nat) : Bool :=
  match payloadLengths type with
  | none => false
  | some l => length ≤ 248 && (!l.contains length || type = 0x11 || type = 0x51)

/-- The command is one that a frame or an event spells. -/
def Instr.wellFormed : Instr → Bool
  | .postOrders _ _ orders => 1 ≤ orders.length && orders.length ≤ 4
  | .setSchedule _ times => 1 ≤ times.length && times.length ≤ 4
  | .acknowledgePoint _ target _ => target != 1
  | .restartCold _ kind => kind != 1
  | .unknownTypeRequest type _ => (payloadLengths type.toNat).isNone
  | .badLengthRequest type _ length => wrongLength type.toNat length
  | _ => true

end Sys2Proof
end

