-- ==== Sys2Proof/Decode.lean ====
section
/-! DEFINITION. What bytes spell which command: the two receivers byte by byte with their gap limits (R114, R168), the request
of a valid Floor Link frame (R169, R176, R177), the scan of a Sensor Link frame (section 11.2), and a byte's arrival at the
part.

No row of the command table gives bits, so `decodeTableWord` answers none for every word. -/

namespace Sys2Proof

open Sys2Proof.Machine

/-- No row of spec/opcode_table.json gives bits. -/
def decodeTableWord (_nbits _w : Nat) : Option Instr := none

/-! ### Fields of a payload (R176) -/

/-- The byte at an offset. -/
def byteAt (p : List Byte) (k : Nat) : Byte := p.getD k 0

/-- A field of two bytes, and of four, the most significant first. -/
def wordAt (p : List Byte) (k : Nat) : BitVec 16 := byteAt p k ++ byteAt p (k + 1)
def longAt (p : List Byte) (k : Nat) : BitVec 32 := wordAt p k ++ wordAt p (k + 2)

/-- A table of fields from an offset. -/
def bytesFrom (n : Nat) (p : List Byte) (k : Nat) : Vector Byte n := ofList ((List.range n).map fun i => byteAt p (k + i)) (by simp)
def wordsFrom (n : Nat) (p : List Byte) (k : Nat) : Vector (BitVec 16) n :=
  ofList ((List.range n).map fun i => wordAt p (k + 2 * i)) (by simp)

/-! ### The payloads of the setting requests, in the order of their tables (R176) -/

def burnerFields (p : List Byte) : BurnerFields :=
  { voting := byteAt p 0, ffrt := byteAt p 1, purgeTime := wordAt p 2, purgeAir := byteAt p 4, minAir := byteAt p 5,
    ignitionTrial := byteAt p 6, mainTrial := byteAt p 7, lightOffAxial := wordAt p 8, lightOffSwirl := wordAt p 10,
    toleranceAxial := byteAt p 12, toleranceSwirl := byteAt p 13, stepRateAxial := byteAt p 14,
    stepRateSwirl := byteAt p 15 }

/-- The settings of CONFIGURE LINE behind the line number. -/
def lineFields (p : List Byte) : LineFields :=
  { kind := byteAt p 1, maxRate := wordAt p 2, minRate := wordAt p 4, gramsPerPulse := wordAt p 6,
    shutRamp := wordAt p 8, deviationLimit := byteAt p 10, deviationTime := wordAt p 11, lowWater := byteAt p 13,
    noticeDelay := byteAt p 14, gateDelay := byteAt p 15 }

/-- A feed order from an offset (Table 11-5). -/
def orderAt (p : List Byte) (k : Nat) : OrderFields :=
  { kind := byteAt p k, tag := wordAt p (k + 1), flags := byteAt p (k + 3), at4 := wordAt p (k + 4),
    at6 := wordAt p (k + 6), at8 := wordAt p (k + 8) }

def envelopeFields (p : List Byte) : EnvelopeFields :=
  { nominalHeat := longAt p 0, maxHeat := longAt p 4, lightOffHeat := longAt p 8, lightOffRamp := wordAt p 12,
    satLowLimit := wordAt p 14, satCeilingPct := byteAt p 16, surgeCutback := byteAt p 17 }

def coolerFields (p : List Byte) : CoolerFields :=
  { fanStartDelay := byteAt p 0, fanRunOn := wordAt p 1, fanMinSpeed := wordsFrom 12 p 3,
    fanThreshold := wordsFrom 12 p 27, boostSpeed := wordAt p 51, bedBase := wordAt p 53, bedGain := byteAt p 55,
    bedSetpoint := wordAt p 56, bedMin := wordAt p 58, bedMax := wordAt p 60, surgeRise := byteAt p 62,
    surgeWindow := byteAt p 63, surgeLevel := wordAt p 64, releaseLevel := wordAt p 66, releaseTime := wordAt p 68,
    surgeRate := wordAt p 70, blasterRevs := byteAt p 72, blasterInterval := byteAt p 73 }

def fieldFields (p : List Byte) : FieldFields :=
  { debounce := bytesFrom 23 p 0, scanPeriod := wordAt p 23, kilnStopTime := wordAt p 25, valveProofTime := byteAt p 27 }

/-- The definition of DEFINE ALARM behind the point number. -/
def alarmFields (p : List Byte) : AlarmFields :=
  { source := byteAt p 1, signal := byteAt p 2, limit := wordAt p 3, direction := byteAt p 5, deadband := wordAt p 6,
    level := byteAt p 8, cls := byteAt p 9, onDelay := byteAt p 10, offDelay := byteAt p 11, group := byteAt p 12,
    cutBack := byteAt p 13 }

def clockFields (p : List Byte) : ClockFields :=
  { year := byteAt p 0, month := byteAt p 1, day := byteAt p 2, hour := byteAt p 3, minute := byteAt p 4,
    second := byteAt p 5 }

/-! ### The request of a valid frame (R169, Table 11-4) -/

/-- The payload has the length that the type takes, and that its count gives (R177). -/
def lengthFits (type : Nat) (p : List Byte) : Bool :=
  match type with
  | 0x11 => ((payloadLengths type).getD []).contains p.length && p.length = 2 + 10 * (byteAt p 1).toNat
  | 0x51 => ((payloadLengths type).getD []).contains p.length && p.length = 1 + 2 * (byteAt p 0).toNat
  | _ => ((payloadLengths type).getD []).contains p.length

/-- The command of a burner or line request. -/
def lowRequest (type : Nat) (tag : Byte) (p : List Byte) : Option Instr :=
  match type with
  | 0x01 => some (.readBurner tag)
  | 0x02 => some (.setBurner tag (burnerFields p))
  | 0x03 => some (.resetLockout tag)
  | 0x04 => some (.startPurge tag)
  | 0x05 => some (.stopBurner tag)
  | 0x06 => some (.emergencyStop tag)
  | 0x07 => some (.mainLight tag (byteAt p 0))
  | 0x08 => some (.homeActuator tag (byteAt p 0))
  | 0x09 => some (.moveActuator tag (byteAt p 0) (wordAt p 1))
  | 0x0A => some (.stepActuator tag (byteAt p 0) (byteAt p 1))
  | 0x0B => some (.stopActuator tag (byteAt p 0))
  | 0x10 => some (.configureLine tag (byteAt p 0) (lineFields p))
  | 0x11 => some (.postOrders tag (byteAt p 0) ((List.range (byteAt p 1).toNat).map fun i => orderAt p (2 + 10 * i)))
  | 0x12 => some (.clearLine tag (byteAt p 0))
  | 0x13 => some (.openLine tag (byteAt p 0))
  | 0x14 => some (.shutLine tag (byteAt p 0))
  | 0x15 => some (.readLine tag (byteAt p 0))
  | 0x16 => some (.readCompletions tag (byteAt p 0))
  | _ => none

/-- The command of a heat balance, cooler or field request. SET GRATE's payload of 4 bytes carries the ratio of mode FOLLOW
in two bytes, in the place of the fixed rate, although Table 11-1 gives a percentage one: the model's choice (log entry
42). -/
def midRequest (type : Nat) (tag : Byte) (p : List Byte) : Option Instr :=
  match type with
  | 0x20 => some (.setEnvelope tag (envelopeFields p))
  | 0x21 => some (.setOperatorCeiling tag (longAt p 0))
  | 0x22 => some (.clearOperatorCeiling tag)
  | 0x23 => some (.readHeatBalance tag)
  | 0x28 => some (.startCooler tag)
  | 0x29 => some (.stopCooler tag)
  | 0x2A => some (.setGrate tag (byteAt p 0) (byteAt p 1) (wordAt p 2))
  | 0x2B => some (.setFanSpeed tag (byteAt p 0) (wordAt p 1))
  | 0x2C => some (.blastersOn tag)
  | 0x2D => some (.blastersOff tag)
  | 0x2E => some (.setCooler tag (coolerFields p))
  | 0x2F => some (.readCooler tag)
  | 0x30 => some (.readField tag (byteAt p 0))
  | 0x31 => some (.clearDiagnostics tag (byteAt p 0))
  | 0x32 => some (.setDiagMasks tag (longAt p 0))
  | 0x33 => some (.setField tag (fieldFields p))
  | _ => none

/-- The command of an alarm, attention, shift or link request. -/
def highRequest (type : Nat) (tag : Byte) (p : List Byte) : Option Instr :=
  match type with
  | 0x38 => some (.defineAlarm tag (byteAt p 0) (alarmFields p))
  | 0x39 => some (.setAlarm tag (byteAt p 0) (wordAt p 1) (byteAt p 3))
  | 0x3A =>
    some (if byteAt p 0 = 1 then .acknowledgeClass tag (byteAt p 1) else .acknowledgePoint tag (byteAt p 0) (byteAt p 1))
  | 0x3B => some (.shelve tag (byteAt p 0) (wordAt p 1))
  | 0x3C => some (.unshelve tag (byteAt p 0))
  | 0x3D => some (.disable tag (byteAt p 0))
  | 0x3E => some (.enable tag (byteAt p 0))
  | 0x3F => some (.readAlarmPoint tag (byteAt p 0))
  | 0x40 => some (.readAlarmTable tag)
  | 0x41 => some (.readAlarmChanges tag)
  | 0x48 => some (.readAttention tag)
  | 0x49 => some (.rearm tag (byteAt p 0))
  | 0x4A => some (.dismiss tag (byteAt p 0))
  | 0x50 => some (.setClock tag (clockFields p))
  | 0x51 => some (.setSchedule tag ((List.range (byteAt p 0).toNat).map fun i => wordAt p (1 + 2 * i)))
  | 0x52 => some (.closeShift tag)
  | 0x53 => some (.peekShift tag)
  | 0x54 => some (.readPeek tag (byteAt p 0))
  | 0x55 => some (.listReports tag)
  | 0x56 => some (.readReport tag (longAt p 0) (byteAt p 4))
  | 0x57 => some (.releaseReport tag (longAt p 0))
  | 0x60 => some (.ping tag)
  | 0x61 => some (.readStatus tag)
  | 0x62 => some (.lockGroup tag (byteAt p 0))
  | 0x63 => some (.unlockGroup tag (byteAt p 0))
  | 0x64 => some (if byteAt p 0 = 1 then .restartWarm tag else .restartCold tag (byteAt p 0))
  | _ => none

/-- The command that a valid frame's type, tag and payload spell (R169, R177). -/
def requestOf (type tag : Byte) (p : List Byte) : Instr :=
  match payloadLengths type.toNat with
  | none => .unknownTypeRequest type tag
  | some _ =>
    if lengthFits type.toNat p then
      (((lowRequest type.toNat tag p).or (midRequest type.toNat tag p)).or (highRequest type.toNat tag p)).getD
        (.unknownTypeRequest type tag)
    else .badLengthRequest type tag p.length

/-! ### The Floor Link receiver (R168) -/

/-- What a complete frame spells, from the bytes after its start byte: FRAME_DISCARDED for a bad CRC. -/
def frameCommand (b : List Byte) : Instr :=
  let body := b.take (b.length - 2)
  if (crc16 body).toNat = (wordAt b (b.length - 2)).toNat then requestOf (byteAt b 1) (byteAt b 2) (body.drop 3)
  else .frameDiscarded

/-- A byte taken in HUNTING: a start byte begins a frame, and any other is dropped (R114, R168). -/
def hunt (start : Byte) (now : Nat) (b : Byte) : Receiver := if b = start then .inFrame [] now else .hunting

/-- The receiver takes a byte at floor time `now`: its next state, and the commands that the byte brings about. A frame
whose gap is over has ended before the byte, which is then taken in HUNTING (R168). -/
def receive (r : Receiver) (now : Nat) (b : Byte) : Receiver × List Instr :=
  match r with
  | .hunting => (hunt 0xC3 now b, [])
  | .inFrame buffer _ =>
    let got := buffer ++ [b]
    let l := (byteAt got 0).toNat
    if r.gapOver Config.frameGap now then (hunt 0xC3 now b, [.frameGapTimeout])
    else if l < 2 || 250 < l then (.hunting, [.frameDiscarded])
    else if got.length = l + 3 then (.hunting, [frameCommand got])
    else (.inFrame got now, [])

/-- The commands that a run of bytes spells, each byte with the floor time of its arrival. -/
def receiveAll : Receiver → List (Nat × Byte) → List Instr
  | _, [] => []
  | r, b :: rest => (receive r b.1 b.2).2 ++ receiveAll (receive r b.1 b.2).1 rest

/-! ### The Sensor Link receiver (R114, section 11.2) -/

/-- The entry of AI*n* in the bytes after the start byte and the length byte. -/
def scanEntry (d : List Byte) (n : Nat) : ScanEntry :=
  { value := wordAt d (2 * n), bad := (longAt d 64).getLsbD n }

/-- What a complete scan frame spells, from the bytes after its start byte. -/
def scanCommand (b : List Byte) : Instr :=
  let d := b.drop 1
  if (crc16 (d.take 68)).toNat = (wordAt d 68).toNat then
    .scanFrame (ofList ((List.range 32).map (scanEntry d)) (by simp))
  else .scanIgnored

/-- The scan receiver takes a byte at floor time `now` (R114). -/
def receiveScan (r : Receiver) (now : Nat) (b : Byte) : Receiver × List Instr :=
  match r with
  | .hunting => (hunt 0x5A now b, [])
  | .inFrame buffer _ =>
    let got := buffer ++ [b]
    if r.gapOver Config.scanGap now then (hunt 0x5A now b, [.scanGapTimeout])
    else if byteAt got 0 ≠ 68 then (.hunting, [.scanIgnored])
    else if got.length = 71 then (.hunting, [scanCommand got])
    else (.inFrame got now, [])

/-- The commands that a run of scan bytes spells, each byte with the floor time of its arrival. -/
def receiveScans : Receiver → List (Nat × Byte) → List Instr
  | _, [] => []
  | r, b :: rest => (receiveScan r b.1 b.2).2 ++ receiveScans (receiveScan r b.1 b.2).1 rest

/-! ### A byte arrives (R114, R168, R175)

No row of the table carries a byte, so a byte reaches the part beside the queue, while no command waits there (log entry
15). A gap that no further byte ends is an event of its own time (`State.dueEvents`). -/

/-- A byte arrives on the Floor Link: the receiver takes it, and what it completes waits to be carried out. During a reset
the receiver is stopped. -/
def Machine.State.hearByte (s : State) (b : Byte) : State :=
  if s.resetRun.isSome then s
  else
    let r := receive s.link.receiver s.floorTime b
    { s with link := { s.link with receiver := r.1 }, pending := s.pending ++ r.2 }

/-- A byte arrives on the Sensor Link. -/
def Machine.State.hearScanByte (s : State) (b : Byte) : State :=
  if s.resetRun.isSome then s
  else
    let r := receiveScan s.field.receiver s.floorTime b
    { s with field := { s.field with receiver := r.1 }, pending := s.pending ++ r.2 }

end Sys2Proof
end

