-- ==== Sys2Proof/Machine/Flags.lean ====
section
/-! DEFINITION. Every condition the blocks watch: flame, air, permissives, limits, fixed point conditions, suppression
groups, the horn. Each is formed from the state of its owner as it stands. -/

namespace Sys2Proof.Machine

/-! ### Burner (Chapter 1) -/

/-- The firing states (Table 1-1). -/
def BurnerState.firing : BurnerState → Bool
  | .ignition | .pilot | .mainTrial | .mainFiring | .stopping => true
  | .lockout | .idle | .purge | .prepare => false

/-- The fuel states (Table 1-1). -/
def BurnerState.fuel : BurnerState → Bool
  | .mainTrial | .mainFiring | .stopping => true
  | .lockout | .idle | .purge | .prepare | .ignition | .pilot => false

/-- LOCKOUT or IDLE: the states in which settings can be unlocked and the cooler can be stopped. -/
def BurnerState.atRest : BurnerState → Bool
  | .lockout | .idle => true
  | .purge | .prepare | .ignition | .pilot | .mainTrial | .mainFiring | .stopping => false

/-- The states in which the pilot valve is commanded open (Table 1-3). -/
def BurnerState.pilotOpen : BurnerState → Bool
  | .ignition | .pilot | .mainTrial => true
  | .lockout | .idle | .purge | .prepare | .mainFiring | .stopping => false

/-- Flame present by the voting setting, from scanners A and B (R13). -/
def flameVote (v : Voting) (a b : Bool) : Bool :=
  match v with
  | .oneOfTwo => a || b
  | .twoOfTwo => a && b

/-- The vote on the debounced levels of DI3 and DI4 as they stand, by the voting setting in force (R13). -/
def State.flameNow (s : State) : Bool := flameVote s.burner.cfg.voting (s.di 2) (s.di 3)

/-- The air is lost while AI1 is not GOOD or below 10 × minimum firing air flow (R20). -/
def State.airLost (s : State) : Bool :=
  !((s.ai 0).quality = .good && (10 * s.burner.cfg.minAir : Int) ≤ (s.ai 0).value)

/-! ### Valves (R118, R119) -/

/-- The closed limit input of a valve: DI5 to DI10 for SV1 to SV6, DI17 for PV. -/
def closedLimit (v : Fin 7) : Fin 24 := if h : v.val < 6 then ⟨v.val + 4, by omega⟩ else 16

/-- The open limit input of SV1 to SV6, DI11 to DI16. PV has none. -/
def openLimit (v : Fin 7) : Option (Fin 24) := if h : v.val < 6 then some ⟨v.val + 10, by omega⟩ else none

def State.closedShown (s : State) (v : Fin 7) : Bool := s.di (closedLimit v)

def State.openShown (s : State) (v : Fin 7) : Bool :=
  match openLimit v with
  | some o => s.di o && !s.closedShown v
  | none => !s.closedShown v

/-- The limits show the commanded position. -/
def State.commandShown (s : State) (v : Fin 7) : Bool :=
  if s.field.valves[v.val].openCommand then s.openShown v else s.closedShown v

/-- A proven valve's limit has left its commanded position (R119). -/
def State.limitLost (s : State) (v : Fin 7) : Bool :=
  if s.field.valves[v.val].openCommand then
    (match openLimit v with
    | some o => !s.di o
    | none => s.closedShown v)
  else !s.closedShown v

/-! ### Output diagnostic records (R117) -/

def DiagState.isFault : DiagState → Bool
  | .fault _ => true
  | .ok | .powerup => false

/-- FAULT or POWERUP: the output is not sound (R15, R36, P4, fixed point 10). -/
def DiagState.unsound : DiagState → Bool
  | .fault _ | .powerup => true
  | .ok => false

def State.record (s : State) (r : Fin 23) : DiagState := s.field.records[r.val].state

def State.kindChecked (s : State) (k : FaultKind) : Bool :=
  match k with
  | .failToOpen => s.field.openCheck
  | .failToClose => s.field.closeCheck
  | .noMotion => s.field.motionCheck

/-- A check applies to a record when the record's mask and the kind's mask are both checked. -/
def State.checkApplies (s : State) (r : Fin 23) (k : FaultKind) : Bool :=
  s.field.records[r.val].checked && s.kindChecked k

/-- The fault kind of a valve commanded to a position. -/
def valveKind (toOpen : Bool) : FaultKind := if toOpen then .failToOpen else .failToClose

/-! ### Permissives (Table 1-4) -/

/-- P1 SETTINGS_LOCKED. -/
def State.p1 (s : State) : Bool := s.locked .burner && s.locked .envelope && s.locked .alarm && s.locked .field
/-- P2 ESTOP_CLEAR. -/
def State.p2 (s : State) : Bool := !s.di 0
/-- P3 NO_TRIP_ACTIVE. -/
def Point.holdsTrip (p : Point) : Bool := p.defn.cls = .trip && (p.state = .raised || p.state = .acked)
def State.p3 (s : State) : Bool := s.alarm.points.toList.all fun p => !p.holdsTrip
/-- P4 VALVES_CLOSED. -/
def State.p4 (s : State) : Bool := allValves.all fun v => s.closedShown v && !(s.record (recordOfValve v)).unsound
/-- P5 ID_FAN_RUNNING. -/
def State.p5 (s : State) : Bool := s.di 1
/-- P6 PURGE_AIRFLOW. -/
def State.p6 (s : State) : Bool :=
  (s.ai 0).quality = .good && decide ((10 * s.burner.cfg.purgeAir : Int) ≤ (s.ai 0).value)
/-- P7 COOLER_RUNNING. -/
def State.p7 (s : State) : Bool := s.cooler.state = .running || s.cooler.state = .surge
/-- P8 KILN_TURNING. -/
def State.p8 (s : State) : Bool := s.field.rotation.turning

/-- The eight permissives, P1 first. -/
def State.permissives (s : State) : List Bool := [s.p1, s.p2, s.p3, s.p4, s.p5, s.p6, s.p7, s.p8]

/-- Both actuators stand at position 400 and are VERIFIED (R10). -/
def State.registersOpen (s : State) : Bool :=
  allActuators.all fun a =>
    s.burner.actuators[a.val].position = some Config.actuatorOpen && s.burner.actuators[a.val].verify = .verified

/-- The conditions under which the purge timer counts (R10). -/
def State.purgeCounts (s : State) : Bool :=
  s.burner.state = .purge && s.p2 && s.p4 && s.p5 && s.p6 && s.p7 && s.p8 && s.registersOpen

/-- A line is in ADMITTING, OPEN or SHUTTING (R17). -/
def LineState.live : LineState → Bool
  | .admitting | .opened | .shutting => true
  | .shut | .fault => false

def State.anyLive (s : State) : Bool := s.lines.toList.any fun l => l.state.live
def State.anyOpen (s : State) : Bool := s.lines.toList.any fun l => l.state = .opened
def State.anyCommanded (s : State) : Bool := s.lines.toList.any fun l => 0 < l.commanded

/-- The flame loss timer counts (R19). -/
def State.flameLossRuns (s : State) : Bool :=
  !s.burner.flame &&
    (match s.burner.state with
    | .pilot | .mainTrial | .mainFiring => true
    | .stopping => s.anyCommanded
    | .lockout | .idle | .purge | .prepare | .ignition => false)

/-! ### Alarm conditions (Table 7-3, Table 7-5) -/

/-- A first-out cause that is a trip cause (R4). -/
def Cause.isTrip : Cause → Bool
  | .powerRestored | .restarted => false
  | .flameFail | .ignitionFail | .airLost | .alarmTrip | .hostStop | .estopInput | .coolerStopped => true

/-- The condition of a fixed point as its owner's state gives it, by point number. The pulse points 1, 2 and 14 have no
standing condition. For point 9 a MISMATCH that new work has replaced by UNVERIFIED counts on until that actuator's next
VERIFIED, or an ABORTED or STOPPED end (R31; log entry 6). -/
def State.fixedCondition (s : State) (number : Nat) : Bool :=
  match number with
  | 3 => s.burner.state = .lockout && (match s.burner.firstOut with | some f => f.cause.isTrip | none => false)
  | 4 => s.burner.state = .purge && s.burner.purgeStarted && s.burner.purgeSince.isNone
  | 5 => s.link.silent
  | 6 => s.heat.heatCut
  | 7 => s.cooler.state = .surge
  | 8 => (s.field.records.toList.drop 7).any fun r => r.state.isFault
  | 9 => s.burner.actuators.toList.any fun a => a.homeFault || a.verify = .mismatch || a.mismatchHeld
  | 10 => (s.field.records.toList.take 7).any fun r => r.state.unsound
  | 11 => s.lines.toList.any fun l => l.deviation
  | 12 => s.batches.toList.any fun b => b.batchMissed
  | 13 => s.alarm.flood
  | 15 => s.field.linkFault
  | 16 => s.lines.toList.any fun l => l.state = .fault
  | _ => false

/-- A pulse of a fixed point as its owner hands it: the condition true for an instant (R126). -/
def pulseOf (i : Fin 96) : List (Fin 96 × Bool) := [(i, true), (i, false)]

/-- The condition of a point whose condition stood at `p.condition` (R128, R129). -/
def State.conditionOf (s : State) (i : Fin 96) (p : Point) : Bool :=
  match p.defn.source with
  | .internal => s.fixedCondition (i.val + 1)
  | .discrete n level => s.di n == level
  | .analog c limit high deadband =>
    let ch := s.ai c
    if ch.quality = .good then
      if high then
        if limit < ch.value then true else if ch.value < limit - deadband then false else p.condition
      else if ch.value < limit then true else if limit + deadband < ch.value then false else p.condition
    else p.condition

/-- The condition of a suppression group (Table 7-5). -/
def State.groupHolds (s : State) (g : Group) : Bool :=
  match g with
  | .none => false
  | .kilnStopped => !s.field.rotation.turning
  | .coolerAtRest => s.cooler.state = .stopped
  | .burnerNotFiring => !s.burner.state.firing
  | .lineShut l => s.lines[l.val].state = .shut

/-- A point stands: class TRIP, URGENT or ROUTINE in RAISED, ACKED or RETURNED (section 7.1). -/
def stands (c : PointClass) (st : PointState) : Bool :=
  c ≠ .record && (st = .raised || st = .acked || st = .returned)

/-- A point sounds the horn: class TRIP or URGENT in RAISED (R135). -/
def sounds (p : Point) : Bool := (p.defn.cls = .trip || p.defn.cls = .urgent) && p.state = .raised

/-- A point in this state claims its cut-back (R134). -/
def claims (st : PointState) : Bool := st = .raised || st = .acked

/-! ### Cooler conditions -/

/-- A fan's low-current conditions (R101). -/
def State.lowCurrent (s : State) (k : Fin 12) : Bool :=
  0 < s.cooler.chambers[k.val].commanded && (s.ai (currentOf k)).quality = .good &&
    decide ((s.ai (currentOf k)).value < (s.cooler.cfg.fanThreshold[k.val] : Int))

end Sys2Proof.Machine
end

