-- ==== Sys2Proof/Machine/Operands.lean ====
section
/-! DEFINITION. The operands of the host's requests: what a payload field names, the range each setting must lie in, and
the settings, orders and definitions that a payload carries (R176, R177). `none` is a field outside its range. -/

namespace Sys2Proof.Machine

/-- `lo ≤ v ≤ hi`: ranges are inclusive at both ends (section 2.2). -/
def inRange (lo hi v : Nat) : Bool := lo ≤ v && v ≤ hi

/-! ### What a selector names -/

/-- The entry that a number 1 to `n` names. -/
def numbered (n : Nat) (b : Byte) : Option (Fin n) :=
  if h : 1 ≤ b.toNat ∧ b.toNat ≤ n then some ⟨b.toNat - 1, by omega⟩ else none

/-- The entry that a code 0 to `n - 1` names (Table 11-3). -/
def coded (n : Nat) (b : Byte) : Option (Fin n) := if h : b.toNat < n then some ⟨b.toNat, h⟩ else none

def classOfCode (b : Byte) : Option PointClass :=
  match b.toNat with
  | 0 => some .trip
  | 1 => some .urgent
  | 2 => some .routine
  | 3 => some .record
  | _ => none

def groupOfCode (b : Byte) : Option Group :=
  match b.toNat with
  | 0 => some .none
  | 1 => some .kilnStopped
  | 2 => some .coolerAtRest
  | 3 => some .burnerNotFiring
  | 4 => some (.lineShut 0)
  | 5 => some (.lineShut 1)
  | 6 => some (.lineShut 2)
  | 7 => some (.lineShut 3)
  | 8 => some (.lineShut 4)
  | 9 => some (.lineShut 5)
  | _ => none

def lockOfCode (b : Byte) : Option LockGroup :=
  match b.toNat with
  | 0 => some .burner
  | 1 => some .fuel
  | 2 => some .envelope
  | 3 => some .cooler
  | 4 => some .alarm
  | 5 => some .field
  | 6 => some .shift
  | _ => none

def votingOfCode (b : Byte) : Option Voting :=
  match b.toNat with
  | 0 => some .oneOfTwo
  | 1 => some .twoOfTwo
  | _ => none

/-- Steps per second of a step rate code. -/
def stepRateOfCode (b : Byte) : Option Nat :=
  match b.toNat with
  | 0 => some 25
  | 1 => some 50
  | 2 => some 100
  | 3 => some 200
  | _ => none

def kindOfCode (b : Byte) : Option LineKind :=
  match b.toNat with
  | 0 => some .continuous
  | 1 => some .batch
  | _ => none

/-! ### Settings (Tables 1-8, 2-2, 4-3, 5-3, 6-7, 7-2) -/

/-- The BURNER settings that SET BURNER carries (R24). -/
def burnerSettings (f : BurnerFields) : Option BurnerSettings :=
  match votingOfCode f.voting, stepRateOfCode f.stepRateAxial, stepRateOfCode f.stepRateSwirl with
  | some voting, some axial, some swirl =>
    if inRange 1 4 f.ffrt.toNat && inRange 60 900 f.purgeTime.toNat && f.purgeAir.toNat ≤ 100 && f.minAir.toNat ≤ 100 &&
        inRange 3 15 f.ignitionTrial.toNat && inRange 5 30 f.mainTrial.toNat && f.lightOffAxial.toNat ≤ 400 &&
        f.lightOffSwirl.toNat ≤ 400 && f.toleranceAxial.toNat ≤ 20 && f.toleranceSwirl.toNat ≤ 20 then
      some
        { voting := voting, ffrt := f.ffrt.toNat, purgeTime := f.purgeTime.toNat, purgeAir := f.purgeAir.toNat,
          minAir := f.minAir.toNat, ignitionTrial := f.ignitionTrial.toNat, mainTrial := f.mainTrial.toNat,
          lightOff := #v[f.lightOffAxial.toNat, f.lightOffSwirl.toNat],
          tolerance := #v[f.toleranceAxial.toNat, f.toleranceSwirl.toNat], stepRate := #v[axial, swirl] }
    else none
  | _, _, _ => none

/-- The FUEL settings that CONFIGURE LINE carries for a line (R33): BATCH is given only for L5 and L6. -/
def lineSettings (l : Fin 6) (f : LineFields) : Option LineSettings :=
  match kindOfCode f.kind with
  | some kind =>
    if f.maxRate.toNat ≤ Config.rateMax && f.minRate.toNat ≤ f.maxRate.toNat && 1 ≤ f.gramsPerPulse.toNat &&
        inRange 1 60000 f.shutRamp.toNat && inRange 1 50 f.deviationLimit.toNat && inRange 5 600 f.deviationTime.toNat &&
        f.lowWater.toNat ≤ 15 && inRange 1 10 f.gateDelay.toNat && (kind = .continuous || (batchOf l).isSome) then
      some
        { kind := kind, maxRate := f.maxRate.toNat, minRate := f.minRate.toNat, gramsPerPulse := f.gramsPerPulse.toNat,
          shutRamp := f.shutRamp.toNat, deviationLimit := f.deviationLimit.toNat, deviationTime := f.deviationTime.toNat,
          lowWater := f.lowWater.toNat, noticeDelay := f.noticeDelay.toNat, gateDelay := f.gateDelay.toNat }
    else none
  | none => none

/-- The high and the low byte of a two-byte field. -/
def highByte (w : BitVec 16) : Nat := w.toNat / 256
def lowByte (w : BitVec 16) : Nat := w.toNat % 256

/-- The order that POST ORDERS carries, for a line with these settings (R44, Table 11-5). Bits 2 to 7 of its byte 3 are
ignored: the model's choice, log entry 44. -/
def feedOrder (cfg : LineSettings) (o : OrderFields) : Option Order :=
  let make (body : OrderBody) : Order :=
    { tag := o.tag.toNat, notify := o.flags.getLsbD 0, delay := o.flags.getLsbD 1, body := body }
  match o.kind.toNat with
  | 0 =>
    if cfg.kind = .continuous && o.at4.toNat ≤ cfg.maxRate && o.at6.toNat ≤ Config.rateMax then
      some (make (.rate o.at4.toNat o.at6.toNat o.at8.toNat))
    else none
  | 1 =>
    if inRange 5000 40000 o.at4.toNat && inRange 1 8 (highByte o.at6) then
      some (make (.context o.at4.toNat (highByte o.at6)))
    else none
  | 2 =>
    if cfg.kind = .batch && 1 ≤ highByte o.at4 && inRange 1 8 (lowByte o.at4) && inRange 1 2000 o.at6.toNat then
      some (make (.batch (highByte o.at4) (lowByte o.at4) o.at6.toNat))
    else none
  | _ => none

/-- All the orders of a post, or none if any is out of range (R44). -/
def feedOrders (cfg : LineSettings) : List OrderFields → Option (List Order)
  | [] => some []
  | o :: rest =>
    match feedOrder cfg o, feedOrders cfg rest with
    | some a, some l => some (a :: l)
    | _, _ => none

/-- The ENVELOPE settings that SET ENVELOPE carries (R85). -/
def envelopeSettings (f : EnvelopeFields) : Option EnvelopeSettings :=
  if inRange 1000 Config.heatMax f.nominalHeat.toNat && inRange 1000 Config.heatMax f.maxHeat.toNat &&
      f.lightOffHeat.toNat ≤ Config.heatMax && f.lightOffRamp.toNat ≤ 60000 && f.satLowLimit.toNat ≤ 1500 &&
      inRange 10 100 f.satCeilingPct.toNat && f.surgeCutback.toNat ≤ 50 then
    some
      { nominalHeat := f.nominalHeat.toNat, maxHeat := f.maxHeat.toNat, lightOffHeat := f.lightOffHeat.toNat,
        lightOffRamp := f.lightOffRamp.toNat, satLowLimit := f.satLowLimit.toNat,
        satCeilingPct := f.satCeilingPct.toNat, surgeCutback := f.surgeCutback.toNat }
  else none

/-- The COOLER settings that SET COOLER carries (R105). -/
def coolerSettings (f : CoolerFields) : Option CoolerSettings :=
  if inRange 10 120 f.fanStartDelay.toNat && inRange 30 600 f.fanRunOn.toNat &&
      (f.fanMinSpeed.toList.all fun v => v.toNat ≤ 1000) && (f.fanThreshold.toList.all fun v => v.toNat ≤ 1000) &&
      f.boostSpeed.toNat ≤ 1000 && f.bedBase.toNat ≤ 300 && f.bedGain.toNat ≤ 100 && f.bedSetpoint.toNat ≤ 500 &&
      f.bedMin.toNat ≤ 300 && f.bedMax.toNat ≤ 300 && inRange 1 100 f.surgeRise.toNat &&
      inRange 2 30 f.surgeWindow.toNat && inRange 1 500 f.surgeLevel.toNat && f.releaseLevel.toNat ≤ 499 &&
      inRange 10 300 f.releaseTime.toNat && f.surgeRate.toNat ≤ 300 && 1 ≤ f.blasterRevs.toNat &&
      inRange 2 60 f.blasterInterval.toNat && f.bedMin.toNat ≤ f.bedMax.toNat &&
      f.releaseLevel.toNat < f.surgeLevel.toNat then
    some
      { fanStartDelay := f.fanStartDelay.toNat, fanRunOn := f.fanRunOn.toNat,
        fanMinSpeed := mapAt f.fanMinSpeed fun _ v => v.toNat, fanThreshold := mapAt f.fanThreshold fun _ v => v.toNat,
        boostSpeed := f.boostSpeed.toNat, bedBase := f.bedBase.toNat, bedGain := f.bedGain.toNat,
        bedSetpoint := f.bedSetpoint.toNat, bedMin := f.bedMin.toNat, bedMax := f.bedMax.toNat,
        surgeRise := f.surgeRise.toNat, surgeWindow := f.surgeWindow.toNat, surgeLevel := f.surgeLevel.toNat,
        releaseLevel := f.releaseLevel.toNat, releaseTime := f.releaseTime.toNat, surgeRate := f.surgeRate.toNat,
        blasterRevs := f.blasterRevs.toNat, blasterInterval := f.blasterInterval.toNat }
  else none

/-- The FIELD settings that SET FIELD carries (R123). -/
def fieldSettings (f : FieldFields) : Option FieldSettings :=
  if (f.debounce.toList.all fun v => v.toNat ≤ 250) && inRange 100 2000 f.scanPeriod.toNat &&
      inRange 30 300 f.kilnStopTime.toNat && inRange 5 100 f.valveProofTime.toNat then
    some
      { debounce := mapAt f.debounce fun _ v => v.toNat, scanPeriod := f.scanPeriod.toNat,
        kilnStopTime := f.kilnStopTime.toNat, valveProofTime := f.valveProofTime.toNat }
  else none

/-- A cut-back: none, or 10–100 % (Table 7-2). -/
def cutBackInRange (v : Nat) : Bool := v = 0 || inRange 10 100 v

/-- The source that DEFINE ALARM carries: the channel and the input stand in one byte (R176). The direction and the level
are enumerated bytes, so an unlisted code in either is out of range whichever source is named (R177). -/
def pointSource (f : AlarmFields) : Option PointSource :=
  match f.source.toNat, coded 2 f.direction, coded 2 f.level with
  | 0, some d, some _ =>
    (numbered 32 f.signal).bind fun c =>
      if f.deadband.toNat ≤ 32767 then some (.analog c f.limit.toInt (d = 0) f.deadband.toNat) else none
  | 1, some _, some a => (numbered 24 f.signal).map fun n => .discrete n (a = 0)
  | _, _, _ => none

/-- The definition that DEFINE ALARM carries for a configurable point (R127, R141). -/
def configurableDef (f : AlarmFields) : Option PointDef :=
  match pointSource f, classOfCode f.cls, groupOfCode f.group with
  | some source, some cls, some group =>
    if f.onDelay.toNat ≤ 60 && f.offDelay.toNat ≤ 60 && cutBackInRange f.cutBack.toNat then
      some
        { source := source, cls := cls, onDelay := f.onDelay.toNat, offDelay := f.offDelay.toNat, group := group,
          cutBack := f.cutBack.toNat }
    else none
  | _, _, _ => none

/-- The definition that DEFINE ALARM carries for a fixed point: its class and cut-back only (R141). -/
def fixedDef (i : Fin 96) (f : AlarmFields) : Option PointDef :=
  let number := i.val + 1
  match classOfCode f.cls with
  | some cls =>
    let classOk :=
      if number = 5 || number = 8 || number = 10 || number = 15 then cls = .urgent || cls = .trip
      else cls = PointDef.table[i.val].cls
    let cutOk := if number = 5 || number = 15 then cutBackInRange f.cutBack.toNat else f.cutBack.toNat = 0
    if classOk && cutOk then some { PointDef.fixed cls with cutBack := f.cutBack.toNat } else none
  | none => none

/-- The definition that DEFINE ALARM carries for a point. -/
def pointDef (i : Fin 96) (f : AlarmFields) : Option PointDef :=
  if i.val < 16 then fixedDef i f else configurableDef f

/-! ### Calendar (R157, R158) -/

/-- The days of a month in a year 2000 to 2099, in which every year divisible by 4 is a leap year. -/
def daysIn (year month : Nat) : Nat :=
  if month = 2 then (if year % 4 = 0 then 29 else 28)
  else if month = 4 || month = 6 || month = 9 || month = 11 then 30
  else 31

/-- The calendar time that SET CLOCK carries. -/
def clockTime (f : ClockFields) : Option DateTime :=
  let d : DateTime :=
    { year := 2000 + f.year.toNat, month := f.month.toNat, day := f.day.toNat, hour := f.hour.toNat,
      minute := f.minute.toNat, second := f.second.toNat }
  if d.year ≤ 2099 && inRange 1 12 d.month && inRange 1 (daysIn d.year d.month) d.day && d.hour ≤ 23 && d.minute ≤ 59 &&
      d.second ≤ 59 then some d
  else none

/-- The clock advanced by one second, `none` past 2099-12-31 23:59:59 (R157). -/
def DateTime.next (d : DateTime) : Option DateTime :=
  if d.second < 59 then some { d with second := d.second + 1 }
  else if d.minute < 59 then some { d with minute := d.minute + 1, second := 0 }
  else if d.hour < 23 then some { d with hour := d.hour + 1, minute := 0, second := 0 }
  else if d.day < daysIn d.year d.month then some { d with day := d.day + 1, hour := 0, minute := 0, second := 0 }
  else if d.month < 12 then some { d with month := d.month + 1, day := 1, hour := 0, minute := 0, second := 0 }
  else if d.year < 2099 then some { year := d.year + 1, month := 1, day := 1, hour := 0, minute := 0, second := 0 }
  else none

/-- Start times in strictly increasing order, each a minute of the day (R159). -/
def scheduleOk : List Nat → Bool
  | [] => true
  | [a] => a ≤ 1439
  | a :: b :: rest => a < b && scheduleOk (b :: rest)

/-- The place, from `k`, of the start time that is this minute of the day. -/
def scheduleIndex (minute : Nat) : List Nat → Nat → Option Nat
  | [], _ => none
  | t :: rest, k => if t = minute then some k else scheduleIndex minute rest (k + 1)

end Sys2Proof.Machine
end

