-- ==== Sys2Proof/Machine/Recorder.lean ====
section
/-! DEFINITION. The shift recorder's operations (Chapter 9): durations, the close of a shift, and the mass and heat a
line delivers. -/

namespace Sys2Proof.Machine

/-! ### Durations (R161) -/

/-- The ms accrued up to `now`. -/
def Duration.upTo (d : Duration) (now : Nat) : Nat :=
  match d.since with
  | some t => add32 d.total (now - t)
  | none => d.total

/-- The owner hands the condition at `now`. -/
def Duration.hand (now : Nat) (on : Bool) (d : Duration) : Duration :=
  match d.since, on with
  | some _, true => d
  | some _, false => { total := d.upTo now, since := none }
  | none, true => { d with since := some now }
  | none, false => d

/-- Accrued up to `now`, with nothing running: what a report and a peek hold. -/
def Duration.freeze (now : Nat) (d : Duration) : Duration := { total := d.upTo now, since := none }

/-- In the new shift: 0, going on from `now` if the condition holds. -/
def Duration.carry (now : Nat) (d : Duration) : Duration := { total := 0, since := d.since.map fun _ => now }

def Totals.freeze (now : Nat) (t : Totals) : Totals :=
  { t with
    lines := mapAt t.lines fun _ l => { l with deviation := l.deviation.freeze now, cut := l.cut.freeze now },
    firing := t.firing.freeze now, lockout := t.lockout.freeze now, surgeTime := t.surgeTime.freeze now,
    floodTime := t.floodTime.freeze now, ceilings := mapAt t.ceilings fun _ d => d.freeze now }

def Totals.carry (now standing : Nat) (t : Totals) : Totals :=
  { Totals.zero with
    lines :=
      mapAt t.lines fun _ l => { LineTotals.zero with deviation := l.deviation.carry now, cut := l.cut.carry now },
    firing := t.firing.carry now, lockout := t.lockout.carry now, surgeTime := t.surgeTime.carry now,
    floodTime := t.floodTime.carry now, maxStanding := standing, ceilings := mapAt t.ceilings fun _ d => d.carry now }

/-- Hand the recorder every duration's condition as the owners' states give it (R22, R52, R59, R84, R98, R145). -/
def State.handDurations (s : State) : State :=
  let now := s.floorTime
  s.modTotals fun t =>
    { t with
      lines :=
        mapAt t.lines fun i l =>
          if h : i < 6 then
            { l with deviation := l.deviation.hand now s.lines[i].deviation, cut := l.cut.hand now s.lines[i].cut }
          else l,
      firing := t.firing.hand now s.burner.state.firing,
      lockout := t.lockout.hand now (s.burner.state = .lockout),
      surgeTime := t.surgeTime.hand now (s.cooler.state = .surge),
      floodTime := t.floodTime.hand now s.alarm.flood,
      ceilings := mapAt t.ceilings fun i d => d.hand now (s.heat.active.map CeilingSource.ctorIdx == some i) }

/-! ### Closing a shift (R163) -/

/-- The sequence number after `n` (R163). -/
def nextSequence (n : Nat) : Nat := if n = max32 then 1 else n + 1

/-- The calendar time, absent while the clock is invalid. -/
def Shift.calendar (h : Shift) : Option DateTime := h.clock.map Prod.fst

/-- The open shift frozen at `now`, as a report or a peek holds it. -/
def OpenShift.freeze (o : OpenShift) (now : Nat) : OpenShift := { o with totals := o.totals.freeze now }

/-- The unreleased report that a close removes from a full store. -/
def overwritten (store : List Report) : Option Nat :=
  if store.length < 8 then none
  else
    match store.head? with
    | some r => if r.released then none else some r.shift.sequence
    | none => none

/-- Close the open shift and open the next with shift index `index`: freeze, store, open, overwrite notice,
attention (R163). -/
def State.closeShift (s : State) (cause : CloseCause) (opens : OpenCause) (index : Nat) : State :=
  let now := s.floorTime
  let h := s.shift
  let calendar := h.calendar
  let lost := overwritten h.store
  let report : Report :=
    { shift := h.current.freeze now, closeFloor := now, closeCalendar := calendar, cause := cause, released := false,
      overwrote := lost }
  let kept := if h.store.length < 8 then h.store else h.store.tail
  let opened : OpenShift :=
    { sequence := nextSequence h.current.sequence, index := index, openFloor := now, openCalendar := calendar,
      cause := opens, totals := h.current.totals.carry now s.alarm.standing, events := [], notListed := 0 }
  let s := { s with shift := { h with current := opened, store := kept ++ [report] } }
  let s :=
    match lost with
    | some q => (s.addEvent (.reportOverwritten q)).modAlarm fun a => { a with handed := a.handed ++ pulseOf 13 }
    | none => s
  s.raise .shift

/-! ### Mass and heat (R53, R66, R160) -/

/-- A line delivers `grams`: to its lifetime total, to the open shift's mass and heat, and to the active order if one is
active. A mass that would carry the shift mass past its width first closes the shift (R160). -/
def State.deliver (s : State) (l : Fin 6) (grams : Nat) : State :=
  let cv := s.lines[l.val].cv
  let s :=
    if max32 < s.shift.current.totals.lines[l.val].mass + grams then s.closeShift .request .request 0 else s
  let s := s.modLineTotals l fun t => { t with mass := t.mass + grams, heat := t.heat + grams * cv }
  s.modLine l fun r =>
    { r with
      lifetime := r.lifetime + grams,
      progress := r.progress.map fun p => { p with delivered := add32 p.delivered grams } }

end Sys2Proof.Machine
end

