-- ==== Sys2Proof/Machine/HeatBalance.lean ====
section
/-! DEFINITION. The heat balance's evaluation (Chapter 4): requested and floor heats, the effective ceiling, the two walks
of the cut order, and what each line is handed back. -/

namespace Sys2Proof.Machine

/-! ### Heats (R62, R73) -/

/-- The heat in kW of a rate in kg/h at a CV in kJ/kg, truncated (section 2.2). -/
def heatOf (rate cv : Nat) : Nat := rate * cv / 3600

/-- The rate in kg/h of a heat in kW at a CV, truncated. -/
def rateOf (heat cv : Nat) : Nat := heat * 3600 / cv

/-- The active BATCH order of a line on an OPEN line: its revolutions per slot and nominal mass. -/
def Line.activeBatch (r : Line) : Option (Nat × Nat × Nat) :=
  if r.state = .opened && r.progress.isSome then
    match r.queue with
    | { body := .batch slots revs mass, .. } :: _ => some (slots, revs, mass)
    | _ => none
  else none

/-- The batch heat of a line (R62): 0 while the monitor reports no period. -/
def batchHeat (r : Line) (period : Option Nat) : Nat :=
  match r.activeBatch, period with
  | some (_, revs, mass), some p => min Config.heatMax (mass * r.cv * 1000 / (p * revs))
  | _, _ => 0

/-- The requested heat of a line (R73). -/
def requestedHeat (r : Line) (period : Option Nat) : Nat :=
  match r.cfg.kind with
  | .continuous => if r.state.live then heatOf r.requested r.cv else 0
  | .batch => batchHeat r period

/-- The floor heat of a line (R73). -/
def floorHeat (r : Line) : Nat :=
  match r.cfg.kind with
  | .continuous => heatOf r.cfg.minRate r.cv
  | .batch => 0

/-! ### The ceiling table (R74 to R78) -/

/-- The SAT value, present while the SAT-low condition is set (R76). -/
def State.satValue (s : State) : Option Nat :=
  if s.cooler.satLow then some (s.envelope.satCeilingPct * s.envelope.nominalHeat / 100) else none

/-- The lesser of two parts, each present or absent. -/
def lesser : Option Nat → Option Nat → Option Nat
  | some a, some b => some (min a b)
  | some a, none => some a
  | none, b => b

/-- The claim with the least percentage, the lowest point number among equals (R77, R86). -/
def leastClaim : List (Nat × Nat) → Option (Nat × Nat)
  | [] => none
  | c :: rest =>
    match leastClaim rest with
    | some d => if d.2 < c.2 then some d else some c
    | none => some c

/-- The entry of a ceiling source (Table 4-2). -/
def State.ceiling (s : State) (c : CeilingSource) : Option Nat :=
  match c with
  | .operator => s.heat.operator
  | .cooler => lesser s.heat.surge s.satValue
  | .alarm => (leastClaim s.heat.claims).map fun k => k.2 * s.envelope.nominalHeat / 100
  | .burner => s.burner.ceiling
  | .max => some s.envelope.maxHeat

/-- The five entries in the order of R74, MAX left to the end. -/
def State.presentCeilings (s : State) : List (CeilingSource × Nat) :=
  [CeilingSource.operator, .cooler, .alarm, .burner].filterMap fun c => (s.ceiling c).map fun v => (c, v)

/-- The effective ceiling and its binding source: the least value, the first source among equals (R74). -/
def leastCeiling (max : Nat) : List (CeilingSource × Nat) → CeilingSource × Nat
  | [] => (.max, max)
  | (c, v) :: rest =>
    let r := leastCeiling max rest
    if v ≤ r.2 then (c, v) else r

/-! ### The cut order (R81) -/

/-- Put a line into an order, after every line whose priority is not greater. -/
def insertByPriority (priority : Fin 6 → Nat) (l : Fin 6) : List (Fin 6) → List (Fin 6)
  | [] => [l]
  | m :: rest => if priority l < priority m then l :: m :: rest else m :: insertByPriority priority l rest

/-- Priority 1 first, and within one priority the higher line number first. -/
def cutOrderOf (priority : Fin 6 → Nat) : List (Fin 6) :=
  [5, 4, 3, 2, 1, 0].foldl (fun order l => insertByPriority priority l order) []

/-! ### The walks (R80) -/

/-- One walk: each line in turn gives up the lesser of the remaining deficit and its room. Gives the deficit left and
the allowed heats. -/
def walk (room : Fin 6 → Nat) : List (Fin 6) → Nat → Vector Nat 6 → Nat × Vector Nat 6
  | [], deficit, allowed => (deficit, allowed)
  | l :: rest, deficit, allowed =>
    let given := min deficit (room l)
    walk room rest (deficit - given) (upd allowed l fun a => a - given)

/-- The sum of six heats. -/
def sum6 (v : Vector Nat 6) : Nat := v[0] + v[1] + v[2] + v[3] + v[4] + v[5]

/-- The allowed heats: the requested heats where their total is within the ceiling, and otherwise after the walk to the
floors and the walk below them (R80). -/
def apportion (order : List (Fin 6)) (ceiling : Nat) (requested floor : Vector Nat 6) : Vector Nat 6 :=
  let total := sum6 requested
  if total ≤ ceiling then requested
  else
    let first := walk (fun l => requested[l.val] - floor[l.val]) order (total - ceiling) requested
    (walk (fun l => first.2[l.val]) order first.1 first.2).2

/-! ### What a line is handed and forms from it (R50, R52, R82) -/

/-- The allowed rate of a line (R82). -/
def allowedRate (r : Line) (requested allowed : Nat) : Nat :=
  match r.cfg.kind with
  | .continuous => if allowed < requested then rateOf allowed r.cv else r.requested
  | .batch => 0

/-- The commanded rate of a line (R50). -/
def commandedRate (r : Line) : Nat :=
  match r.cfg.kind, r.state with
  | .continuous, .opened | .continuous, .shutting => min r.requested r.allowed
  | _, _ => 0

/-- The commanded heat of a line (R82). -/
def commandedHeat (r : Line) (allowed : Nat) : Nat :=
  match r.cfg.kind with
  | .continuous =>
    if r.state = .opened || r.state = .shutting then heatOf (min r.requested r.allowed) r.cv else 0
  | .batch => if r.activeBatch.isSome then allowed else 0

/-- The deviation limit in kg/h (R52): a percentage of the greater of the commanded rate and a tenth of the max rate,
truncated once. -/
def deviationBand (r : Line) : Nat := r.cfg.deviationLimit * max (10 * r.commanded) r.cfg.maxRate / 1000

/-- The measured rate is outside the limit of the commanded rate. -/
def outside (r : Line) : Bool :=
  deviationBand r < (max r.measured r.commanded) - (min r.measured r.commanded)

/-- The comparison of the measured and the commanded rate (R52): it starts the deviation timer, or stops it and clears
the flag. -/
def compareRates (now : Nat) (r : Line) : Line :=
  if r.cfg.kind = .continuous && r.state = .opened then
    if outside r then
      if r.deviation || r.deviationAt.isSome then r
      else { r with deviationAt := some (now + r.cfg.deviationTime * 1000) }
    else { r with deviation := false, deviationAt := none }
  else r

/-- What an evaluation hands a line: its allowed rate and cut flag. The active order takes the CUT flag, the commanded
rate is formed, and a changed one is compared with the measured rate (R50, R52, R82). -/
def Line.handed (now requested allowed : Nat) (r : Line) : Line :=
  let cut : Bool := decide (allowed < requested)
  let r1 : Line :=
    { r with
      allowed := allowedRate r requested allowed, cut := cut,
      progress := r.progress.map fun p => { p with cut := p.cut || cut } }
  let r2 : Line := { r1 with commanded := commandedRate r1 }
  if r2.commanded = r.commanded then r2 else compareRates now r2

/-- One evaluation (R79 to R84): the heat table, the ceiling and the cut order are formed, the ceiling is shared, and each
line is handed its share within the same event. `period` gives the revolution period from which each line formed the batch
heat it has handed (R62). -/
def State.evaluateAt (s : State) (period : Nat → Option Nat) : State :=
  let requested := mapAt s.lines fun i r => requestedHeat r (period i)
  let floor := mapAt s.lines fun _ r => floorHeat r
  let order := cutOrderOf fun l => s.lines[l.val].priority
  let bound := leastCeiling s.envelope.maxHeat s.presentCeilings
  let allowed := apportion order bound.2 requested floor
  let lines :=
    mapAt s.lines fun i r => if h : i < 6 then r.handed s.floorTime requested[i] allowed[i] else r
  let commanded := mapAt lines fun i r => if h : i < 6 then commandedHeat r allowed[i] else 0
  let heatCut := lines.toList.any fun r => r.cut
  { s with
    lines := lines,
    heat :=
      { s.heat with
        entries :=
          mapAt commanded fun i c =>
            if h : i < 6 then { requested := requested[i], floor := floor[i], allowed := allowed[i], commanded := c }
            else { requested := 0, floor := 0, allowed := 0, commanded := 0 },
        effective := bound.2, binding := bound.1, active := if heatCut then some bound.1 else none, cutOrder := order,
        heatCut := heatCut,
        cutChanges := if heatCut = s.heat.heatCut then s.heat.cutChanges else s.heat.cutChanges ++ [heatCut],
        ratesChanged := s.heat.ratesChanged || (mapAt lines fun _ r => r.commanded) != mapAt s.lines fun _ r => r.commanded,
        totalRequested := sum6 requested, totalAllowed := sum6 allowed,
        totalCommanded := sum6 commanded } }

/-- One evaluation with every line's batch heat formed from the period that the rotation monitor reports. -/
def State.evaluate (s : State) : State := s.evaluateAt fun _ => s.field.rotation.period

/-- A changed period is handed to L5 and to L6. Each hands the batch heat it recomputes from it, and the heat balance makes
an evaluation for each: in the first, L6 still stands at the period `before` (R62, R79, R113). That L5 is the first is the
model's choice, log entry 41. -/
def State.handPeriod (s : State) (before : Option Nat) : State :=
  (s.evaluateAt fun l => if l = 4 then s.field.rotation.period else before).evaluate

end Sys2Proof.Machine
end

