-- ==== Sys2Proof/Machine/Lines.lean ====
section
/-! DEFINITION. The fuel lines' operations (Chapters 2 and 3): reasons, completions and notices, the end of orders, the
take-up of a head order, admission, shut, fault, trip and clear, and the gate and slots of the batch lines. -/

namespace Sys2Proof.Machine

/-! ### Reasons and completions (R54 to R57) -/

/-- Raise a reason flag of a line and the FEED request (R57). -/
def State.setReason (s : State) (l : Fin 6) (r : Reason) : State :=
  (s.modLine l fun x =>
    match r with
    | .completion => { x with completionFlag := true }
    | .lowWater => { x with lowWaterFlag := true }
    | .empty => { x with emptyFlag := true }
    | .state => { x with stateFlag := true }).raise .feed

/-- Add a record to a completion list of 16: the oldest is lost when it is full (R55). -/
def Line.addCompletion (r : Line) (c : Completion) : Line :=
  if r.completions.length < 16 then { r with completions := r.completions ++ [c] }
  else { r with completions := r.completions.tail ++ [c], overrun := true }

/-- The batch counts that a completion record of this order carries (Table 2-5): those of the active order, 0 for one
that never became active, absent for another kind. -/
def State.batchCounts (s : State) (l : Fin 6) (o : Order) : Option (Nat × Nat × Nat) :=
  match o.body, batchOf l with
  | .batch _ _ _, some b =>
    if s.lines[l.val].progress.isSome then
      some (s.batches[b.val].fed, s.batches[b.val].missed, s.batches[b.val].skipped)
    else some (0, 0, 0)
  | _, _ => none

/-- The completion record of an order that ends with its progress `p` (Table 2-5). -/
def completionOf (o : Order) (outcome : OrderOutcome) (p : Option Progress) (now : Nat)
    (counts : Option (Nat × Nat × Nat)) : Completion :=
  { tag := o.tag, body := o.body, outcome := outcome, delivered := (p.map Progress.delivered).getD 0,
    start := p.map Progress.startTime, finish := now, cut := (p.map Progress.cut).getD false,
    deviation := (p.map Progress.deviation).getD false, counts := counts }

/-- A notify order acts on the notice delay timer according to its delay flag (R56). -/
def State.notice (s : State) (l : Fin 6) (o : Order) : State :=
  if o.notify then
    if o.delay && s.lines[l.val].cfg.noticeDelay != 0 then
      s.modLine l fun r => { r with noticeAt := some (s.floorTime + r.cfg.noticeDelay * 100) }
    else (s.modLine l fun r => { r with noticeAt := none }).setReason l .completion
  else s

/-! ### The gate and the slots of L5 and L6 (R66 to R70) -/

/-- The gate of a batch line closes; any other line has none (R67). -/
def State.closeGate (s : State) (l : Fin 6) : State :=
  match batchOf l with
  | some b => s.modBatch b fun r => { r with gateOpen := false, idle := 0 }
  | none => s

/-- The tag and the nominal mass in g of the head order of a batch line. -/
def headCharge (r : Line) : Nat × Nat :=
  match r.queue with
  | { tag := t, body := .batch _ _ mass, .. } :: _ => (t, mass * 1000)
  | _ => (0, 0)

/-- Record the end of a slot (R69, R70): the last slot record, the order's count, the shift's count and the consecutive
misses with their condition. -/
def State.recordSlot (s : State) (b : Fin 2) (sr : SlotRecord) : State :=
  let s :=
    s.modBatch b fun r =>
      let r := { r with last := some sr }
      match sr.outcome with
      | .fed => { r with fed := r.fed + 1, misses := 0, batchMissed := false }
      | .missed =>
        { r with missed := r.missed + 1, misses := inc16 r.misses, batchMissed := r.batchMissed || 3 ≤ inc16 r.misses }
      | .skipped => { r with skipped := r.skipped + 1 }
      | .aborted => r
  s.modLineTotals (lineOfBatch b) fun t =>
    match sr.outcome with
    | .fed => { t with fed := add32 t.fed 1 }
    | .missed => { t with missed := add32 t.missed 1 }
    | .skipped => { t with skipped := add32 t.skipped 1 }
    | .aborted => { t with aborted := add32 t.aborted 1 }

/-- A slot in flight ends ABORTED (R68): a charge already dropped is accounted with the nominal mass, before the slot is
counted (log entry 43). -/
def State.abortSlot (s : State) (l : Fin 6) : State :=
  match batchOf l with
  | none => s
  | some b =>
    match s.batches[b.val].slot with
    | none => s
    | some slot =>
      let charge := headCharge s.lines[l.val]
      let dropped := slot.phase != .gateDelay
      let s := if dropped then s.deliver l charge.2 else s
      let s := s.modBatch b fun r => { r with slot := none }
      s.recordSlot b
        { number := slot.number, tag := charge.1, openedAt := slot.openedAt, endedAt := s.floorTime, outcome := .aborted,
          reason := none, credit := slot.credit, mass := if dropped then some charge.2 else none, estimated := dropped }

/-! ### The end of an order (R43, R54, R57, R59) -/

/-- The reasons that follow from an order's having left the queue: LOW_WATER at the mark, EMPTY on an OPEN line. -/
def State.queueReasons (s : State) (l : Fin 6) : State :=
  let r := s.lines[l.val]
  let s := if r.cfg.lowWater ≠ 0 ∧ r.queue.length = r.cfg.lowWater then s.setReason l .lowWater else s
  if r.queue = [] ∧ r.state = .opened then s.setReason l .empty else s

/-- The head order leaves the queue with an outcome: its record, the counts and the gate of a batch line. -/
def State.endHead (s : State) (l : Fin 6) (outcome : OrderOutcome) : State :=
  match s.lines[l.val].queue with
  | [] => s
  | o :: rest =>
    let c := completionOf o outcome s.lines[l.val].progress s.floorTime (s.batchCounts l o)
    let s :=
      s.modLine l fun r =>
        let r := { r with queue := rest, progress := none, retired := r.retired + 1 }
        if o.notify then r.addCompletion c else r
    let s := s.modLineTotals l fun t => { t with retired := add32 t.retired 1 }
    match o.body with
    | .batch _ _ _ => s.closeGate l
    | .rate _ _ _ | .context _ _ => s

/-- The head order retires with an outcome, its notice falls due, and the queue is checked. -/
def State.retireHead (s : State) (l : Fin 6) (outcome : OrderOutcome) : State :=
  match s.lines[l.val].queue with
  | [] => s
  | o :: _ => ((s.endHead l outcome).notice l o).queueReasons l

/-- Every order still queued ends DISCARDED, in queue order. -/
def State.discardQueue (s : State) (l : Fin 6) (notices : Bool) : List Order → State
  | [] => s
  | o :: rest =>
    let s :=
      s.modLine l fun r =>
        let r := { r with queue := rest, discarded := r.discarded + 1 }
        if o.notify then r.addCompletion (completionOf o .discarded none s.floorTime (s.batchCounts l o)) else r
    (if notices then s.notice l o else s).discardQueue l notices rest

/-! ### Taking up the head order (R45 to R47, R61) -/

/-- A RATE order or a BATCH order becomes active. -/
def freshProgress (r : Line) (now : Nat) (reached : Bool) : Progress :=
  { startTime := now, rampStart := r.requested, rampDone := 0, holdStart := if reached then some now else none,
    delivered := 0, cut := r.cut, deviation := r.deviation }

/-- The orders of the queue are taken up from the head on: a CONTEXT retires at once in any line state, never active, a
RATE or BATCH order becomes active in OPEN and waits elsewhere, and an open-ended RATE order at its target gives way to an
order behind it (R45, R47). The list is the line's queue. -/
def State.takeUp (s : State) (l : Fin 6) : List Order → State
  | [] => s
  | o :: rest =>
    match o.body with
    | .context cv priority =>
      let s := (s.modLine l fun r => { r with cv := cv, priority := priority, progress := none }).evaluate
      ((s.retireHead l .complete).addEvent (.contextChange l cv)).takeUp l rest
    | .rate target ramp hold =>
      if s.lines[l.val].state = .opened then
        let reached : Bool := decide (ramp = 0 ∨ s.lines[l.val].requested = target)
        let s :=
          (s.modLine l fun r =>
            { r with
              progress := some (freshProgress r s.floorTime reached),
              requested := if reached then target else r.requested }).evaluate
        if reached ∧ hold = 0 ∧ rest ≠ [] then (s.retireHead l .complete).takeUp l rest else s
      else s
    | .batch _ _ _ =>
      if s.lines[l.val].state = .opened then
        let s := s.modLine l fun r => { r with progress := some (freshProgress r s.floorTime false) }
        let s :=
          match batchOf l with
          | some b =>
            s.modBatch b fun r =>
              { r with indexCount := 0, opened := 0, credit := 100, fed := 0, missed := 0, skipped := 0 }
          | none => s
        s.evaluate
      else s

/-- The head order retires COMPLETE and the next becomes the head (R47, R61). No evaluation falls between the two, so a
BATCH order that follows a BATCH order takes its first CUT flag from the cut flag as the retired one left it: the model's
choice, log entry 36. -/
def State.completeHead (s : State) (l : Fin 6) : State :=
  let s := s.retireHead l .complete
  (s.takeUp l s.lines[l.val].queue).evaluate

/-- A value that moves from `start` towards `target` by `ramp` per 60 s, after `k` whole seconds: truncated to whole
kg/h and stopping at the target (R46). -/
def rampValue (start target ramp k : Nat) : Nat :=
  if start ≤ target then min target ((60 * start + k * ramp) / 60) else max target ((60 * start - k * ramp) / 60)

/-! ### Line states (R34 to R42) -/

/-- The deviation flag and timer end at every change that leaves OPEN (R52). -/
def Line.enter (r : Line) (st : LineState) : Line :=
  { r with state := st, deviation := false, deviationAt := none }

/-- A line begins admission (R35). -/
def State.admitLine (s : State) (l : Fin 6) : State :=
  ((s.modLine l fun r => r.enter .admitting).commandValve (svOf l) true).evaluate

/-- A line enters OPEN from ADMITTING and takes up its head order (R37). -/
def State.openLine (s : State) (l : Fin 6) : State :=
  let s := ((s.modLine l fun r => r.enter .opened).addEvent (.lineAdmitted l)).evaluate
  if s.lines[l.val].queue = [] then s.setReason l .empty else s.takeUp l s.lines[l.val].queue

/-- The ramp of a shut has reached 0, or there is none: the valve is commanded closed (R39). -/
def State.rampEnd (s : State) (l : Fin 6) : State :=
  (s.modLine l fun r => { r with shutRamp := none }).commandValve (svOf l) false

/-- A line in ADMITTING or OPEN begins its shut (R38, R39). -/
def State.beginShut (s : State) (l : Fin 6) : State :=
  let s := (s.abortSlot l).modLine l fun r => r.enter .shutting
  let s := (s.closeGate l).retireHead l .abortedShut
  let s := s.takeUp l s.lines[l.val].queue
  let s :=
    if s.lines[l.val].requested = 0 then s.rampEnd l
    else s.modLine l fun r => { r with shutRamp := some { since := s.floorTime, rate := r.requested, done := 0 } }
  s.evaluate

/-- A line enters SHUT from another state (R39, R41, R59). -/
def State.enterShut (s : State) (l : Fin 6) : State :=
  ((s.modLine l fun r => r.enter .shut).addEvent (.lineShut l)).evaluate

/-- A line enters FAULT (R40). -/
def State.faultLine (s : State) (l : Fin 6) : State :=
  let hadHead := s.lines[l.val].state = .admitting ∨ s.lines[l.val].state = .opened
  let s := (s.abortSlot l).modLine l fun r => { r.enter .fault with requested := 0, shutRamp := none }
  let s := (s.closeGate l).commandValve (svOf l) false
  let s := if hadHead then s.retireHead l .abortedFault else s
  let s := s.takeUp l s.lines[l.val].queue
  ((s.setReason l .state).addEvent (.lineFault l)).evaluate

/-- Some order of a queue asked for notification. -/
def anyNotify (q : List Order) : Bool := q.any fun o => o.notify

/-- A line is forced to SHUT at a trip (R42). -/
def State.tripLine (s : State) (l : Fin 6) : State :=
  let changed := s.lines[l.val].state ≠ .shut
  let recorded := anyNotify s.lines[l.val].queue
  let s := (s.abortSlot l).modLine l fun r => { r.enter .shut with requested := 0, shutRamp := none }
  let s := (s.closeGate l).commandValve (svOf l) false
  let s := s.endHead l .abortedTrip
  let s := s.discardQueue l false s.lines[l.val].queue
  let s := s.modLine l fun r => { r with noticeAt := none }
  let s := if recorded then s.setReason l .completion else s
  if changed then (s.setReason l .state).addEvent (.lineShut l) else s

/-- A line's whole queue is cleared (R49). -/
def State.clearQueue (s : State) (l : Fin 6) : State :=
  match s.lines[l.val].queue with
  | [] => s
  | o :: _ =>
    let s := ((s.abortSlot l).endHead l .abortedClear).notice l o
    let s := s.discardQueue l true s.lines[l.val].queue
    (if s.lines[l.val].state = .opened then s.setReason l .empty else s).evaluate

/-! ### What the field unit hands a line (R37, R39, R40) -/

/-- The line is handed a proof of its valve, or the end of the proof time without a latch. -/
def State.lineProof (s : State) (l : Fin 6) (toOpen : Bool) : State :=
  match s.lines[l.val].state, toOpen with
  | .admitting, true => s.openLine l
  | .shutting, false => s.enterShut l
  | _, _ => s

/-- The line is handed a latch on its SV record: a failed open proof in ADMITTING, a lost open limit in OPEN or while the
valve of a shut is still commanded open, or a failed closed proof in SHUTTING. -/
def State.lineLatch (s : State) (l : Fin 6) (k : FaultKind) : State :=
  match s.lines[l.val].state, k with
  | .admitting, .failToOpen | .opened, .failToOpen | .shutting, .failToOpen | .shutting, .failToClose => s.faultLine l
  | _, _ => s

/-! ### Slots (R61, R63 to R66) -/

/-- A slot that is FED, MISSED or SKIPPED ends; the order retires COMPLETE when every slot is decided (R61, R69). -/
def State.endSlot (s : State) (b : Fin 2) (sr : SlotRecord) : State :=
  let l := lineOfBatch b
  let s := s.recordSlot b sr
  let r := s.batches[b.val]
  match s.lines[l.val].activeBatch with
  | some (slots, _, _) => if r.fed + r.missed + r.skipped = slots then s.completeHead l else s
  | none => s

/-- The drop begins: the scale is read and DR goes on for 0.5 s (R66). -/
def State.beginDrop (s : State) (b : Fin 2) (slot : Slot) : State :=
  let ch := s.ai (scaleOf b)
  s.modBatch b fun r =>
    { r with
      before := some (ch.value, ch.quality),
      slot := some { slot with phase := .drop, endsAt := s.floorTime + Config.dropPulse } }

/-- The share of 100 that a slot opening adds to the credit (R64). -/
def creditShare (requested allowed : Nat) : Nat :=
  if requested = 0 then 100 else min 100 (allowed * 100 / requested)

/-- A slot opens: the credit is added, then the slot is decided by the first condition of Table 3-3 (R64, R65). -/
def State.openSlot (s : State) (b : Fin 2) : State :=
  let l := lineOfBatch b
  let r := s.lines[l.val]
  let e := s.heat.entries[l.val]
  let s :=
    s.modBatch b fun x =>
      { x with opened := x.opened + 1, credit := min Config.creditCap (x.credit + creditShare e.requested e.allowed) }
  let x := s.batches[b.val]
  let sr : SlotRecord :=
    { number := x.opened, tag := (headCharge r).1, openedAt := s.floorTime, endedAt := s.floorTime, outcome := .missed,
      reason := none, credit := x.credit, mass := none, estimated := false }
  if x.slot.isSome then s.endSlot b { sr with reason := some .busy }
  else if !s.di (readyOf b) then s.endSlot b { sr with reason := some .notReady }
  else if x.credit < 100 then s.endSlot b { sr with outcome := .skipped }
  else
    let slot : Slot :=
      { number := x.opened, phase := .gateDelay, endsAt := s.floorTime + r.cfg.gateDelay * 1000, openedAt := s.floorTime,
        credit := x.credit - 100 }
    let s := s.modBatch b fun x => { x with credit := x.credit - 100 }
    if x.gateOpen then s.beginDrop b slot
    else s.modBatch b fun x => { x with gateOpen := true, idle := 0, slot := some slot }

/-- The gate idle count of an index pulse taken, after its slot decision (R67). -/
def State.gateIdle (s : State) (b : Fin 2) : State :=
  s.modBatch b fun r =>
    if r.slot.isSome then r
    else if 2 ≤ r.idle + 1 then { r with gateOpen := false, idle := 0 }
    else { r with idle := r.idle + 1 }

/-- A batch line is handed an index pulse with the monitor TURNING (R63). The pulses after the last slot has opened serve
the gate only. -/
def State.batchPulse (s : State) (b : Fin 2) : State :=
  let l := lineOfBatch b
  match s.lines[l.val].activeBatch with
  | none => s
  | some (slots, revs, _) =>
    let s :=
      if s.batches[b.val].opened < slots then
        let s := s.modBatch b fun r => { r with indexCount := r.indexCount + 1 }
        if s.batches[b.val].indexCount % revs = 0 then s.openSlot b else s
      else s
    s.gateIdle b

/-- The doser ready input goes inactive during GATE_DELAY: the slot ends MISSED, READY_LOST (R66). -/
def State.readyLost (s : State) (b : Fin 2) : State :=
  match s.batches[b.val].slot with
  | some slot =>
    if slot.phase = .gateDelay then
      let tag := (headCharge s.lines[(lineOfBatch b).val]).1
      let s := s.modBatch b fun r => { r with slot := none }
      s.endSlot b
        { number := slot.number, tag := tag, openedAt := slot.openedAt, endedAt := s.floorTime, outcome := .missed,
          reason := some .readyLost, credit := slot.credit, mass := none, estimated := false }
    else s
  | none => s

/-- The mass in g of a charge from the readings before and after, and whether it is the nominal mass (R66). -/
def chargeMass (before : Option (Int × Quality)) (after : Channel) (nominal : Nat) : Nat × Bool :=
  match before with
  | some (v, .good) => if after.quality = .good then ((v - after.value).toNat * 1000, false) else (nominal, true)
  | _ => (nominal, true)

/-- The end of the settle: the charge is weighed and the slot ends FED (R66). The mass is delivered before the slot is
counted: the model's choice, log entry 43. -/
def State.weighSlot (s : State) (b : Fin 2) (slot : Slot) : State :=
  let l := lineOfBatch b
  let charge := headCharge s.lines[l.val]
  let mass := chargeMass s.batches[b.val].before (s.ai (scaleOf b)) charge.2
  let s := (s.modBatch b fun r => { r with slot := none, idle := 0 }).deliver l mass.1
  s.endSlot b
    { number := slot.number, tag := charge.1, openedAt := slot.openedAt, endedAt := s.floorTime, outcome := .fed,
      reason := none, credit := slot.credit, mass := some mass.1, estimated := mass.2 }

end Sys2Proof.Machine
end

