-- ==== Sys2Proof/Machine/BurnerOps.lean ====
section
/-! DEFINITION. The burner unit's operations (Chapter 1): its state changes with their outputs and timers, the entry into
LOCKOUT, the three trip sources, the air register actuators and the purge and prepare sequence. -/

namespace Sys2Proof.Machine

/-! ### State changes (R1, R2, R22) -/

/-- The states in which flame supervision runs (R19). -/
def BurnerState.supervised : BurnerState → Bool
  | .pilot | .mainTrial | .mainFiring | .stopping => true
  | .lockout | .idle | .purge | .prepare | .ignition => false

/-- The record in a new state: IG and FR follow the state, a timer that does not belong to the state stops, the purge
fields return to their starting values outside PURGE, and the BURNER ceiling is absent outside MAIN_TRIAL and MAIN_FIRING
(R1, R2, R10, R21). -/
def Burner.enter (b : Burner) (st : BurnerState) : Burner :=
  { b with
    state := st, igniter := st = .ignition, firingRelay := st.firing,
    purgeSince := if st = .purge then b.purgeSince else none,
    purgeStarted := st = .purge && b.purgeStarted,
    giveUpAt := if st = .purge then b.giveUpAt else none,
    ignitionTrialAt := if st = .ignition then b.ignitionTrialAt else none,
    flameProofAt := if st = .ignition then b.flameProofAt else none,
    pilotHoldAt := if st = .pilot then b.pilotHoldAt else none,
    mainTrialAt := if st = .mainTrial then b.mainTrialAt else none,
    flameLossAt := if st.supervised then b.flameLossAt else none,
    airLossAt := if st.firing then b.airLossAt else none,
    rampFrom := if st = .mainFiring then b.rampFrom else none,
    rampDone := if st = .mainFiring then b.rampDone else 0,
    ceiling := if st = .mainTrial || st = .mainFiring then b.ceiling else none }

/-- A burner state change: the record enters the state and PV is commanded as Table 1-3 gives. -/
def State.burnerTo (s : State) (st : BurnerState) : State :=
  (s.modBurner fun b => b.enter st).commandValve pv st.pilotOpen

/-- Entry into IDLE with its reason, BURNER request and event (Table 1-7). -/
def State.toIdle (s : State) (reason : StopReason) : State :=
  (((s.burnerTo .idle).modBurner fun b => { b with lastStop := some reason }).raise .burner).addEvent (.idle reason)

/-! ### Actuators (R25 to R31) -/

/-- Both owners take a value (R30). -/
def State.setOwners (s : State) (o : Owner) : State :=
  s.modBurner fun b => { b with actuators := mapAt b.actuators fun _ a => { a with owner := o } }

/-- The work of an actuator completes with an outcome: the host's claim ends and BURNER is raised (R26, R31). -/
def State.completeWork (s : State) (a : Fin 2) (o : WorkOutcome) : State :=
  (s.modActuator a fun r =>
    { r with
      motion := .still, dueAt := none, lastOutcome := some o,
      owner := if r.owner = .operator then .none else r.owner }).raise .burner

/-- The work in progress on an actuator, if any, ends unverified with an outcome, STOPPED or ABORTED, which ends its part in
fixed point 9 for an earlier MISMATCH (R29, R30, R31). -/
def State.endWork (s : State) (a : Fin 2) (o : WorkOutcome) : State :=
  if s.burner.actuators[a.val].motion = .still then s
  else (s.modActuator a fun r => { r with verify := .unverified, mismatchHeld := false }).completeWork a o

/-- Both actuators' work in progress ends ABORTED (R30). -/
def State.abortWork (s : State) : State := allActuators.foldl (fun s a => s.endWork a .aborted) s

/-- The time of one step in ms at a rate in steps per second (Table 1-8). -/
def stepTime (rate : Nat) : Nat := 1000 / rate

/-- New work makes verify UNVERIFIED (R27, R28); the part that an earlier MISMATCH has in fixed point 9 goes on (R31). -/
def Actuator.unverify (r : Actuator) : Actuator :=
  { r with verify := .unverified, mismatchHeld := r.mismatchHeld || r.verify = .mismatch }

/-- A move to a target begins (R28). -/
def State.startMove (s : State) (a : Fin 2) (target : Nat) : State :=
  s.modActuator a fun r =>
    let r := { r.unverify with target := some target }
    if r.position = some target then { r with motion := .settling, dueAt := some (s.floorTime + Config.moveSettle) }
    else
      { r with
        motion := .moving, dueAt := some (s.floorTime + stepTime s.burner.cfg.stepRate[a.val]),
        direction := if (r.position.getD 0) < target then Config.awayLevel else !Config.awayLevel }

/-- The home switch is seen: position 0, VERIFIED, completion DONE (R27). In PURGE the sequence goes on to 400 (R10). -/
def State.homeDone (s : State) (a : Fin 2) : State :=
  let s :=
    (s.modActuator a fun r =>
      { r with
        position := some 0, target := some 0, verify := .verified, homeFault := false,
        mismatchHeld := false }).completeWork a .done
  if s.burner.state = .purge && s.burner.actuators[a.val].owner = .sequence then s.startMove a Config.actuatorOpen else s

/-- A home begins, and ends at once where the home switch is already active (R27). -/
def State.startHome (s : State) (a : Fin 2) : State :=
  let s :=
    s.modActuator a fun r =>
      { r.unverify with
        position := none, target := none, motion := .homing, homeSteps := 0,
        dueAt := some (s.floorTime + stepTime s.burner.cfg.stepRate[a.val]), direction := !Config.awayLevel }
  if s.di (homeOf a) then s.homeDone a else s

/-- A sequence in PURGE or PREPARE ends at an exit to IDLE: moves end ABORTED and both owners become NONE (R11, R12). -/
def State.sequenceEnd (s : State) (reason : StopReason) : State := (s.abortWork.setOwners .none).toIdle reason

/-- The sequence's work on an actuator ended FAULT: in PURGE and PREPARE the burner goes to IDLE (R11, R12, R31). -/
def State.sequenceFault (s : State) : State :=
  if s.burner.state = .purge || s.burner.state = .prepare then s.sequenceEnd .actuatorFault else s

/-- Entry into IGNITION, at the end of PREPARE (R12, R13). -/
def State.toIgnition (s : State) : State :=
  ((((s.setOwners .none).burnerTo .ignition).modBurner fun b =>
      { b with ignitionTrialAt := some (s.floorTime + b.cfg.ignitionTrial * 1000) }).raise .burner).addEvent .ignition

/-- Both actuators stand VERIFIED. -/
def State.bothVerified (s : State) : Bool :=
  s.burner.actuators.toList.all fun r => r.motion = .still && r.verify = .verified

/-- A step is given: away from or toward the home end in a move, toward it in a home (R25, R27, R28). The next step's time is
formed here, from the step rate in force: that a SET BURNER in between moves no step already due is the model's choice, log
entry 46. -/
def Actuator.stepped (r : Actuator) (now rate : Nat) : Actuator :=
  match r.motion with
  | .homing => { r with homeSteps := r.homeSteps + 1, dueAt := some (now + stepTime rate) }
  | .moving =>
    match r.position, r.target with
    | some p, some t =>
      let q := if p < t then p + 1 else p - 1
      if q = t then { r with position := some q, motion := .settling, dueAt := some (now + Config.moveSettle) }
      else { r with position := some q, dueAt := some (now + stepTime rate) }
    | _, _ => r
  | .still | .settling => r

/-- 440 steps have been given without the switch: HOME_FAULT, completion FAULT (R27). An earlier MISMATCH keeps its part in
fixed point 9 beside it (log entry 6). -/
def State.homeFailed (s : State) (a : Fin 2) : State :=
  ((s.modActuator a fun r => { r with position := none, verify := .unverified, homeFault := true }).completeWork a
    .fault).sequenceFault

/-- The feedback proves a position: GOOD, and within the tolerance (R28). -/
def proves (ch : Channel) (position tolerance : Nat) : Bool :=
  ch.quality = .good && decide ((ch.value - position).natAbs ≤ tolerance)

/-- The end of the settle: the move is VERIFIED or a MISMATCH (R28). A PREPARE with both VERIFIED goes on to IGNITION. -/
def State.settled (s : State) (a : Fin 2) : State :=
  let ok := proves (s.ai (feedbackOf a)) ((s.burner.actuators[a.val].position).getD 0) s.burner.cfg.tolerance[a.val]
  let s :=
    (s.modActuator a fun r =>
      { r with verify := if ok then .verified else .mismatch, mismatchHeld := false }).completeWork a
      (if ok then .done else .fault)
  if ok then (if s.burner.state = .prepare && s.bothVerified then s.toIgnition else s) else s.sequenceFault

/-! ### Lockout and the trip sources (R4 to R7) -/

/-- Entry into LOCKOUT by a trip cause (R5). The lines' one FEED request is raised at every trip (R42, Table 8-1). Every
line is SHUT at once (R42), so the evaluations that the six lines' hand-overs make (R79) all find the same lines and are
one. -/
def State.enterLockout (s : State) (cause : Cause) (point : Option Nat) : State :=
  let first : FirstOut := { cause := cause, point := point, stateAtTrip := s.burner.state, time := s.floorTime }
  let s := (s.burnerTo .lockout).modBurner fun b => { b with firstOut := some first, claims := 0 }
  let s := ((s.addEvent (.lockout cause point)).raise .trip).modTotals fun t => { t with trips := add32 t.trips 1 }
  let s := (allLines.foldl (fun s l => s.tripLine l) s).raise .feed
  (s.abortWork.setOwners .sequence).evaluate

/-- A further trip source in LOCKOUT is counted (R4). -/
def State.countClaim (s : State) : State := s.modBurner fun b => { b with claims := inc16 b.claims }

/-- A trip claim of the alarm unit for a point (R6). -/
def State.tripClaim (s : State) (point : Nat) : State :=
  match s.burner.state with
  | .lockout => s.countClaim
  | .idle => s
  | .purge | .prepare | .ignition | .pilot | .mainTrial | .mainFiring | .stopping => s.enterLockout .alarmTrip (some point)

/-- EMERGENCY STOP or the E-stop input (Table 1-5). -/
def State.emergency (s : State) (cause : Cause) : State :=
  if s.burner.state = .lockout then s.countClaim else s.enterLockout cause none

/-- The cooler enters STOPPING or STOPPED (Table 1-5). -/
def State.coolerStop (s : State) : State :=
  match s.burner.state with
  | .lockout => s.countClaim
  | .idle => s
  | .purge | .prepare | .ignition | .pilot | .mainTrial | .mainFiring | .stopping => s.enterLockout .coolerStopped none

/-! ### Purge, light-off, firing and stopping (R9 to R18) -/

/-- The sequence claims an actuator and starts its work toward 400 (R10, R30). -/
def State.claimForPurge (s : State) (a : Fin 2) : State :=
  if s.burner.actuators[a.val].position.isNone then s.startHome a else s.startMove a Config.actuatorOpen

/-- START PURGE is accepted (R9). -/
def State.toPurge (s : State) : State :=
  let s :=
    ((s.burnerTo .purge).modBurner fun b =>
      { b with
        giveUpAt := some (s.floorTime + 3 * b.cfg.purgeTime * 1000), purgeSince := none, purgeStarted := false }).raise
      .burner
  let s := s.modTotals fun t => { t with purgeStarts := add32 t.purgeStarts 1 }
  allActuators.foldl (fun s a => s.claimForPurge a) (s.abortWork.setOwners .sequence)

/-- The purge timer reaches purge time (R12). -/
def State.toPrepare (s : State) : State :=
  allActuators.foldl (fun s a => s.startMove a s.burner.cfg.lightOff[a.val]) ((s.burnerTo .prepare).raise .burner)

/-- The pilot flame is proven (R14). -/
def State.toPilot (s : State) : State :=
  ((s.burnerTo .pilot).modBurner fun b => { b with pilotHoldAt := some (s.floorTime + Config.pilotHold) }).raise .burner

/-- MAIN LIGHT is accepted: the BURNER ceiling takes the light-off heat and each named line is admitted (R15, R21). -/
def State.toMainTrial (s : State) (named : List (Fin 6)) : State :=
  let s :=
    ((s.burnerTo .mainTrial).modBurner fun b =>
      { b with
        mainTrialAt := some (s.floorTime + b.cfg.mainTrial * 1000), ceiling := some s.envelope.lightOffHeat }).raise .burner
  named.foldl (fun s l => s.admitLine l) s

/-- The main trial ends with a line OPEN and flame present: the ceiling ramp starts, unless the light-off heat already
reaches the max heat (R16, R21). -/
def State.toMainFiring (s : State) : State :=
  let reached := decide (s.envelope.maxHeat ≤ s.envelope.lightOffHeat)
  ((((s.burnerTo .mainFiring).modBurner fun b =>
      { b with
        rampFrom := if reached then none else some s.floorTime, rampDone := 0,
        ceiling := if reached then none else some s.envelope.lightOffHeat }).raise .burner).addEvent .mainFiring).evaluate

/-- The BURNER value after `k` whole seconds of MAIN_FIRING (R21). -/
def ceilingRamp (lightOff ramp k : Nat) : Nat := lightOff + k * ramp / 60

/-- The BURNER value is recomputed `k` whole seconds after the entry into MAIN_FIRING (R21). -/
def State.rampCeiling (s : State) (k : Nat) : State :=
  let v := ceilingRamp s.envelope.lightOffHeat s.envelope.lightOffRamp k
  (if s.envelope.maxHeat ≤ v then
      s.modBurner fun b => { b with ceiling := none, rampFrom := none, rampDone := 0 }
    else s.modBurner fun b => { b with ceiling := some v, rampDone := k }).evaluate

/-- STOP BURNER from MAIN_TRIAL or MAIN_FIRING with lines to shut (R18). The end of the BURNER ceiling is handed to the heat
balance, which evaluates at that change (R21, R79). Then the lines take the shut in ascending number, which orders their
context changes and evaluations: the model's choice, log entry 7. -/
def State.toStopping (s : State) : State :=
  let s := ((s.burnerTo .stopping).raise .burner).evaluate
  allLines.foldl
    (fun s l => if s.lines[l.val].state = .admitting || s.lines[l.val].state = .opened then s.beginShut l else s) s

/-- The burner's watch on the line states (R17, R18): with no line in ADMITTING, OPEN or SHUTTING it passes from
MAIN_FIRING through STOPPING, or leaves STOPPING, to IDLE. -/
def State.watchLines (s : State) : State :=
  if s.anyLive then s
  else if s.burner.state = .mainFiring then s.toIdle .noFuel
  else if s.burner.state = .stopping then s.toIdle .stopRequest
  else s

/-! ### Purge counting, flame and air (R10, R11, R13, R19, R20) -/

/-- Flame present takes the vote: at an accepted change of DI3 or DI4 (R13), and at SET BURNER, so that it is always what the
voting setting in force gives (log entry 19). -/
def State.voteFlame (s : State) : State := s.modBurner fun b => { b with flame := s.flameNow }

/-- The purge timer counts from the moment its conditions hold together and returns to 0 when they do not (R10, R11). -/
def Burner.watchPurge (b : Burner) (counts : Bool) (now : Nat) : Burner :=
  if counts then { b with purgeSince := some (b.purgeSince.getD now), purgeStarted := true }
  else { b with purgeSince := none }

/-- The burner's watches that run on conditions: purge counting, flame proof, flame loss and air loss. -/
def State.watchBurner (s : State) : State :=
  let counts := s.purgeCounts
  let proof := s.burner.state = .ignition && s.burner.flame
  let loss := s.flameLossRuns
  let air := s.burner.state.firing && s.airLost
  s.modBurner fun b =>
    let b := b.watchPurge counts s.floorTime
    { b with
      flameProofAt := runWhile proof b.flameProofAt s.floorTime Config.flameProof,
      flameLossAt := runWhile loss b.flameLossAt s.floorTime (b.cfg.ffrt * 1000),
      airLossAt := runWhile air b.airLossAt s.floorTime Config.airLoss }

end Sys2Proof.Machine
end

