-- ==== Sys2Proof/Machine/AlarmOps.lean ====
section
/-! DEFINITION. The alarm unit's operations (Chapter 7): a point's change of state with its record, claim, horn and
standing count, raises and the flood monitor, conditions and delays, suppression, shelving and acknowledgement. -/

namespace Sys2Proof.Machine

/-! ### The change list (R142, R143) -/

/-- A record of this class gives way first (R143). -/
def PointClass.low : PointClass → Bool
  | .routine | .record => true
  | .trip | .urgent => false

/-- The change list with one record removed to make room for a record of class `c` (R143). -/
def roomFor (c : PointClass) (l : List Change) : List Change :=
  if c.low then l.tail
  else if l.any fun r => r.cls.low then l.eraseP fun r => r.cls.low
  else l.tail

/-- Add a record to the change list of 128 (R142, R143). -/
def Alarm.addChange (a : Alarm) (c : Change) : Alarm :=
  let a := { a with nextSequence := (a.nextSequence + 1) % 65536 }
  if a.changes.length < 128 then { a with changes := a.changes ++ [c] }
  else { a with changes := roomFor c.cls a.changes ++ [c], overrun := true }

/-- The channel's value that a change record carries for an ANALOG point (Table 7-6). -/
def State.sourceValue (s : State) (src : PointSource) : Option Int :=
  match src with
  | .analog c _ _ _ => some (s.ai c).value
  | .discrete _ _ | .internal => none

/-- A change between NORMAL and RAISED of a RECORD point, which a flood keeps out of the list (R142). -/
def floodHides (c : PointClass) (old new : PointState) : Bool :=
  c = .record && ((old = .normal && new = .raised) || (old = .raised && new = .normal))

/-- The record of a change of state, with its ALARM request (R142). -/
def State.listChange (s : State) (i : Fin 96) (new : PointState) : State :=
  let p := s.alarm.points[i.val]
  if s.alarm.flood && floodHides p.defn.cls p.state new then s
  else
    let c : Change :=
      { sequence := s.alarm.nextSequence, time := s.floorTime, point := i.val + 1, cls := p.defn.cls, old := p.state,
        new := new, value := s.sourceValue p.defn.source }
    let s := s.modAlarm fun a => a.addChange c
    if p.defn.cls = .record || (p.defn.cls = .trip && new = .raised) then s else s.raise .alarm

/-! ### A change of state (R131, R134, R135) -/

/-- The cut-back claim set with a point's claim added in its place, or withdrawn (R77). -/
def addClaim (point pct : Nat) : List (Nat × Nat) → List (Nat × Nat)
  | [] => [(point, pct)]
  | c :: rest =>
    if c.1 < point then c :: addClaim point pct rest
    else if c.1 = point then (point, pct) :: rest
    else (point, pct) :: c :: rest

def withdrawClaim (point : Nat) (l : List (Nat × Nat)) : List (Nat × Nat) := l.filter fun c => c.1 != point

/-- Claim or withdraw at a change into or out of RAISED and ACKED (R134). -/
def State.claimCutBack (s : State) (i : Fin 96) (cutBack : Nat) (old new : PointState) : State :=
  if cutBack = 0 || claims old = claims new then s
  else if claims new then (s.modHeat fun h => { h with claims := addClaim (i.val + 1) cutBack h.claims }).evaluate
  else (s.modHeat fun h => { h with claims := withdrawClaim (i.val + 1) h.claims }).evaluate

/-- The number of standing points (R135). -/
def standingOf (points : Vector Point 96) : Nat := points.toList.countP fun p => stands p.defn.cls p.state

/-- Some point sounds the horn (R135). -/
def hornOf (points : Vector Point 96) : Bool := points.toList.any sounds

/-- The horn and the standing count are formed again, and the shift's maximum with them (R135, R160). -/
def State.formHorn (s : State) : State :=
  let standing := standingOf s.alarm.points
  (s.modAlarm fun a => { a with horn := hornOf a.points, standing := standing }).modTotals fun t =>
    { t with maxStanding := max t.maxStanding standing }

/-- A point changes its state, with everything that follows from the change but a raise's own effects. -/
def State.enterPoint (s : State) (i : Fin 96) (new : PointState) : State :=
  let p := s.alarm.points[i.val]
  let s := (s.listChange i new).modPoint i fun q => { q with state := new, lastChange := some s.floorTime }
  (s.claimCutBack i p.defn.cutBack p.state new).formHorn

/-- A point goes to NORMAL, or to SUPPRESSED while its group condition holds (Table 7-4, R136). The group condition is the
one that stands when the point comes to rest, also where a lower point's raise has tripped the burner within the event: the
model's choice, log entry 10. -/
def State.restPoint (s : State) (i : Fin 96) : State :=
  s.enterPoint i (if s.groupHolds s.alarm.points[i.val].defn.group then .suppressed else .normal)

/-! ### Raises and floods (R131, R133, R145, R148) -/

/-- The raise list after a raise at `now` under threshold `f`: the newest `f` times (R145). -/
def addRaise (f now : Nat) (l : List Nat) : List Nat := (l ++ [now]).drop (l.length + 1 - f)

/-- A change into RAISED with its notifications and its place in the raise list (Table 7-8, R145). -/
def State.raiseOnce (s : State) (i : Fin 96) : State :=
  let cls := s.alarm.points[i.val].defn.cls
  let s := s.enterPoint i .raised
  let s := s.modTotals fun t => { t with raises := upd t.raises ⟨cls.ctorIdx, by cases cls <;> decide⟩ fun n => add32 n 1 }
  let s := if cls = .trip then (s.raise .trip).addEvent (.tripRaise (i.val + 1)) else s
  s.modAlarm fun a =>
    { a with
      raiseThreshold := a.floodThreshold, raises := addRaise a.floodThreshold s.floorTime a.raises,
      reviewCount := if a.flood then a.reviewCount + 1 else a.reviewCount }

/-- The raise list shows `F` raises within `W` (R145). -/
def floodBegins (a : Alarm) : Bool :=
  match a.raises with
  | [] => false
  | oldest :: _ => a.raises.length = a.floodThreshold && decide (a.raises.getLastD 0 - oldest ≤ a.floodWindow * 1000)

/-- Fixed point 13, whose condition has become true, is raised unless it is set aside (R126, R145). -/
def State.raiseFlood (s : State) : State :=
  let p := s.alarm.points[12]
  if p.state = .disabled then s
  else
    let s := s.modPoint 12 fun q => { q with condition := true, active := true }
    if p.state = .normal || p.state = .returned then s.raiseOnce 12 else s

/-- A flood begins at a raise that completes `F` raises within `W` (R145). -/
def State.watchFlood (s : State) : State :=
  if !s.alarm.flood && floodBegins s.alarm then
    let s :=
      s.modAlarm fun a =>
        { a with flood := true, reviewAt := some (s.floorTime + a.floodWindow * 1000), reviewCount := 0 }
    ((s.addEvent .floodStart).modTotals fun t => { t with floods := add32 t.floods 1 }).raiseFlood
  else s

/-- A raise: its change, the flood monitor, and for a TRIP point the trip claim (R131, R133). Its change record is formed
before a flood that it begins, so a RECORD point's is listed (log entry 38); and a TRIP point's raise event stands before
FLOOD_START, and that before the LOCKOUT and LINE_SHUT events, and the cut-back claim of a TRIP point is taken, with its
evaluation, before its trip claim (log entry 7). All three are the model's choice. -/
def State.raisePoint (s : State) (i : Fin 96) : State :=
  let cls := s.alarm.points[i.val].defn.cls
  let s := (s.raiseOnce i).watchFlood
  if cls = .trip then s.tripClaim (i.val + 1) else s

/-! ### Active state and condition (R130, R131) -/

def State.becomeActive (s : State) (i : Fin 96) : State :=
  let p := s.alarm.points[i.val]
  let s := s.modPoint i fun q => { q with active := true, delayAt := none }
  if p.state = .normal || p.state = .returned then s.raisePoint i else s

def State.becomeInactive (s : State) (i : Fin 96) : State :=
  let p := s.alarm.points[i.val]
  let s := s.modPoint i fun q => { q with active := false, delayAt := none }
  if p.state = .acked || (p.state = .raised && p.defn.cls = .record) then s.restPoint i
  else if p.state = .raised then s.enterPoint i .returned
  else s

/-- The condition of a point takes a value: a change starts, or stops, its delay timer, or acts at once (R130). -/
def State.setCondition (s : State) (i : Fin 96) (c : Bool) : State :=
  let p := s.alarm.points[i.val]
  if p.condition = c then s
  else
    let s := s.modPoint i fun q => { q with condition := c }
    if p.active = c then s.modPoint i fun q => { q with delayAt := none }
    else if c then
      if p.defn.onDelay = 0 then s.becomeActive i
      else s.modPoint i fun q => { q with delayAt := some (s.floorTime + p.defn.onDelay * 1000) }
    else if p.defn.offDelay = 0 then s.becomeInactive i
    else s.modPoint i fun q => { q with delayAt := some (s.floorTime + p.defn.offDelay * 1000) }

/-! ### Evaluation of the points (R128, R129, R136) -/

/-- A change of the suppression group's condition acts on a point: NORMAL and SUPPRESSED follow it (R136). -/
def State.syncGroup (s : State) (i : Fin 96) (holds : Bool) : State :=
  let p := s.alarm.points[i.val]
  if p.state = .normal && holds then s.enterPoint i .suppressed
  else if p.state = .suppressed && !holds then (if p.active then s.raisePoint i else s.enterPoint i .normal)
  else s

/-- An enabled point follows its group and then its condition, both as they stood in `before`, the state that the owners
hand. The flood condition of point 13 is the alarm unit's own and is taken as it stands. -/
def State.syncPoint (s before : State) (i : Fin 96) : State :=
  if s.alarm.points[i.val].state = .disabled then s
  else
    let s := s.syncGroup i (before.groupHolds s.alarm.points[i.val].defn.group)
    s.setCondition i ((if i = 12 then s else before).conditionOf i s.alarm.points[i.val])

/-- An owner hands the condition of a fixed point. A DISABLED point takes none (R126, R139). -/
def State.handPoint (s : State) (i : Fin 96) (c : Bool) : State :=
  if s.alarm.points[i.val].state = .disabled then s else s.setCondition i c

/-- The conditions handed within the event, the changes of HEAT_CUT after the others. -/
def State.handedConditions (s : State) : List (Fin 96 × Bool) :=
  s.alarm.handed ++ s.heat.cutChanges.map fun c => (5, c)

/-- No condition is waiting to be taken. -/
def State.clearHanded (s : State) : State :=
  (s.modAlarm fun a => { a with handed := [] }).modHeat fun h => { h with cutChanges := [] }

/-- The conditions handed within the event are taken in their order; then every point, in ascending number, follows its
group and its condition as they stood before, so that a raise which trips the burner undoes neither (R126, R129, R136; log
entries 10 and 11). -/
def State.syncAlarms (s : State) : State :=
  let t := s.handedConditions.foldl (fun t h => t.handPoint h.1 h.2) s.clearHanded
  allPoints.foldl (fun t i => t.syncPoint s i) t

/-! ### Acknowledging, shelving, disabling (R132, R137 to R140) -/

/-- The state change that an acknowledgement of a point makes, if any (R132). -/
def State.acknowledge (s : State) (i : Fin 96) : State × Bool :=
  let p := s.alarm.points[i.val]
  if p.defn.cls = .record then (s, false)
  else if p.state = .raised then (s.enterPoint i .acked, true)
  else if p.state = .returned then (s.restPoint i, true)
  else (s, false)

/-- The shelf list with a point placed by its expiry, after every entry that is not later (R137). -/
def placeOnShelf (i : Fin 96) (expiry : Nat) : List (Fin 96 × Nat) → List (Fin 96 × Nat)
  | [] => [(i, expiry)]
  | e :: rest => if e.2 ≤ expiry then e :: placeOnShelf i expiry rest else (i, expiry) :: e :: rest

def offShelf (i : Fin 96) (l : List (Fin 96 × Nat)) : List (Fin 96 × Nat) := l.filter fun e => e.1 != i

/-- A point is shelved until `expiry` (R137). -/
def State.shelvePoint (s : State) (i : Fin 96) (expiry : Nat) : State :=
  let s := if s.alarm.points[i.val].state = .shelved then s else s.enterPoint i .shelved
  let s := s.modPoint i fun q => { q with expiry := some expiry }
  (s.modAlarm fun a => { a with shelf := placeOnShelf i expiry (offShelf i a.shelf) }).modTotals fun t =>
    { t with shelves := add32 t.shelves 1 }

/-- A point leaves the shelf, by expiry or by UNSHELVE (R138). -/
def State.unshelvePoint (s : State) (i : Fin 96) : State :=
  let p := s.alarm.points[i.val]
  let s := (s.modAlarm fun a => { a with shelf := offShelf i a.shelf }).modPoint i fun q => { q with expiry := none }
  if s.groupHolds p.defn.group then s.enterPoint i .suppressed
  else if p.active then s.raisePoint i
  else s.enterPoint i .normal

/-- A point is taken out of service (R139). -/
def State.disablePoint (s : State) (i : Fin 96) : State :=
  let s := s.enterPoint i .disabled
  (s.modAlarm fun a => { a with shelf := offShelf i a.shelf }).modPoint i fun q =>
    { q with condition := false, active := false, delayAt := none, expiry := none }

/-- A point returns to service: NORMAL, then its group and its condition as they stand (R140). -/
def State.enablePoint (s : State) (i : Fin 96) : State :=
  let s := s.modPoint i fun q => { q with condition := false, active := false, delayAt := none, expiry := none }
  let s := s.enterPoint i .normal
  s.syncPoint s i

/-- The review of a flood, under the threshold in force since the latest raise (R145). After a flood the count of its last
period stays to be read (log entry 40). -/
def State.reviewFlood (s : State) : State :=
  if s.alarm.reviewCount < s.alarm.raiseThreshold / 2 then
    let s := s.modAlarm fun a => { a with flood := false, reviewAt := none }
    (if s.alarm.points[12].state = .disabled then s else s.setCondition 12 false).addEvent .floodEnd
  else
    s.modAlarm fun a => { a with reviewAt := some (s.floorTime + a.floodWindow * 1000), reviewCount := 0 }

end Sys2Proof.Machine
end

