-- ==== Sys2Proof/Machine/CoolerOps.lean ====
section
/-! DEFINITION. The cooler's operations (Chapter 5): the start and stop sequences, the lead rate and the commanded rates
and speeds, the bed mean and the surge, the secondary air temperature, drive faults and the air blasters. -/

namespace Sys2Proof.Machine

/-! ### Lead rate, commanded rates and speeds (R93 to R95) -/

/-- A value held between a minimum and a maximum. -/
def clamp (lo hi : Nat) (v : Int) : Nat := min hi (max lo v.toNat)

/-- The BED value at a bed mean (R93). -/
def bedValue (c : CoolerSettings) (mean : Int) : Nat :=
  clamp c.bedMin c.bedMax ((c.bedBase : Int) + (c.bedGain : Int) * (mean - (c.bedSetpoint : Int)))

/-- The BED value is formed, and holds while the bed mean is absent (R93). -/
def Cooler.formBed (c : Cooler) : Cooler :=
  match c.bedMean with
  | some m => { c with bed := bedValue c.cfg m }
  | none => c

/-- The G1 lead rate (R93). -/
def leadRate (c : Cooler) : Nat :=
  match c.state with
  | .stopped => 0
  | .surge => c.cfg.surgeRate
  | .starting | .running | .stopping => if c.grates[0].mode = .fixed then c.grates[0].fixedRate else c.bed

/-- The commanded rate of a grate under a lead rate (R94). -/
def grateRate (c : Cooler) (lead : Nat) (i : Nat) (g : Grate) : Nat :=
  if g.state = .running then
    if i = 0 then lead
    else if g.mode = .fixed then g.fixedRate
    else if c.grates[0].state = .fault then 0
    else min 300 (lead * g.ratio / 100)
  else 0

/-- The motion watch at a commanded rate: its reference time is set when the rate rises from 0 (R100). -/
def Grate.command (g : Grate) (rate now : Nat) : Grate :=
  { g with
    commanded := rate, watch := if rate = 0 then none else if g.commanded = 0 then some now else g.watch }

/-- The running speed of a chamber (R95). -/
def runningSpeed (c : CoolerSettings) (i : Nat) (k : Chamber) : Nat := max k.setSpeed (c.fanMinSpeed.toList.getD i 0)

/-- The commanded speed of a chamber (R95). -/
def fanSpeed (c : Cooler) (i : Nat) (k : Chamber) : Nat :=
  match c.state with
  | .stopped => 0
  | .starting => c.cfg.fanMinSpeed.toList.getD i 0
  | .running | .stopping => runningSpeed c.cfg i k
  | .surge => if i < 4 then max (runningSpeed c.cfg i k) c.cfg.boostSpeed else runningSpeed c.cfg i k

/-- The lead rate and every commanded rate and speed are formed again (R88, R93 to R95). -/
def Cooler.form (c : Cooler) (now : Nat) : Cooler :=
  let lead := leadRate c
  { c with
    lead := lead, grates := mapAt c.grates fun i g => g.command (grateRate c lead i g) now,
    chambers := mapAt c.chambers fun i k => { k with commanded := fanSpeed c i k } }

/-- A fan's low-current timer follows its conditions (R101). -/
def Chamber.watchCurrent (k : Chamber) (low : Bool) (now : Nat) : Chamber :=
  if low then
    (if k.lowExpired || k.lowAt.isSome then k else { k with lowAt := some (now + Config.lowCurrent) })
  else { k with lowAt := none, lowExpired := false }

/-- The SAT-low condition after an evaluation on AI2 (R99). -/
def satLowNext (low : Bool) (limit : Nat) (ch : Channel) : Bool :=
  if ch.quality = .good then
    if low then decide (ch.value < (limit : Int) + Config.satHysteresis) else decide (ch.value < (limit : Int))
  else false

/-- The cooler's outputs, low-current timers and SAT-low condition as its state and the channels now give them. -/
def State.formCooler (s : State) : State :=
  let s := s.modCooler fun c => { c.form s.floorTime with satLow := satLowNext c.satLow s.envelope.satLowLimit (s.ai 1) }
  let low := s.lowCurrent
  s.modCooler fun c =>
    { c with
      chambers := mapAt c.chambers fun i k => if h : i < 12 then k.watchCurrent (low ⟨i, h⟩) s.floorTime else k }

/-! ### Blasters (R103, R104) -/

def State.countFired (s : State) : State := s.modTotals fun t => { t with blastersFired := add32 t.blastersFired 1 }
def State.countSkipped (s : State) (n : Nat) : State :=
  s.modTotals fun t => { t with blastersSkipped := add32 t.blastersSkipped n }

/-- A cycle in progress is abandoned: an output that is on goes off and the blasters not yet due are counted skipped
(R104). The output can be AB8 of the cycle before, and goes off too (log entry 45). -/
def State.abandonCycle (s : State) : State :=
  match s.cooler.cycle with
  | some (next, _) => (s.modCooler fun c => { c with cycle := none, blasterOut := none }).countSkipped (9 - next)
  | none => s

/-- The cycle is abandoned and the pulse count returns to 0 (R103). -/
def State.endBlasting (s : State) : State := s.abandonCycle.modCooler fun c => { c with pulseCount := 0 }

/-- The cooler is handed an index pulse with the monitor TURNING (R103). -/
def State.blasterPulse (s : State) : State :=
  if s.cooler.blasters && s.cooler.state = .running then
    s.modCooler fun c =>
      if c.cfg.blasterRevs ≤ c.pulseCount + 1 then
        { c with pulseCount := 0, cycle := if c.cycle.isSome then c.cycle else some (1, s.floorTime) }
      else { c with pulseCount := c.pulseCount + 1 }
  else s

/-- A blaster is due and is decided on the air pressure input (R104). Where AB1 of a new cycle fires while AB8 of the last
one is still on, its pulse ends AB8's, since at most one output is on: the model's choice, log entry 45. -/
def State.decideBlaster (s : State) (next due : Nat) : State :=
  let fires := s.di 21
  let s :=
    s.modCooler fun c =>
      { c with
        blasterOut := if fires then some (next, s.floorTime + Config.blasterPulse) else c.blasterOut,
        cycle := if next < 8 then some (next + 1, due + c.cfg.blasterInterval * 1000) else none }
  if fires then s.countFired else s.countSkipped 1

/-! ### Start and stop (R89 to R92) -/

/-- A cooler state change with its COOLER request and event (Table 5-4). -/
def State.coolerTo (s : State) (st : CoolerState) : State :=
  ((s.modCooler fun c => { c with state := st }).raise .cooler).addEvent (.coolerState st)

/-- Entry into STARTING (R89, R93). -/
def State.beginStart (s : State) : State :=
  (s.coolerTo .starting).modCooler fun c =>
    { c with
      sequence := some (.fanStart, s.floorTime + c.cfg.fanStartDelay * 1000), started := 0,
      bedAt := some (s.floorTime + Config.bedUpdate),
      bed := match c.bedMean with | some m => bedValue c.cfg m | none => clamp c.cfg.bedMin c.cfg.bedMax c.cfg.bedBase }

/-- The grate whose turn comes after `n` have had theirs: G4, G3, G2, G1. -/
def turn (n : Nat) : Fin 4 := ⟨3 - n, by omega⟩

/-- The next grate is started at its turn; with the last the cooler enters RUNNING (R90). -/
def State.startNext (s : State) : State :=
  let n := s.cooler.started
  let s := s.modGrate (turn n) fun g => { g with state := if g.state = .fault then GrateState.fault else GrateState.running }
  if n + 1 < 4 then
    s.modCooler fun c => { c with started := n + 1, sequence := some (.stagger, s.floorTime + Config.grateStagger) }
  else (s.modCooler fun c => { c with started := 0, sequence := none, history := [] }).coolerTo .running

/-- A grate stops: STILL, unless it stands in FAULT (R91). -/
def Grate.stop (g : Grate) : Grate := if g.state = GrateState.running then { g with state := .still } else g

/-- The next grate of the stop list stops at its turn; after the last the fans run on (R91). -/
def State.stopNext (s : State) : State :=
  let s : State :=
    match s.cooler.stopList with
    | g :: rest => (s.modGrate g Grate.stop).modCooler fun c => { c with stopList := rest }
    | [] => s
  s.modCooler fun c =>
    { c with
      sequence :=
        if c.stopList = [] then some (.runOn, s.floorTime + c.cfg.fanRunOn * 1000)
        else some (.stagger, s.floorTime + Config.grateStagger) }

/-- The surge ends: the BED value is formed afresh, the heat balance is handed the end, and the shift its event (R76, R93,
R98). -/
def State.endSurge (s : State) : State :=
  (((s.modCooler fun c => { c.formBed with releaseAt := none }).modHeat fun h => { h with surge := none }).addEvent
    .surgeEnd).evaluate

/-- Entry into STOPPING from STARTING, RUNNING or SURGE (R91, R92, R98). -/
def State.beginStop (s : State) : State :=
  let s := s.endBlasting
  let s := if s.cooler.state = .surge then s.endSurge else s
  let s :=
    (s.coolerTo .stopping).modCooler fun c =>
      { c with started := 0, stopList := allGrates.filter fun g => c.grates[g.val].state = .running }
  s.stopNext.coolerStop

/-- The local stop, and STOP COOLER where it is permitted: an entry into STOPPING where there is one (R91, R92). -/
def State.stopCooler (s : State) : State :=
  match s.cooler.state with
  | .starting | .running | .surge => s.beginStop
  | .stopped | .stopping => s

/-- The run-on ends: STOPPED (R91). -/
def State.endRunOn (s : State) : State :=
  ((s.modCooler fun c => { c with sequence := none, bedAt := none }).coolerTo .stopped).coolerStop

/-! ### The bed mean and the surge (R96 to R98) -/

/-- The mean of the GOOD channels of C1 to C4, truncated toward zero, absent while none is GOOD (R96). -/
def meanOf (l : List Channel) : Option Int :=
  let good := l.filter fun ch => ch.quality = .good
  if good = [] then none else some ((good.foldl (fun (n : Int) (ch : Channel) => n + ch.value) 0).tdiv good.length)

/-- The surge history with a mean formed at `now`: entries older than the window leave (R96). -/
def addMean (window now : Nat) (m : Int) (l : List (Nat × Int)) : List (Nat × Int) :=
  (l ++ [(now, m)]).filter fun e => now ≤ e.1 + window * 1000

/-- The lowest mean of a history, no higher than `m`. -/
def lowest (m : Int) (l : List (Nat × Int)) : Int := l.foldl (fun n e => min n e.2) m

/-- A bed mean begins a surge (R97). -/
def surges (c : CoolerSettings) (m : Int) (history : List (Nat × Int)) : Bool :=
  decide ((c.surgeLevel : Int) < m) || decide (lowest m history + c.surgeRise ≤ m)

/-- Entry into SURGE: the heat balance freezes the surge value (R76, R97). -/
def State.beginSurge (s : State) : State :=
  let s := s.endBlasting
  let s := s.modHeat fun h => { h with surge := some (h.totalCommanded * (100 - s.envelope.surgeCutback) / 100) }
  let s := ((s.modCooler fun c => { c with state := .surge, releaseAt := none }).raise .cooler).addEvent .surgeStart
  (s.modTotals fun t => { t with surges := add32 t.surges 1 }).evaluate

/-- The release timer at a forming of the bed mean in SURGE (R98). -/
def releaseNext (c : Cooler) (mean : Option Int) (now : Nat) : Option Nat :=
  match mean with
  | some m => runWhile (decide (m < (c.cfg.releaseLevel : Int))) c.releaseAt now (c.cfg.releaseTime * 1000)
  | none => none

/-- A forming of the bed mean (R96 to R98). The forming that begins a surge leaves the release timer stopped until the
next: the model's choice, log entry 37. -/
def State.formBedMean (s : State) : State :=
  let mean := meanOf [s.ai 2, s.ai 3, s.ai 4, s.ai 5]
  let s :=
    s.modCooler fun c =>
      { c with
        bedMean := mean,
        history := match mean with | some m => addMean c.cfg.surgeWindow s.floorTime m c.history | none => c.history }
  match s.cooler.state, mean with
  | .running, some m => if surges s.cooler.cfg m s.cooler.history then s.beginSurge else s
  | .surge, _ => s.modCooler fun c => { c with releaseAt := releaseNext c mean s.floorTime }
  | _, _ => s

/-- The release: the cooler returns from SURGE to RUNNING (R98). -/
def State.release (s : State) : State :=
  let s := s.modCooler fun c => { c with state := .running, history := [], pulseCount := 0 }
  (s.raise .cooler).endSurge

/-! ### Drive faults (R100 to R102) -/

/-- The limit of a motion watch in ms at a commanded rate (R100). -/
def watchLimit (rate : Nat) : Nat := max 10000 (1800000 / rate)

/-- When a grate's motion watch fails. -/
def Grate.watchAt (g : Grate) : Option Nat := g.watch.map fun t => t + watchLimit g.commanded

/-- A grate enters FAULT at a latch on its record (R100). -/
def State.faultGrate (s : State) (g : Fin 4) : State :=
  if s.cooler.grates[g.val].state = .fault then s
  else (s.modGrate g fun r => { r with state := .fault, commanded := 0, watch := none }).raise .cooler

/-- The state that a cleared grate enters (R102). -/
def clearedState (c : Cooler) (g : Fin 4) : GrateState :=
  match c.state with
  | .running | .surge => .running
  | .starting => if 3 < g.val + c.started then .running else .still
  | .stopped | .stopping => .still

/-- A grate's record is cleared: a grate in FAULT leaves it (R102). -/
def State.clearGrate (s : State) (g : Fin 4) : State :=
  if s.cooler.grates[g.val].state = .fault then
    s.modGrate g fun r => { r with state := clearedState s.cooler g }
  else s

end Sys2Proof.Machine
end

