-- ==== Sys2Proof/Machine/FieldOps.lean ====
section
/-! DEFINITION. The field unit's operations (Chapter 6): debounce and accepted changes, the rotation monitor, scans, the
Drive Link image and frames, latching, the valve watches, clearing and masking. -/

namespace Sys2Proof.Machine

/-! ### Output diagnostic records (R117, R120, R121) -/

def FaultKinds.none : FaultKinds := { failToOpen := false, failToClose := false, noMotion := false }

def FaultKinds.has (k : FaultKinds) : FaultKind → Bool
  | .failToOpen => k.failToOpen
  | .failToClose => k.failToClose
  | .noMotion => k.noMotion

def FaultKinds.add (k : FaultKinds) : FaultKind → FaultKinds
  | .failToOpen => { k with failToOpen := true }
  | .failToClose => { k with failToClose := true }
  | .noMotion => { k with noMotion := true }

/-- The record after a latch of a kind (R117). -/
def DiagState.latch (d : DiagState) (k : FaultKind) : DiagState :=
  match d with
  | .ok | .powerup => .fault (FaultKinds.none.add k)
  | .fault ks => .fault (ks.add k)

/-- The record holds the kind. -/
def DiagState.holds (d : DiagState) (k : FaultKind) : Bool :=
  match d with
  | .ok | .powerup => false
  | .fault ks => ks.has k

/-- What a record's output is (Table 6-6). -/
inductive OutputKind where
  | valve (v : Fin 7)
  | grate (g : Fin 4)
  | fan (k : Fin 12)
  deriving DecidableEq, Repr

def outputOf (r : Fin 23) : OutputKind :=
  if h : r.val < 7 then .valve ⟨r.val, h⟩
  else if h2 : r.val < 11 then .grate ⟨r.val - 7, by omega⟩
  else .fan ⟨r.val - 11, by omega⟩

/-- The owner of an output is handed a latch of a kind on its record (R40, R100, R101, R118). -/
def State.handLatch (s : State) (r : Fin 23) (k : FaultKind) : State :=
  match outputOf r with
  | .valve v =>
    match lineOfValve v with
    | some l => s.lineLatch l k
    | none => s
  | .grate g => s.faultGrate g
  | .fan f => s.modChamber f fun c => { c with fault := true }

/-- An applying check fails: the record latches the kind, with a DIAG request where the kind is new, and the owner is
handed the latch (R117). -/
def State.latch (s : State) (r : Fin 23) (k : FaultKind) : State :=
  let s := if (s.record r).holds k then s else s.raise .diag
  (s.modField fun f => { f with records := upd f.records r fun d => { d with state := d.state.latch k } }).handLatch r k

/-- The kind whose failing condition holds on a record now (R119, R120). -/
def State.failing (s : State) (r : Fin 23) : Option FaultKind :=
  match outputOf r with
  | .valve v =>
    if s.field.valves[v.val].phase = .unproven then some (valveKind s.field.valves[v.val].openCommand) else none
  | .grate _ => none
  | .fan k => if s.cooler.chambers[k.val].lowExpired then some .noMotion else none

/-- A record is tested: it latches where its failing condition holds and the check applies (R121, R122). -/
def State.testRecord (s : State) (r : Fin 23) : State :=
  match s.failing r with
  | some k => if s.checkApplies r k then s.latch r k else s
  | none => s

/-- The owner of an output is handed its record as cleared (R102, R121). -/
def State.handClear (s : State) (r : Fin 23) : State :=
  match outputOf r with
  | .valve _ => s
  | .grate g => s.clearGrate g
  | .fan k => s.modChamber k fun c => { c with fault := false }

/-- The records set to OK, whatever they held (R121). -/
def Field.cleared (f : Field) (named : List (Fin 23)) : Field :=
  { f with records := named.foldl (fun v r => upd v r fun d => { d with state := .ok }) f.records }

/-- A record that was in FAULT in `before` and is not latched again is handed to its owner as cleared (R121). -/
def State.handCleared (before s : State) (r : Fin 23) : State :=
  if (before.record r).isFault && !(s.record r).isFault then s.handClear r else s

/-- The named records are set to OK, then each is tested, and those that stay clear are handed to their owners (R121). The
conditions of points 8 and 10 are formed after the tests, so a record that latches again leaves its point active (R102;
log entry 35). -/
def State.clearRecords (s : State) (named : List (Fin 23)) : State :=
  let cleared := s.modField fun f => f.cleared named
  let tested := named.foldl (fun t r => t.testRecord r) cleared
  named.foldl (fun t r => s.handCleared t r) tested

/-- The three kind masks and the 23 record masks that SET DIAG MASKS carries (R122, R176). -/
def Field.withMasks (f : Field) (m : BitVec 32) : Field :=
  { f with
    records := mapAt f.records fun i d => { d with checked := m.getLsbD i },
    openCheck := m.getLsbD 23, closeCheck := m.getLsbD 24, motionCheck := m.getLsbD 25 }

/-- A record whose check applies now and did not before is tested (R122). -/
def State.retest (before s : State) (r : Fin 23) : State :=
  match s.failing r with
  | some k => if s.checkApplies r k && !before.checkApplies r k then s.latch r k else s
  | none => s

/-! ### Valve watches (R118, R119) -/

def State.setPhase (s : State) (v : Fin 7) (p : WatchPhase) : State :=
  s.modField fun f =>
    { f with
      valves :=
        upd f.valves v fun w => { w with phase := p, proofAt := if p = WatchPhase.proving then w.proofAt else none } }

/-- The owner is handed a proof, or the end of the proof time without a latch (R37, R39). -/
def State.handProof (s : State) (v : Fin 7) : State :=
  match lineOfValve v with
  | some l => s.lineProof l s.field.valves[v.val].openCommand
  | none => s

/-- A proof fails, or a limit leaves: UNPROVEN, and a latch where the check applies. `masked` is what the owner is handed
where it does not. -/
def State.unprove (s : State) (v : Fin 7) (masked : State → State) : State :=
  let k := valveKind s.field.valves[v.val].openCommand
  let s := s.setPhase v .unproven
  if s.checkApplies (recordOfValve v) k then s.latch (recordOfValve v) k else masked s

/-- A valve watch follows its limits (R118, R119). -/
def State.watchValve (s : State) (v : Fin 7) : State :=
  match s.field.valves[v.val].phase with
  | .proving => if s.commandShown v then (s.setPhase v .proven).handProof v else s
  | .proven => if s.limitLost v then s.unprove v fun s => s else s
  | .unproven => if s.commandShown v then s.setPhase v .proven else s

/-- The proof time runs out (R118). -/
def State.proofExpired (s : State) (v : Fin 7) : State := s.unprove v fun s => s.handProof v

/-! ### Discrete inputs (R109, R110) -/

/-- The debounce time of an input in ms (R109). -/
def debounceOf (c : FieldSettings) (n : Fin 24) : Nat :=
  if n.val = 0 then Config.estopDebounce else c.debounce.toList.getD (n.val - 1) 0

/-- An accepted change is handed to the blocks of Table 6-1 that act on it. What reads a level as it stands, the home
switches and limits among it, follows when the event settles. -/
def State.handInput (s : State) (n : Fin 24) (level : Bool) : State :=
  match n.val with
  | 0 => if level then s.emergency .estopInput else s
  | 2 | 3 => s.voteFlame
  | 19 => if level then s else s.readyLost 0
  | 20 => if level then s else s.readyLost 1
  | 22 => if level then s.stopCooler else s
  | _ => s

/-- The debounced level takes a new level (R109). -/
def State.accept (s : State) (n : Fin 24) (level : Bool) : State :=
  (s.modField fun f =>
    { f with inputs := upd f.inputs n fun d => { d with level := level, dueAt := none } }).handInput n level

/-- The raw level takes a value: the debounce timer starts at a difference, stops at a return, and with debounce time 0
the change is accepted at once (R109). -/
def State.rawChange (s : State) (n : Fin 24) (level : Bool) : State :=
  let d := s.field.inputs[n.val]
  if d.raw = level then s
  else
    let time := debounceOf s.field.cfg n
    let s := s.modField fun f => { f with inputs := upd f.inputs n fun d => { d with raw := level } }
    if d.level = level then s.modField fun f => { f with inputs := upd f.inputs n fun d => { d with dueAt := none } }
    else if time = 0 then s.accept n level
    else s.modField fun f => { f with inputs := upd f.inputs n fun d => { d with dueAt := some (s.floorTime + time) } }

/-! ### Pulses and the rotation monitor (R111 to R113) -/

/-- A pulse of PI*n* is counted (R111). -/
def State.countPulse (s : State) (n : Fin 11) : State := s.modField fun f => { f with counters := upd f.counters n wrap32 }

/-- An index pulse acts on the monitor (R112). A second pulse in STOPPED makes it TURNING also where it is taken first at the
instant of the stop timer's expiry, of which the rule says both that and that the monitor keeps its state: the model's choice,
log entry 47. -/
def Rotation.pulse (r : Rotation) (now stopTime : Nat) : Rotation :=
  match r.last with
  | none => { r with last := some now, stopAt := some (now + stopTime * 1000) }
  | some t =>
    { turning := true, last := some now, stopAt := some (now + stopTime * 1000),
      period := some (max 1 (now - t)) }

/-- An index pulse: the monitor, then the lines with the period already handed on, then the blasters (R111, R113). L5 takes
the pulse before L6: the model's choice, log entry 41. -/
def State.indexPulse (s : State) : State :=
  let before := s.field.rotation.period
  let s := s.countPulse 10
  let s := s.modField fun f => { f with rotation := f.rotation.pulse s.floorTime f.cfg.kilnStopTime }
  let s := s.handPeriod before
  if s.field.rotation.turning then ((s.batchPulse 0).batchPulse 1).blasterPulse else s

/-- The stop timer expires: the pulse is forgotten, and a turning monitor becomes STOPPED (R112, R113). -/
def State.kilnStop (s : State) : State :=
  let was := s.field.rotation
  let s := s.modField fun f => { f with rotation := Rotation.reset }
  if was.turning then (((s.closeGate 4).closeGate 5).endBlasting).handPeriod was.period else s

/-! ### Scans (R114, R115) -/

/-- A channel as a scan delivers it (R114). -/
def scanned (e : ScanEntry) : Channel := { value := e.value.toInt, quality := if e.bad then .bad else .good }

/-- A valid scan: the channels, the counts and the timer, the end of a sensor link fault, and the bed mean (R96, R114,
R115). -/
def State.takeScan (s : State) (scan : Vector ScanEntry 32) : State :=
  let fault := s.field.linkFault
  let s :=
    s.modField fun f =>
      { f with
        channels := mapAt scan fun _ e => scanned e, validScans := wrap32 f.validScans, lastScan := some s.floorTime,
        scanAt := some (s.floorTime + 3 * f.cfg.scanPeriod), linkFault := false }
  (if fault then s.raise .diag else s).formBedMean

/-- The scan timer expires: every channel is STALE and the sensor link fault begins (R115). -/
def State.loseScans (s : State) : State :=
  let s :=
    s.modField fun f =>
      { f with channels := mapAt f.channels fun _ c => { c with quality := .stale }, scanAt := none, linkFault := true }
  (s.raise .diag).formBedMean

/-! ### Drive Link (R116) -/

/-- The image that the owners' values give: RO1–RO6, GR1–GR4, FN1–FN12. -/
def State.ownerImage (s : State) : Vector Nat 22 :=
  ofList
    ((s.lines.toList.map fun r => r.commanded) ++ (s.cooler.grates.toList.map fun g => g.commanded) ++
      s.cooler.chambers.toList.map fun k => k.commanded)
    (by simp)

/-- The owners' values are written to the image (R88, R116). A commanded rate that has changed within the event and is back
at its value is a change too. -/
def State.formImage (s : State) : State :=
  let image := s.ownerImage
  if s.field.image = image && !s.heat.ratesChanged then s
  else
    (s.modField fun f => { f with image := image, changedAt := some (f.changedAt.getD s.floorTime) }).modHeat fun h =>
      { h with ratesChanged := false }

/-- A Drive Link frame begins with the values as they stand (R116). -/
def State.beginDrive (s : State) : State :=
  s.modField fun f =>
    { f with
      frameCount := (f.frameCount + 1) % 256, frameAt := s.floorTime, frameValues := f.image, changedAt := none }

end Sys2Proof.Machine
end

