-- ==== Sys2Proof/Machine/Settle.lean ====
section
/-! DEFINITION. What follows within one event from what it changed: the owners' reactions, the heat balance, the Drive
Link image, the burner's watches, the alarm points and the recorder's durations (sections 1.3 and 2.3 of the scope file).

The spec gives each owner's reaction to a change and lets changes of one instant be taken in either order. The order here
is the model's (log entries 10 and 11). -/

namespace Sys2Proof.Machine

/-- A home in progress ends when the debounced home switch is active (R27). -/
def State.watchHome (s : State) (a : Fin 2) : State :=
  if s.burner.actuators[a.val].motion = .homing && s.di (homeOf a) then s.homeDone a else s

/-- One pass of reactions: owners first, then what is formed from them, then the alarm points. Where one event gives several
valve watches something to act on, they take it in ascending valve number, PV last, which orders what the lines hand on: the
model's choice, log entry 48. -/
def State.react (s : State) : State :=
  let s := allActuators.foldl (fun s a => s.watchHome a) s
  let s := allValves.foldl (fun s v => s.watchValve v) s
  s.watchLines.formCooler.evaluate.formImage.watchBurner.syncAlarms

/-- The event settles: an owner's reaction can cause another's, a trip by a point's raise among them, so the pass is made
three times. -/
def State.settle (s : State) : State := s.react.react.react.formImage.handDurations

end Sys2Proof.Machine
end

