-- ==== Sys2Proof/Machine/LinkOps.lean ====
section
/-! DEFINITION. The link port's operations (Chapter 10): sending, taking a request and answering it, discarding, and the
start and end of both resets. -/

namespace Sys2Proof.Machine

/-! ### Sending (R151, R169) -/

/-- The owed attention frame takes its place behind the frames already due (R151). -/
def State.queueOwed (s : State) : State :=
  if s.attention.owed && !(s.link.waiting.any fun f => !f.reply) then
    s.modLink fun l => { l with waiting := l.waiting ++ [.attention] }
  else s

/-- The next waiting frame begins if none is being sent. The owed flag clears when the attention frame begins (R151). -/
def State.sendNext (s : State) : State :=
  match s.link.sending, s.link.waiting with
  | none, f :: rest =>
    let s := s.modLink fun l => { l with sending := some f, waiting := rest }
    if f.reply then s else s.modAttention fun a => { a with owed := false }
  | _, _ => s

def State.pump (s : State) : State := s.queueOwed.sendNext

/-- The type of the reply to a request type (R169). -/
def replyType (type : Nat) : Nat := if type < 0x80 then type + 0x80 else 0xFF

/-- The reply frame (R169, Table 11-2). -/
def replyFrame (type : Nat) (tag : Byte) (status : Status) (content : List Byte) : Frame :=
  { type := replyType type, tag := tag, payload := BitVec.ofNat 8 status.ctorIdx :: content, reply := true }

/-- A reply becomes due: it goes before an attention frame that becomes owed at the same event (R151). -/
def State.send (s : State) (f : Frame) : State := (s.modLink fun l => { l with waiting := l.waiting ++ [f] }).pump

/-! ### Frames received (R168 to R170, R173) -/

/-- A frame is discarded and counted; the first since READ STATUS raises LINK (R170). -/
def State.discardFrame (s : State) : State :=
  let first := s.link.discarded = 0
  let s := s.modLink fun l => { l with discarded := inc16 l.discarded }
  if first then s.raise .link else s

/-- A valid frame starts the silence timer again and ends the silence (R173). -/
def State.validFrame (s : State) : State :=
  let silent := s.link.silent
  let s :=
    s.modLink fun l =>
      { l with
        silenceAt := if s.alarm.silenceTime = 0 then none else some (s.floorTime + s.alarm.silenceTime * 1000),
        silent := false }
  if silent then s.settle else s

/-- What the owner of a request decides: the status, the further reply fields, and the state after it (R169). -/
structure Answer where
  status : Status
  content : List Byte
  state : State

/-- A refusal: no state changes (R169). -/
def State.refuse (s : State) (status : Status) : Answer := { status := status, content := [], state := s }

/-- A refusal with a further field. -/
def State.refuseWith (s : State) (status : Status) (content : List Byte) : Answer :=
  { status := status, content := content, state := s }

/-- DONE with no state changed but the fields given. -/
def State.done (s : State) (content : List Byte) : Answer := { status := .done, content := content, state := s }

/-- ACCEPTED. -/
def State.accepted (s : State) : Answer := { status := .accepted, content := [], state := s }

/-- A taken request is decided and its reply becomes due (R169). -/
def State.decided (type : Nat) (tag : Byte) (a : Answer) : State :=
  a.state.send (replyFrame type tag a.status a.content)

/-- A request's valid frame completes. While another request is unanswered it is discarded, and otherwise it is taken
and decided (R169). During a reset the receiver is stopped (R175). -/
def State.request (s : State) (type : Nat) (tag : Byte) (decide : State → Answer) : State :=
  if s.resetRun.isSome then s
  else
    let s := s.validFrame
    if s.link.unanswered then s.discardFrame.pump
    else State.decided type tag (decide (s.modLink fun l => { l with unanswered := true }))

/-- An event other than a request takes its effect, except during a reset, and the frames it owes are sent. -/
def State.event (s : State) (effect : State → State) : State := if s.resetRun.isSome then s else (effect s).pump

/-- An event that takes place only where its condition holds. Elsewhere it has not happened and nothing changes (log
entry 3). -/
def State.eventIf (s : State) (happens : Bool) (effect : State → State) : State :=
  if happens then s.event effect else s

/-! ### The start of a reset (R108, R175) -/

/-- Every discrete output goes off (R108). Slots and cycles end uncounted (R68, R104), and no step is given. -/
def State.outputsOff (s : State) : State :=
  { s with
    burner :=
      { s.burner with
        igniter := false, firingRelay := false,
        actuators := mapAt s.burner.actuators fun _ a => { a with motion := .still, dueAt := none, direction := false } },
    batches := mapAt s.batches fun _ b => { b with slot := none, gateOpen := false },
    cooler := { s.cooler with cycle := none, blasterOut := none },
    field :=
      { s.field with
        valves := mapAt s.field.valves fun _ _ => { openCommand := false, phase := .proving, proofAt := none } },
    alarm := { s.alarm with horn := false } }

/-- A reset cause begins (R171, R175). A cold cause takes over a warm reset and prolongs a cold one. -/
def State.beginReset (s : State) (kind : ResetKind) (cause : RestartCause) (restart : Bool) : State :=
  let goesOn :=
    match s.resetRun with
    | some r => r.kind = .cold && r.restart
    | none => false
  { s.outputsOff with
    resetRun := some { kind := kind, restart := restart || goesOn }, restartCause := cause, restartPending := none,
    link := { s.link with unanswered := false, sending := none, waiting := [], receiver := .hunting },
    attention := { s.attention with owed := false }, field := { s.outputsOff.field with receiver := .hunting } }

/-! ### The end of a reset -/

/-- The rate that the strap pins give (Table 10-1). -/
def strapRate (br1 br0 : Bool) : Nat :=
  match br1, br0 with
  | false, false => 19200
  | false, true => 57600
  | true, false => 115200
  | true, true => 230400

/-- The link port after a reset with the given lock states and silence time (R168, R170, R173 to R175). -/
def Link.afterReset (l : Link) (locks : Vector Bool 7) (silenceTime now : Nat) : Link :=
  { unanswered := false, sending := none, waiting := [], discarded := 0,
    silenceAt := if silenceTime = 0 then none else some (now + silenceTime * 1000), silent := false, locks := locks,
    strapBR1 := l.strapBR1, strapBR0 := l.strapBR0, baud := strapRate l.strapBR1 l.strapBR0, receiver := .hunting }

/-- The inputs after a reset: the debounced level is taken from the raw level (R110). -/
def settledInputs (inputs : Vector Input 24) : Vector Input 24 :=
  mapAt inputs fun _ d => { d with level := d.raw, dueAt := none }

/-- The attention flags after a reset, before LINK is raised (R155). -/
def Attention.cleared : Attention := { request := 0x00#8, arm := 0xFF#8, owed := false }

/-- The alarm unit with the given points, its lists empty, no flood and the horn off (R125). -/
def Alarm.fresh (points : Vector Point 96) (nextSequence floodThreshold floodWindow silenceTime : Nat)
    (pulse : Fin 96) : Alarm :=
  { points := points, shelf := [], changes := [], overrun := false, nextSequence := nextSequence, raises := [],
    flood := false, reviewAt := none, reviewCount := 0, horn := false, standing := 0, floodThreshold := floodThreshold,
    floodWindow := floodWindow, silenceTime := silenceTime, raiseThreshold := floodThreshold,
    handed := pulseOf pulse }

/-- The points after a cold reset (R125). -/
def coldPoints : Vector Point 96 :=
  mapAt PointDef.table fun i d => Point.fresh d (if i < 16 then .normal else .disabled)

/-- Every block at its values after a cold reset, floor time 0, before the first evaluations. -/
def State.coldValues (s : State) : State :=
  let inputs := settledInputs s.field.inputs
  { s with
    floorTime := 0, resetRun := none, restartPending := none,
    link := s.link.afterReset (Vector.replicate 7 false) 0 0,
    burner :=
      .reset .default { cause := .powerRestored, point := none, stateAtTrip := .lockout, time := 0 }
        (flameVote .oneOfTwo inputs[2].level inputs[3].level) (Vector.replicate 2 .reset) none none,
    lines := Vector.replicate 6 (.reset .default 0 0), batches := Vector.replicate 2 .reset, envelope := .default,
    heat := .reset,
    cooler := .reset .default #v[.reset .bed, .reset .follow, .reset .follow, .reset .follow]
      (Vector.replicate 12 { setSpeed := 500, commanded := 0, fault := false, lowAt := none, lowExpired := false }),
    field := { Field.reset with inputs := inputs }, alarm := .fresh coldPoints 1 20 60 0 0, attention := .cleared,
    shift := .fresh }

/-- An actuator record after a warm reset: with verify UNVERIFIED no MISMATCH is left of it in fixed point 9 (R25, R31; log
entry 6). -/
def Actuator.warm (a : Actuator) : Actuator :=
  { a with
    motion := .still, verify := .unverified, owner := .sequence, mismatchHeld := false, lastOutcome := none, dueAt := none,
    homeSteps := 0, direction := false }

/-- A grate and a chamber after a warm reset, with the state of their record (R87). -/
def Grate.warm (g : Grate) (record : DiagState) : Grate :=
  { g with state := if record.isFault then .fault else .still, commanded := 0, watch := none }

def Chamber.warm (k : Chamber) (record : DiagState) : Chamber :=
  { k with commanded := 0, fault := record.isFault, lowAt := none, lowExpired := false }

/-- A point after a warm reset (R125). -/
def Point.warm (p : Point) : Point := Point.fresh p.defn (if p.state = .disabled then .disabled else .normal)

/-- The field unit after a warm reset at `now` (R110 to R118). -/
def Field.warm (f : Field) (now : Nat) : Field :=
  { f with
    inputs := settledInputs f.inputs, counters := Vector.replicate 11 0, rotation := Rotation.reset,
    channels := Vector.replicate 32 { value := 0, quality := .bad }, scanAt := some (now + 3 * f.cfg.scanPeriod),
    linkFault := false, lastScan := none, validScans := 0, ignoredScans := 0, receiver := .hunting,
    valves := Vector.replicate 7 (Valve.provingClosed (now + f.cfg.valveProofTime * 100)),
    image := Vector.replicate 22 0, changedAt := none, frameCount := (f.frameCount + 1) % 256, frameAt := now,
    frameValues := Vector.replicate 22 0 }

/-- Every block at its values after a warm reset, before the first evaluations. A flood in progress ends without a
FLOOD_END event: the model's choice, log entry 39. -/
def State.warmValues (s : State) : State :=
  let now := s.floorTime
  let field := s.field.warm now
  let b := s.burner
  { s with
    resetRun := none, restartPending := none, link := s.link.afterReset s.link.locks s.alarm.silenceTime now,
    burner :=
      .reset b.cfg { cause := .restarted, point := none, stateAtTrip := b.state, time := now }
        (flameVote b.cfg.voting field.inputs[2].level field.inputs[3].level) (mapAt b.actuators fun _ a => a.warm)
        b.previous b.lastStop,
    lines := mapAt s.lines fun _ r => .reset r.cfg r.lifetime now, batches := Vector.replicate 2 .reset,
    heat := .reset,
    cooler := .reset s.cooler.cfg
      (mapAt s.cooler.grates fun i g => if h : i < 4 then g.warm (s.record (recordOfGrate ⟨i, h⟩)) else g)
      (mapAt s.cooler.chambers fun i k => if h : i < 12 then k.warm (s.record (recordOfFan ⟨i, h⟩)) else k),
    field := field,
    alarm :=
      .fresh (mapAt s.alarm.points fun _ p => p.warm) s.alarm.nextSequence s.alarm.floodThreshold s.alarm.floodWindow
        s.alarm.silenceTime 1,
    attention := .cleared }

/-- The reset in progress ends where no cause of it goes on: the blocks start from their reset values, LINK is raised and
the owners make their first evaluations (R125, R155, R175). -/
def State.endReset (s : State) : State :=
  match s.resetRun with
  | none => s
  | some r =>
    if s.pinLow || s.supplyLow || r.restart then s
    else
      match r.kind with
      | .cold => ((s.coldValues.raise .link).settle).pump
      | .warm => (((s.warmValues.addEvent (.restart .warmRequest)).raise .link).settle).pump

end Sys2Proof.Machine
end

