-- ==== Sys2Proof/Machine/Layout.lean ====
section
/-! DEFINITION. The contents of the replies that carry state, after the status byte (Chapter 11). A reply that no table of
the chapter lays out carries its rule's fields in the rule's order, each as R176 encodes it. The width of a field that
neither R176 nor a table of the chapter gives is the model's choice: one byte where its range lies in 0 to 255, two where it
lies in 0 to 65 535, and four otherwise, but for the fields named below (log entry 12). -/

namespace Sys2Proof.Machine

/-! ### Fields -/

def b1 (n : Nat) : List Byte := beBytes 1 n
def b2 (n : Nat) : List Byte := beBytes 2 n
def b4 (n : Nat) : List Byte := beBytes 4 n
def b6 (n : Nat) : List Byte := beBytes 6 n
def b8 (n : Nat) : List Byte := beBytes 8 n

/-- The code of OPEN and CLOSED, of a gate or a valve command (Table 11-3). -/
def openCode (isOpen : Bool) : List Byte := b1 (if isOpen then 0 else 1)

/-- A channel's value and quality. -/
def Channel.bytes (c : Channel) : List Byte := signed2 c.value ++ b1 c.quality.ctorIdx

/-- The state of an output diagnostic record (Table 11-3), and its set of kinds (R176). -/
def DiagState.code : DiagState → Nat
  | .ok => 0
  | .powerup => 1
  | .fault _ => 2

def DiagState.kindBits : DiagState → Nat
  | .ok | .powerup => 0
  | .fault k => bitSet [k.failToOpen, k.failToClose, k.noMotion]

/-- The time that has passed since `t`, a multi-byte field of 4 bytes: of a time above 2^32 - 1 ms the low 32 bits, which is
the model's choice, log entry 12. -/
def since (now : Nat) (t : Nat) : List Byte := b4 (now - t)

/-- A set of lines (R176). -/
def lineSet (f : Fin 6 → Bool) : List Byte := b1 (bitSet (allLines.map f))

/-! ### Burner (R23, section 11.4) -/

def FirstOut.bytes (f : FirstOut) : List Byte :=
  b1 f.cause.ctorIdx ++ b1 (f.point.getD 0) ++ b1 f.stateAtTrip.ctorIdx ++ b6 f.time

def Actuator.bytes (a : Actuator) : List Byte :=
  opt 2 a.position b2 ++ opt 2 a.target b2 ++ b1 a.motion.ctorIdx ++ b1 a.verify.ctorIdx ++ b1 a.owner.ctorIdx ++
    flag a.homeFault ++ opt 1 a.lastOutcome fun o => b1 o.ctorIdx

/-- The purge elapsed time in ms, 0 while the count is stopped (R10). -/
def Burner.elapsed (b : Burner) (now : Nat) : Nat :=
  match b.purgeSince with
  | some t => now - t
  | none => 0

/-- The timer that the present state runs, of ignition trial, pilot hold and main trial (R23). -/
def Burner.trial (b : Burner) : Option Nat :=
  match b.state with
  | .ignition => b.ignitionTrialAt
  | .pilot => b.pilotHoldAt
  | .mainTrial => b.mainTrialAt
  | .lockout | .idle | .purge | .prepare | .mainFiring | .stopping => none

/-- READ BURNER (R23). Flame present is the vote as the request is taken. A set bit of the permissive set means met, and an actuator's position UNKNOWN is sent as an absent
optional field: the model's choice, log entry 12. -/
def State.burnerBytes (s : State) : List Byte :=
  let b := s.burner
  let now := s.floorTime
  b1 b.state.ctorIdx ++ b1 (bitSet s.permissives) ++ b4 (b.elapsed now) ++ b4 (remaining b.giveUpAt now) ++
    b4 (remaining b.trial now) ++ flag (s.di 2) ++ flag (s.di 3) ++ flag s.flameNow ++
    opt 11 b.firstOut (fun f => f.bytes ++ b2 b.claims) ++ opt 11 b.previous (fun p => p.1.bytes ++ b2 p.2) ++
    opt 1 b.lastStop (fun r => b1 r.ctorIdx) ++ opt 4 b.ceiling b4 ++
    b.actuators[0].bytes ++ b.actuators[1].bytes

/-! ### Lines (R58, R71, Table 11-6) -/

def OrderBody.code : OrderBody → Nat
  | .rate _ _ _ => 0
  | .context _ _ => 1
  | .batch _ _ _ => 2

/-- The whole seconds after which a ramp of `ramp` per minute from `start` reaches `target` (R46). -/
def rampSeconds (start target ramp : Nat) : Nat :=
  if ramp = 0 || start = target then 0
  else if start < target then (60 * (target - start) + ramp - 1) / ramp
  else 60 * (start - target - 1) / ramp + 1

/-- The remaining ramp or hold time of an active RATE order, 0 for a hold without end (R58). A BATCH order has neither, and
0 is sent: the model's choice, log entry 12. -/
def workRemaining (body : OrderBody) (p : Progress) (now : Nat) : Nat :=
  match body with
  | .rate target ramp hold =>
    match p.holdStart with
    | some t => if hold = 0 then 0 else t + hold * 1000 - now
    | none => p.startTime + rampSeconds p.rampStart target ramp * 1000 - now
  | .context _ _ | .batch _ _ _ => 0

/-- The head order's fields (R58): zeros and an absent start time where there is no head, or it is not active, which is the
model's choice, log entry 12. -/
def Line.headBytes (r : Line) (now : Nat) : List Byte :=
  match r.progress, r.queue with
  | some p, o :: _ =>
    flag true ++ opt 6 (some p.startTime) b6 ++ b4 p.delivered ++ flag p.cut ++ flag p.deviation ++
      b4 (workRemaining o.body p now)
  | _, _ => flag false ++ opt 6 (none : Option Nat) b6 ++ b4 0 ++ flag false ++ flag false ++ b4 0

/-- The last slot record (Table 3-4). Its mass in g takes 4 bytes, and its reason, which only a MISSED slot has, is an
optional field: the model's choice, log entry 12. -/
def SlotRecord.bytes (r : SlotRecord) : List Byte :=
  b1 r.number ++ b2 r.tag ++ b6 r.openedAt ++ b6 r.endedAt ++ b1 r.outcome.ctorIdx ++
    opt 1 r.reason (fun m => b1 m.ctorIdx) ++ b1 r.credit ++ opt 4 r.mass b4 ++ flag r.estimated

/-- The batch record with the batch heat and the period in use (R71). The batch heat is absent whenever no BATCH order is
active on an OPEN line, and the period is the rotation monitor's and is sent whenever the monitor reports one, also while no
BATCH order is active. The slot in flight, its number and phase, is one optional field: the model's choice too, log
entry 12. -/
def State.batchBytes (s : State) (b : Fin 2) : List Byte :=
  let r := s.batches[b.val]
  let l := s.lines[(lineOfBatch b).val]
  let period := s.field.rotation.period
  b2 r.indexCount ++ b1 r.opened ++ b1 r.credit ++ opt 2 r.slot (fun w => b1 w.number ++ b1 w.phase.ctorIdx) ++
    openCode r.gateOpen ++ b1 r.idle ++ b1 r.fed ++ b1 r.missed ++ b1 r.skipped ++ b2 r.misses ++ flag r.batchMissed ++
    opt 25 r.last SlotRecord.bytes ++ opt 4 (l.activeBatch.map fun _ => batchHeat l period) b4 ++ opt 4 period b4

/-- READ LINE (R58). The tag and the kind of a queued order stand side by side, order by order, and the batch record follows
only on a line of BATCH kind, without a presence byte: the model's choice, log entry 12. -/
def State.lineBytes (s : State) (l : Fin 6) : List Byte :=
  let r := s.lines[l.val]
  let now := s.floorTime
  b1 r.state.ctorIdx ++ b1 r.cfg.kind.ctorIdx ++ b2 r.cv ++ b1 r.priority ++ b2 r.requested ++ b2 r.allowed ++
    b2 r.commanded ++ b2 r.measured ++ flag r.cut ++ flag r.deviation ++ b1 r.queue.length ++
    b1 (16 - r.queue.length) ++ (r.queue.map fun o => b2 o.tag ++ b1 o.body.code).flatten ++ r.headBytes now ++
    b4 (remaining r.noticeAt now) ++ flag r.completionFlag ++ flag r.lowWaterFlag ++ flag r.emptyFlag ++
    flag r.stateFlag ++ b1 r.completions.length ++ flag r.overrun ++ b4 r.posted ++ b4 r.retired ++ b4 r.discarded ++
    b8 r.lifetime ++ b1 (s.record (recordOfValve (svOf l))).code ++
    (match batchOf l, r.cfg.kind with
    | some b, .batch => s.batchBytes b
    | _, _ => [])

def Completion.bytes (c : Completion) : List Byte :=
  b2 c.tag ++ b1 c.body.code ++ b1 c.outcome.ctorIdx ++ b4 c.delivered ++ opt 6 c.start b6 ++ b6 c.finish ++
    b1 (bitSet [c.cut, c.deviation]) ++ opt 3 c.counts fun n => b1 n.1 ++ b1 n.2.1 ++ b1 n.2.2

/-! ### Heat balance (R86) -/

def State.heatLineBytes (s : State) (l : Fin 6) : List Byte :=
  let e := s.heat.entries[l.val]
  let r := s.lines[l.val]
  b4 e.requested ++ b4 e.floor ++ b4 e.allowed ++ b2 r.allowed ++ b4 e.commanded ++ flag r.cut ++ b2 r.cv ++
    b1 r.priority

/-- READ HEAT BALANCE (R86). The point and the percentage of the least claim are one optional field, absent while no claim
stands: the model's choice, log entry 12. -/
def State.heatBytes (s : State) : List Byte :=
  let h := s.heat
  (allLines.map s.heatLineBytes).flatten ++ b4 h.totalRequested ++ b4 h.totalAllowed ++ b4 h.totalCommanded ++
    ([CeilingSource.operator, .cooler, .alarm, .burner, .max].map fun c => opt 4 (s.ceiling c) b4).flatten ++
    opt 4 h.surge b4 ++ opt 4 s.satValue b4 ++ b1 h.claims.length ++
    opt 2 (leastClaim h.claims) (fun c => b1 c.1 ++ b1 c.2) ++ b4 h.effective ++ b1 h.binding.ctorIdx ++
    opt 1 h.active (fun c => b1 c.ctorIdx) ++ (h.cutOrder.map fun l => b1 (l.val + 1)).flatten

/-! ### Cooler (R106) -/

/-- The entry of one grate (R106). The remaining watch time of a grate whose motion watch is stopped is sent as 0, with no
presence byte: R106 says 0 of the stopped sequence and release timers only, and this is the model's choice, log entry 12. -/
def State.grateBytes (s : State) (g : Fin 4) : List Byte :=
  let r := s.cooler.grates[g.val]
  b1 r.state.ctorIdx ++ b1 r.mode.ctorIdx ++ b2 r.fixedRate ++ b1 r.ratio ++ b2 r.commanded ++
    b4 (remaining r.watchAt s.floorTime) ++ b1 (s.record (recordOfGrate g)).code

def State.chamberBytes (s : State) (k : Fin 12) : List Byte :=
  let r := s.cooler.chambers[k.val]
  b2 r.setSpeed ++ b2 r.commanded ++ flag r.fault ++ (s.ai (pressureOf k)).bytes ++ (s.ai (currentOf k)).bytes

/-- The lowest mean of a history, absent while it is empty. -/
def lowestOf : List (Nat × Int) → Option Int
  | [] => none
  | e :: rest => some (lowest e.2 rest)

/-- READ COOLER (R106). The bed mean and the lowest mean are sent as two bytes in two's complement, like the pressures they
are formed from: Table 11-1 gives no width for a bed mean, and R176 does not list it among the signed fields. The number of
surge history entries takes two bytes. The lowest mean, which an empty history has not, is an optional field, and so are the
next blaster and its due time together. All are the model's choice, log entry 12. -/
def State.coolerBytes (s : State) : List Byte :=
  let c := s.cooler
  let now := s.floorTime
  b1 c.state.ctorIdx ++ b4 (remaining (c.sequence.map Prod.snd) now) ++ (allGrates.map s.grateBytes).flatten ++
    b2 c.lead ++ b2 c.bed ++ (allChambers.map s.chamberBytes).flatten ++ opt 2 c.bedMean signed2 ++
    b2 c.history.length ++ opt 2 (lowestOf c.history) signed2 ++ b4 (remaining c.releaseAt now) ++ flag c.satLow ++
    (s.ai 1).bytes ++ flag c.blasters ++ b1 c.pulseCount ++ opt 7 c.cycle fun n => b1 n.1 ++ b6 n.2

/-! ### Field (R124) -/

/-- The commanded level of each discrete output: SV1–SV6, PV, IG, FR, the step and direction pairs of AXIAL and SWIRL, BG5
and BG6, DR5 and DR6, AB1–AB8, HN. A step output is off between its pulses (log entry 5). -/
def State.outputs (s : State) : List Bool :=
  (s.field.valves.toList.map fun v => v.openCommand) ++ [s.burner.igniter, s.burner.firingRelay, false,
    s.burner.actuators[0].direction, false, s.burner.actuators[1].direction] ++
    (s.batches.toList.map fun b => b.gateOpen) ++
    (s.batches.toList.map fun b => match b.slot with | some w => w.phase = .drop | none => false) ++
    ([1, 2, 3, 4, 5, 6, 7, 8].map fun n => match s.cooler.blasterOut with | some o => o.1 == n | none => false) ++
    [s.alarm.horn]

/-- Part 0 (R124). The raw and the debounced level of one input stand side by side: the model's choice, log entry 12. -/
def State.fieldPart0 (s : State) : List Byte :=
  let f := s.field
  let now := s.floorTime
  (f.inputs.toList.map fun d => flag d.raw ++ flag d.level).flatten ++ (f.counters.toList.map b4).flatten ++
    flag f.rotation.turning ++ opt 4 f.rotation.period b4 ++ opt 4 f.rotation.last (since now) ++
    (s.outputs.map flag).flatten

/-- Part 1 (R124). The valid-scan and the ignored-scan count take four bytes each: the model's choice, log entry 12. -/
def State.fieldPart1 (s : State) : List Byte :=
  let f := s.field
  (f.channels.toList.map Channel.bytes).flatten ++ flag f.linkFault ++ opt 4 f.lastScan (since s.floorTime) ++
    b4 f.validScans ++ b4 f.ignoredScans

def State.fieldPart2 (s : State) : List Byte :=
  let f := s.field
  (f.image.toList.map b2).flatten ++ b1 f.frameCount ++
    (f.records.toList.map fun r => b1 r.state.code ++ b1 r.state.kindBits ++ flag r.checked).flatten ++
    flag f.openCheck ++ flag f.closeCheck ++ flag f.motionCheck ++
    (f.valves.toList.map fun v => openCode v.openCommand ++ b1 v.phase.ctorIdx).flatten

/-! ### Alarms (R147, Table 11-7) -/

/-- The code of a suppression group (Table 11-3). -/
def Group.code : Group → Nat
  | .none => 0
  | .kilnStopped => 1
  | .coolerAtRest => 2
  | .burnerNotFiring => 3
  | .lineShut l => 4 + l.val

/-- A point's definition (R147) in the order and at the widths in which DEFINE ALARM carries it (R176), the input in the
place of the channel. The fields that the point's source does not use (the limit, direction and deadband of a DISCRETE
point, the active level of an ANALOG one, and all these with the channel of an INTERNAL one) are sent as 0 at their full
width, with no presence byte. R147 and R176 say neither: both are the model's choice, log entry 12. -/
def PointDef.bytes (d : PointDef) : List Byte :=
  (match d.source with
  | .analog c limit high deadband => b1 0 ++ b1 (c.val + 1) ++ signed2 limit ++ b1 (if high then 0 else 1) ++ b2 deadband ++ b1 0
  | .discrete n level => b1 1 ++ b1 (n.val + 1) ++ b2 0 ++ b1 0 ++ b2 0 ++ b1 (if level then 0 else 1)
  | .internal => b1 2 ++ b1 0 ++ b2 0 ++ b1 0 ++ b2 0 ++ b1 0) ++
    b1 d.cls.ctorIdx ++ b1 d.onDelay ++ b1 d.offDelay ++ b1 d.group.code ++ b1 d.cutBack

/-- The channel of an ANALOG point. -/
def State.sourceChannel (s : State) (src : PointSource) : Option Channel :=
  match src with
  | .analog c _ _ _ => some (s.ai c)
  | .discrete _ _ | .internal => none

/-- READ ALARM POINT (R147). The value and the quality of an ANALOG point's channel are one optional field, so another point
sends one presence byte 0 and three bytes of zero: the model's choice, log entry 12. -/
def State.pointBytes (s : State) (i : Fin 96) : List Byte :=
  let p := s.alarm.points[i.val]
  p.defn.bytes ++ b1 p.state.ctorIdx ++ flag p.condition ++ flag p.active ++ b4 (remaining p.delayAt s.floorTime) ++
    opt 6 p.expiry b6 ++ opt 6 p.lastChange b6 ++ opt 3 (s.sourceChannel p.defn.source) Channel.bytes

/-- READ ALARM TABLE (R147). The review count takes four bytes, the newest sequence number is an optional field, absent
while the list is empty, the shelf list carries no count before its entries, and the remaining review time is 0 while no
flood is in progress: the model's choice, log entry 12. The count of a flood that has ended stands: log entry 40. -/
def State.tableBytes (s : State) : List Byte :=
  let a := s.alarm
  (a.points.toList.map fun p => b1 p.state.ctorIdx).flatten ++ b1 a.standing ++ flag a.horn ++
    (a.shelf.map fun e => b1 (e.1.val + 1) ++ b6 e.2).flatten ++ b1 a.changes.length ++
    opt 2 (a.changes.getLast?.map Change.sequence) b2 ++ flag a.overrun ++ flag a.flood ++
    b4 (remaining a.reviewAt s.floorTime) ++ b4 a.reviewCount ++ b1 a.raises.length

def Change.bytes (c : Change) : List Byte :=
  b2 c.sequence ++ b6 c.time ++ b1 c.point ++ b1 c.cls.ctorIdx ++ b1 c.old.ctorIdx ++ b1 c.new.ctorIdx ++
    opt 2 c.value signed2

/-! ### Attention, identification and status (R152, R171) -/

/-- A line has a reason flag set. -/
def Line.hasReason (r : Line) : Bool := r.completionFlag || r.lowWaterFlag || r.emptyFlag || r.stateFlag

/-- The sequence of the newest report. -/
def newest (store : List Report) : Option Nat := store.getLast?.map fun r => r.shift.sequence

def State.attentionBytes (s : State) : List Byte :=
  s.attention.vector :: (b1 s.alarm.changes.length ++ lineSet (fun l => s.lines[l.val].hasReason) ++
    b1 s.burner.state.ctorIdx ++ b1 s.cooler.state.ctorIdx ++ opt 4 (newest s.shift.store) b4)

def State.pingBytes (s : State) : List Byte :=
  b2 Config.vendorCode ++ b2 Config.partCode ++ b1 Config.revision ++ b1 s.restartCause.ctorIdx ++ b6 s.floorTime

def State.statusBytes (s : State) : List Byte :=
  b1 s.burner.state.ctorIdx ++ b1 s.cooler.state.ctorIdx ++ (s.lines.toList.map fun r => b1 r.state.ctorIdx).flatten ++
    [s.attention.vector, s.attention.arm] ++ b1 (bitSet s.link.locks.toList) ++ flag s.shift.clock.isSome ++
    b2 s.link.discarded

/-! ### Reports and peeks (section 11.5) -/

/-- The days before a month of a year (R157). -/
def daysBefore (year month : Nat) : Nat :=
  ((List.range (month - 1)).map fun m => daysIn year (m + 1)).foldl (· + ·) 0

/-- Seconds since 2000-01-01 00:00:00 (section 11.5). -/
def DateTime.seconds (d : DateTime) : Nat :=
  let y := d.year - 2000
  let days := 365 * y + (y + 3) / 4 + daysBefore d.year d.month + (d.day - 1)
  ((days * 24 + d.hour) * 60 + d.minute) * 60 + d.second

/-- A detail of a subject and a value, filled to 8 bytes (section 11.5). -/
def detail (subject : Nat) (value : List Byte) : List Byte :=
  b1 subject ++ value ++ List.replicate (7 - value.length) 0

def EventKind.detailBytes : EventKind → List Byte
  | .ignition | .mainFiring | .surgeStart | .surgeEnd | .floodStart | .floodEnd => detail 0 []
  | .lockout cause point => detail 0 (b1 cause.ctorIdx ++ b1 (point.getD 0))
  | .idle reason => detail 0 (b1 reason.ctorIdx)
  | .lineAdmitted l | .lineShut l | .lineFault l => detail (l.val + 1) []
  | .contextChange l cv => detail (l.val + 1) (b2 cv)
  | .coolerState st => detail 0 (b1 st.ctorIdx)
  | .tripRaise p => detail p []
  | .clockSet old new =>
    (match old with | some d => b4 d.seconds | none => b4 0xFFFFFFFF) ++ b4 new.seconds
  | .restart cause => detail 0 (b1 cause.ctorIdx)
  | .reportOverwritten q => detail 0 (b4 q)

/-- An event entry of 15 bytes; the kinds count from 1 (Table 9-3). -/
def ShiftEvent.bytes (e : ShiftEvent) : List Byte := b6 e.time ++ b1 (e.kind.ctorIdx + 1) ++ e.kind.detailBytes

/-- Sixteen event positions from `first`, an empty one all zeros. -/
def eventBytes (events : List ShiftEvent) (first : Nat) : List Byte :=
  let listed := ((events.drop first).take 16).map ShiftEvent.bytes
  listed.flatten ++ List.replicate (15 * (16 - listed.length)) 0

def LineTotals.bytes (t : LineTotals) : List Byte :=
  b4 t.mass ++ b4 (t.heat / 1000000) ++ b4 t.retired ++ b4 t.deviation.total ++ b4 t.cut.total ++ b4 t.fed ++
    b4 t.missed ++ b4 t.skipped ++ b4 t.aborted

/-- The fields of part 0 from the burner summary on (Table 11-9). -/
def OpenShift.summaryBytes (o : OpenShift) : List Byte :=
  let t := o.totals
  b4 t.firing.total ++ b4 t.lockout.total ++ b4 t.trips ++ b4 t.purgeStarts ++ (t.strokes.toList.map b4).flatten ++
    b4 t.surges ++ b4 t.surgeTime.total ++ b4 t.blastersFired ++ b4 t.blastersSkipped ++
    (t.raises.toList.map b4).flatten ++ b4 t.floods ++ b4 t.floodTime.total ++ b1 t.maxStanding ++ b4 t.shelves ++
    (t.ceilings.toList.map fun d => b4 d.total).flatten ++ b1 o.events.length ++ b4 o.notListed

/-- Part 0 of a shift with its close or peek fields (Table 11-9). -/
def OpenShift.part0 (o : OpenShift) (floor : Nat) (calendar : Option DateTime) (cause : CloseCause) (released : Bool)
    (overwrote : Option Nat) : List Byte :=
  b4 o.sequence ++ b1 o.index ++ b6 o.openFloor ++ b6 floor ++ opt 6 o.openCalendar calendarBytes ++
    opt 6 calendar calendarBytes ++ b1 o.cause.ctorIdx ++ b1 cause.ctorIdx ++ flag released ++ opt 4 overwrote b4 ++
    o.summaryBytes

/-- The parts 1 to 4 of a shift (R166). -/
def OpenShift.laterPart (o : OpenShift) (part : Nat) : List Byte :=
  if part = 1 then (o.totals.lines.toList.map LineTotals.bytes).flatten else eventBytes o.events (16 * (part - 2))

def Report.part (r : Report) (part : Nat) : List Byte :=
  if part = 0 then r.shift.part0 r.closeFloor r.closeCalendar r.cause r.released r.overwrote else r.shift.laterPart part

def Peek.part (p : Peek) (part : Nat) : List Byte :=
  if part = 0 then p.shift.part0 p.floor p.calendar .none false none else p.shift.laterPart part

end Sys2Proof.Machine
end

