-- ==== Sys2Proof/Machine/BurnerCmd.lean ====
section
/-! DEFINITION. The requests of the burner unit (Chapter 1). -/

namespace Sys2Proof.Machine

/-- Carry out a command that always ends in a next state. -/
abbrev Result := Host.Outcome State Fault Refusal

/-- READ BURNER (R23). -/
def execReadBurner (tag : Byte) (s : State) : Result := .next (s.request 0x01 tag fun s => s.done s.burnerBytes)

/-- SET BURNER is decided (R24). Flame present is voted again by the setting it brings (R13; log entry 19). In actuator work of
the host that is in progress in IDLE the step that is already due keeps its time, and the new step rate holds from the step
after it: the model's choice, log entry 46. -/
def decideSetBurner (f : BurnerFields) (s : State) : Answer :=
  if s.locked .burner then s.refuse .locked
  else
    match burnerSettings f with
    | some c => (s.modBurner fun b => { b with cfg := c }).voteFlame.done []
    | none => s.refuse .badValue

def execSetBurner (tag : Byte) (f : BurnerFields) (s : State) : Result := .next (s.request 0x02 tag (decideSetBurner f))

/-- LOCKOUT is left for IDLE: the first-out record becomes the previous one (R4, R8). -/
def State.leaveLockout (s : State) : State :=
  let s :=
    s.modBurner fun b =>
      { b with previous := (match b.firstOut with | some f => some (f, b.claims) | none => b.previous), firstOut := none }
  (s.setOwners .none).toIdle .lockoutReset

/-- RESET LOCKOUT is decided (R8). -/
def decideResetLockout (s : State) : Answer :=
  if s.burner.state = .lockout then
    if s.p2 && s.p3 then s.leaveLockout.settle.done [] else s.refuse .causeActive
  else s.refuse .notPermitted

def execResetLockout (tag : Byte) (s : State) : Result := .next (s.request 0x03 tag decideResetLockout)

/-- START PURGE is decided: a refusal carries the set of unmet permissives (R9). -/
def decideStartPurge (s : State) : Answer :=
  if s.burner.state = .idle then
    if s.permissives.all id then s.toPurge.settle.accepted
    else s.refuseWith .notPermitted (b1 (bitSet (s.permissives.map not)))
  else s.refuseWith .notPermitted (b1 0)

def execStartPurge (tag : Byte) (s : State) : Result := .next (s.request 0x04 tag decideStartPurge)

/-- STOP BURNER is decided by the burner state (Table 1-6). -/
def decideStopBurner (s : State) : Answer :=
  match s.burner.state with
  | .purge | .prepare => (s.sequenceEnd .stopRequest).settle.done []
  | .ignition | .pilot => (s.toIdle .stopRequest).settle.done []
  | .mainTrial | .mainFiring =>
    if s.anyLive then s.toStopping.settle.accepted else (s.toIdle .stopRequest).settle.done []
  | .lockout | .idle | .stopping => s.refuse .notPermitted

def execStopBurner (tag : Byte) (s : State) : Result := .next (s.request 0x05 tag decideStopBurner)

/-- EMERGENCY STOP (R7). -/
def execEmergencyStop (tag : Byte) (s : State) : Result :=
  .next (s.request 0x06 tag fun s => (s.emergency .hostStop).settle.done [])

/-- The order is one that a line can be admitted for (R15, R36). -/
def Order.feeds (o : Order) : Bool :=
  match o.body with
  | .rate _ _ _ | .batch _ _ _ => true
  | .context _ _ => false

/-- The three conditions of a line that is to be admitted (R15). -/
def State.admissible (s : State) (l : Fin 6) : Bool :=
  s.lines[l.val].state = .shut && !(s.record (recordOfValve (svOf l))).unsound && s.lines[l.val].queue.any Order.feeds

/-- MAIN LIGHT is decided: a refusal carries the failing lines (R15, R177). -/
def decideMainLight (set : Byte) (s : State) : Answer :=
  if set = 0 || 64 ≤ set.toNat then s.refuse .badValue
  else if s.burner.state = .pilot then
    let named := allLines.filter fun l => set.getLsbD l.val
    if named.all fun l => s.admissible l then (s.toMainTrial named).settle.accepted
    else s.refuseWith .notPermitted (lineSet fun l => set.getLsbD l.val && !s.admissible l)
  else s.refuseWith .notPermitted (b1 0)

def execMainLight (tag : Byte) (lines : Byte) (s : State) : Result := .next (s.request 0x07 tag (decideMainLight lines))

/-! ### Actuators (R26 to R29) -/

/-- The host claims an actuator that stands still (R26). -/
def State.claimForHost (s : State) (a : Fin 2) : State := s.modActuator a fun r => { r with owner := .operator }

/-- The checks that HOME, MOVE and STEP ACTUATOR make first (R26). -/
def State.actuatorRefusal (s : State) (a : Fin 2) : Option Status :=
  let r := s.burner.actuators[a.val]
  if r.owner = .sequence || s.burner.state = .lockout then some .notPermitted
  else if r.motion ≠ .still then some .busy
  else none

/-- HOME ACTUATOR is decided (R26, R27). -/
def decideHome (actuator : Byte) (s : State) : Answer :=
  match coded 2 actuator with
  | none => s.refuse .badValue
  | some a =>
    match s.actuatorRefusal a with
    | some st => s.refuse st
    | none => ((s.claimForHost a).startHome a).settle.accepted

def execHomeActuator (tag : Byte) (actuator : Byte) (s : State) : Result := .next (s.request 0x08 tag (decideHome actuator))

/-- MOVE ACTUATOR is decided (R26, R28). -/
def decideMove (actuator : Byte) (target : Nat) (s : State) : Answer :=
  match coded 2 actuator with
  | none => s.refuse .badValue
  | some a =>
    match s.actuatorRefusal a, s.burner.actuators[a.val].position with
    | some st, _ => s.refuse st
    | none, none => s.refuse .notPermitted
    | none, some _ =>
      if target ≤ Config.actuatorOpen then ((s.claimForHost a).startMove a target).settle.accepted
      else s.refuse .badValue

def execMoveActuator (tag : Byte) (actuator : Byte) (target : BitVec 16) (s : State) : Result :=
  .next (s.request 0x09 tag (decideMove actuator target.toNat))

/-- A signed count within −50 to −1 or 1 to 50, and the position it leads to within 0 to 400 (R26). -/
def stepTarget (position : Nat) (count : Int) : Option Nat :=
  if count ≠ 0 ∧ count.natAbs ≤ 50 ∧ 0 ≤ (position : Int) + count ∧ (position : Int) + count ≤ Config.actuatorOpen then
    some ((position : Int) + count).toNat
  else none

/-- STEP ACTUATOR is decided (R26, R28). -/
def decideStep (actuator : Byte) (count : Int) (s : State) : Answer :=
  match coded 2 actuator with
  | none => s.refuse .badValue
  | some a =>
    match s.actuatorRefusal a, s.burner.actuators[a.val].position with
    | some st, _ => s.refuse st
    | none, none => s.refuse .notPermitted
    | none, some p =>
      match stepTarget p count with
      | some t => ((s.claimForHost a).startMove a t).settle.accepted
      | none => s.refuse .badValue

def execStepActuator (tag : Byte) (actuator : Byte) (count : Byte) (s : State) : Result :=
  .next (s.request 0x0A tag (decideStep actuator count.toInt))

/-- STOP ACTUATOR is decided (R29). -/
def decideStopActuator (actuator : Byte) (s : State) : Answer :=
  match coded 2 actuator with
  | none => s.refuse .badValue
  | some a =>
    if s.burner.actuators[a.val].owner = .sequence || s.burner.state = .lockout then s.refuse .notPermitted
    else if s.burner.actuators[a.val].motion = .still then s.done []
    else (s.endWork a .stopped).settle.done []

def execStopActuator (tag : Byte) (actuator : Byte) (s : State) : Result :=
  .next (s.request 0x0B tag (decideStopActuator actuator))

end Sys2Proof.Machine
end

