-- ==== Sys2Proof/Machine/BurnerEvents.lean ====
section
/-! DEFINITION. The timer events of the burner unit (Chapter 1). Each takes place where its timer is due. -/

namespace Sys2Proof.Machine

/-- When the purge timer reaches purge time (R10). -/
def Burner.purgeAt (b : Burner) : Option Nat := b.purgeSince.map fun t => t + b.cfg.purgeTime * 1000

/-- A sequence timer has expired in one of the states it belongs to (R1). -/
def Burner.due (b : Burner) (belongs : BurnerState → Bool) (t : Option Nat) (now : Nat) : Bool :=
  belongs b.state && isDue t now

def Burner.giveUpDue (b : Burner) (now : Nat) : Bool := b.due (· == .purge) b.giveUpAt now
def Burner.purgeDue (b : Burner) (now : Nat) : Bool := b.due (· == .purge) b.purgeAt now
def Burner.ignitionTrialDue (b : Burner) (now : Nat) : Bool := b.due (· == .ignition) b.ignitionTrialAt now
def Burner.flameProofDue (b : Burner) (now : Nat) : Bool := b.due (· == .ignition) b.flameProofAt now
def Burner.pilotHoldDue (b : Burner) (now : Nat) : Bool := b.due (· == .pilot) b.pilotHoldAt now
def Burner.mainTrialDue (b : Burner) (now : Nat) : Bool := b.due (· == .mainTrial) b.mainTrialAt now
def Burner.flameLossDue (b : Burner) (now : Nat) : Bool := b.due BurnerState.supervised b.flameLossAt now
def Burner.airLossDue (b : Burner) (now : Nat) : Bool := b.due BurnerState.firing b.airLossAt now

/-- The give-up timer expires (R11). -/
def execGiveUpTimerExpiry (s : State) : Result :=
  .next (s.eventIf (s.burner.giveUpDue s.floorTime) fun s => (s.sequenceEnd .purgeTimeout).settle)

/-- The purge timer reaches purge time (R12). -/
def execPurgeComplete (s : State) : Result :=
  .next (s.eventIf (s.burner.purgeDue s.floorTime) fun s => s.toPrepare.settle)

/-- The ignition trial timer expires (R13). -/
def execIgnitionTrialExpiry (s : State) : Result :=
  .next (s.eventIf (s.burner.ignitionTrialDue s.floorTime) fun s => (s.enterLockout .ignitionFail none).settle)

/-- The flame proof timer expires (R13, R14). -/
def execFlameProofExpiry (s : State) : Result :=
  .next (s.eventIf (s.burner.flameProofDue s.floorTime) fun s => s.toPilot.settle)

/-- The pilot hold timer expires (R14). -/
def execPilotHoldExpiry (s : State) : Result :=
  .next (s.eventIf (s.burner.pilotHoldDue s.floorTime) fun s => (s.toIdle .pilotTimeout).settle)

/-- The end of the main trial: MAIN_FIRING with a line OPEN and flame present, LOCKOUT otherwise (R16). -/
def State.endMainTrial (s : State) : State :=
  if s.anyOpen && s.burner.flame then s.toMainFiring else s.enterLockout .ignitionFail none

/-- The main trial timer expires (R16). -/
def execMainTrialExpiry (s : State) : Result :=
  .next (s.eventIf (s.burner.mainTrialDue s.floorTime) fun s => s.endMainTrial.settle)

/-- The flame loss timer expires (R19). -/
def execFlameLossExpiry (s : State) : Result :=
  .next (s.eventIf (s.burner.flameLossDue s.floorTime) fun s => (s.enterLockout .flameFail none).settle)

/-- The air loss timer expires (R20). -/
def execAirLossExpiry (s : State) : Result :=
  .next (s.eventIf (s.burner.airLossDue s.floorTime) fun s => (s.enterLockout .airLost none).settle)

/-- The whole seconds passed since a start (R21, R39, R46). -/
def secondsSince (start now : Nat) : Nat := (now - start) / 1000

/-- A whole second of the ceiling ramp has passed that has not been recomputed. -/
def Burner.rampDue (b : Burner) (now : Nat) : Bool :=
  match b.state, b.rampFrom with
  | .mainFiring, some t => b.rampDone < secondsSince t now
  | _, _ => false

/-- The BURNER ceiling value is recomputed at a whole second of MAIN_FIRING (R21). -/
def execCeilingRampTick (s : State) : Result :=
  .next (s.eventIf (s.burner.rampDue s.floorTime) fun s =>
    (s.rampCeiling (secondsSince (s.burner.rampFrom.getD 0) s.floorTime)).settle)

/-- An actuator's next step is due (R25, R27). -/
def Actuator.stepDue (r : Actuator) (now : Nat) : Bool :=
  isDue r.dueAt now && (r.motion = .moving || (r.motion = .homing && r.homeSteps < Config.homeLimit))

/-- A step is given (R25, R27, R28). -/
def execActuatorStep (a : Fin 2) (s : State) : Result :=
  .next (s.eventIf (s.burner.actuators[a.val].stepDue s.floorTime) fun s =>
    (s.modActuator a fun r => r.stepped s.floorTime s.burner.cfg.stepRate[a.val]).settle)

/-- All the steps of a home have been given (R27). -/
def Actuator.limitReached (r : Actuator) : Bool := r.motion = .homing && Config.homeLimit ≤ r.homeSteps

/-- A home has been given 440 steps without its switch (R27). -/
def execHomeStepLimit (a : Fin 2) (s : State) : Result :=
  .next (s.eventIf s.burner.actuators[a.val].limitReached fun s => (s.homeFailed a).settle)

/-- A settle is over (R28). -/
def Actuator.settleDue (r : Actuator) (now : Nat) : Bool := r.motion = .settling && isDue r.dueAt now

/-- The settle of a move ends and the feedback is read (R28). -/
def execActuatorSettleEnd (a : Fin 2) (s : State) : Result :=
  .next (s.eventIf (s.burner.actuators[a.val].settleDue s.floorTime) fun s => (s.settled a).settle)

end Sys2Proof.Machine
end

