-- ==== Sys2Proof/Machine/FuelCmd.lean ====
section
/-! DEFINITION. The requests and events of the fuel lines and the batch feeding (Chapters 2 and 3). -/

namespace Sys2Proof.Machine

/-! ### Requests (R33, R36, R38, R44, R49, R55, R58) -/

/-- The target of some RATE order in the queue lies above a max rate (R33). -/
def rateAbove (max : Nat) (o : Order) : Bool :=
  match o.body with
  | .rate target _ _ => decide (max < target)
  | .context _ _ | .batch _ _ _ => false

/-- The line's settings take new values. A change of kind returns the batch record to its reset values, and a line that
becomes BATCH measures no rate (R33, R51, R60). -/
def State.configure (s : State) (l : Fin 6) (c : LineSettings) : State :=
  let changed := decide (c.kind ≠ s.lines[l.val].cfg.kind)
  let s :=
    s.modLine l fun r =>
      { r with
        cfg := c, window := if c.kind = .batch then [] else r.window,
        measured := if c.kind = .batch then 0 else r.measured }
  let s :=
    match batchOf l with
    | some b => if changed then s.modBatch b fun _ => Batch.reset else s
    | none => s
  s.evaluate

/-- CONFIGURE LINE is decided, its checks in the order of R33. -/
def decideConfigure (line : Byte) (f : LineFields) (s : State) : Answer :=
  if s.locked .fuel then s.refuse .locked
  else
    match numbered 6 line with
    | none => s.refuse .badValue
    | some l =>
      match lineSettings l f with
      | none => s.refuse .badValue
      | some c =>
        let r := s.lines[l.val]
        if r.state ≠ .shut || (c.kind ≠ r.cfg.kind && r.queue ≠ []) then s.refuse .notPermitted
        else if r.queue.any (rateAbove c.maxRate) then s.refuse .badValue
        else (s.configure l c).settle.done []

def execConfigureLine (tag : Byte) (line : Byte) (f : LineFields) (s : State) : Result :=
  .next (s.request 0x10 tag (decideConfigure line f))

/-- The head is an active RATE order with hold 0 that has reached its target (R44, R47). -/
def Line.openEnded (r : Line) : Bool :=
  match r.progress, r.queue with
  | some p, { body := .rate _ _ hold, .. } :: _ => p.holdStart.isSome && hold = 0
  | _, _ => false

/-- Orders join the queue; the head is taken up, or an open-ended head gives way (R44, R45, R47). -/
def State.post (s : State) (l : Fin 6) (orders : List Order) : State :=
  let wasEmpty := s.lines[l.val].queue = []
  let s := s.modLine l fun r => { r with queue := r.queue ++ orders, posted := r.posted + orders.length }
  let s :=
    if wasEmpty then s.takeUp l s.lines[l.val].queue
    else if s.lines[l.val].openEnded then s.completeHead l
    else s
  s.evaluate

/-- POST ORDERS is decided, its checks in the order of R44. A count outside 1 to 4 is a wrong length (R177). -/
def decidePost (line : Byte) (orders : List OrderFields) (s : State) : Answer :=
  if orders.length = 0 || 4 < orders.length then s.refuse .badLength
  else
    match numbered 6 line with
    | none => s.refuse .badValue
    | some l =>
      if s.burner.state = .lockout then s.refuse .notPermitted
      else
        match feedOrders s.lines[l.val].cfg orders with
        | none => s.refuse .badValue
        | some posted =>
          let queued := s.lines[l.val].queue.length
          if 16 - queued < posted.length then s.refuse .full
          else (s.post l posted).settle.done (b1 (16 - queued - posted.length))

def execPostOrders (tag : Byte) (line : Byte) (orders : List OrderFields) (s : State) : Result :=
  .next (s.request 0x11 tag (decidePost line orders))

/-- CLEAR LINE is decided (R49). -/
def decideClear (line : Byte) (s : State) : Answer :=
  match numbered 6 line with
  | none => s.refuse .badValue
  | some l => (s.clearQueue l).settle.done []

def execClearLine (tag : Byte) (line : Byte) (s : State) : Result := .next (s.request 0x12 tag (decideClear line))

/-- OPEN LINE is decided, its checks in the order of R36. -/
def decideOpen (line : Byte) (s : State) : Answer :=
  match numbered 6 line with
  | none => s.refuse .badValue
  | some l =>
    if s.burner.state ≠ .mainFiring then s.refuse .notPermitted
    else if s.lines[l.val].state ≠ .shut || (s.record (recordOfValve (svOf l))).unsound then s.refuse .notPermitted
    else if !s.lines[l.val].queue.any Order.feeds then s.refuse .empty
    else (s.admitLine l).settle.accepted

def execOpenLine (tag : Byte) (line : Byte) (s : State) : Result := .next (s.request 0x13 tag (decideOpen line))

/-- SHUT LINE is decided by the line state (Table 2-4). -/
def decideShut (line : Byte) (s : State) : Answer :=
  match numbered 6 line with
  | none => s.refuse .badValue
  | some l =>
    match s.lines[l.val].state with
    | .admitting | .opened => (s.beginShut l).settle.accepted
    | .shutting | .shut => s.done []
    | .fault => (s.enterShut l).settle.done []

def execShutLine (tag : Byte) (line : Byte) (s : State) : Result := .next (s.request 0x14 tag (decideShut line))

/-- The four reason flags are cleared (R58). -/
def Line.clearReasons (r : Line) : Line :=
  { r with completionFlag := false, lowWaterFlag := false, emptyFlag := false, stateFlag := false }

/-- READ LINE is decided: the flags are returned as they stood and then cleared (R58). -/
def decideReadLine (line : Byte) (s : State) : Answer :=
  match numbered 6 line with
  | none => s.refuse .badValue
  | some l => { status := .done, content := s.lineBytes l, state := s.modLine l Line.clearReasons }

def execReadLine (tag : Byte) (line : Byte) (s : State) : Result := .next (s.request 0x15 tag (decideReadLine line))

/-- The READ COMPLETIONS reply: up to 8 records, how many are left, and the overrun flag (R55, section 11.4). -/
def Line.completionBytes (r : Line) : List Byte :=
  let taken := r.completions.take 8
  b1 taken.length ++ b1 (r.completions.length - taken.length) ++ flag r.overrun ++
    (taken.map Completion.bytes).flatten

/-- READ COMPLETIONS is decided: the records returned leave the list and the flag is cleared (R55). -/
def decideReadCompletions (line : Byte) (s : State) : Answer :=
  match numbered 6 line with
  | none => s.refuse .badValue
  | some l =>
    { status := .done, content := s.lines[l.val].completionBytes,
      state := s.modLine l fun r => { r with completions := r.completions.drop 8, overrun := false } }

def execReadCompletions (tag : Byte) (line : Byte) (s : State) : Result :=
  .next (s.request 0x16 tag (decideReadCompletions line))

/-! ### Weigh pulses and the measured rate (R51 to R53) -/

/-- A weigh pulse is counted, and handed to a CONTINUOUS line (R53, R111). -/
def State.weigh (s : State) (l : Fin 6) : State :=
  let s := s.countPulse ⟨l.val, by omega⟩
  let cfg := s.lines[l.val].cfg
  if cfg.kind = .continuous then
    (s.modLine l fun r => { r with window := r.window ++ [(s.floorTime, cfg.gramsPerPulse)] }).deliver l cfg.gramsPerPulse
  else s

def execWeighPulse (l : Fin 6) (s : State) : Result := .next (s.event fun s => (s.weigh l).settle)

/-- The measured rate of a window of 10 s (R51). -/
def measuredRate (window : List (Nat × Nat)) : Nat :=
  min Config.rateMax ((window.foldl (fun n p => n + p.2) 0) * 9 / 25)

/-- A computation of the measured rate at `now`, with its comparison (R51, R52). -/
def Line.measure (r : Line) (now : Nat) : Line :=
  let window := r.window.filter fun p => now < p.1 + 10000
  compareRates now
    { r with
      window := window, measuredAt := now, measured := if r.cfg.kind = .continuous then measuredRate window else 0 }

/-- A whole second of floor time at which the line has not computed its measured rate (R51). -/
def Line.measureDue (r : Line) (now : Nat) : Bool := now % 1000 = 0 && r.measuredAt != now

def execMeasuredRateTick (l : Fin 6) (s : State) : Result :=
  .next (s.eventIf (s.lines[l.val].measureDue s.floorTime) fun s => (s.modLine l fun r => r.measure s.floorTime).settle)

/-- The deviation timer expires: the flag is set, and the active order takes it (R52). -/
def Line.setDeviation (r : Line) : Line :=
  { r with deviation := true, deviationAt := none, progress := r.progress.map fun p => { p with deviation := true } }

def execDeviationTimerExpiry (l : Fin 6) (s : State) : Result :=
  .next (s.eventIf (isDue s.lines[l.val].deviationAt s.floorTime) fun s => (s.modLine l Line.setDeviation).settle)

/-! ### Ramps and holds (R39, R46, R47) -/

/-- A whole second of the active RATE order's ramp has passed that has not been recomputed (R46). -/
def Line.rampDue (r : Line) (now : Nat) : Bool :=
  match r.progress, r.queue with
  | some p, { body := .rate _ _ _, .. } :: _ => p.holdStart.isNone && p.rampDone < secondsSince p.startTime now
  | _, _ => false

/-- The requested rate is recomputed; at its target the hold starts, and an open-ended order with an order behind it
retires (R46, R47). -/
def State.rampRate (s : State) (l : Fin 6) : State :=
  match s.lines[l.val].progress, s.lines[l.val].queue with
  | some p, { body := .rate target ramp hold, .. } :: rest =>
    let k := secondsSince p.startTime s.floorTime
    let v := rampValue p.rampStart target ramp k
    let reached := v = target
    let s :=
      (s.modLine l fun r =>
        { r with
          requested := v,
          progress := some { p with rampDone := k, holdStart := if reached then some s.floorTime else none } }).evaluate
    if reached ∧ hold = 0 ∧ rest ≠ [] then s.completeHead l else s
  | _, _ => s

def execRateRampTick (l : Fin 6) (s : State) : Result :=
  .next (s.eventIf (s.lines[l.val].rampDue s.floorTime) fun s => (s.rampRate l).settle)

/-- A whole second of the shut ramp has passed that has not been recomputed (R39). -/
def Line.shutRampDue (r : Line) (now : Nat) : Bool :=
  match r.shutRamp with
  | some p => p.done < secondsSince p.since now
  | none => false

/-- The requested rate `k` whole seconds after a shut began (R39). -/
def shutValue (rate ramp k : Nat) : Nat := (60 * rate - k * ramp) / 60

/-- The shut ramp is recomputed; at 0 the valve is commanded closed (R39). -/
def State.rampShut (s : State) (l : Fin 6) : State :=
  match s.lines[l.val].shutRamp with
  | some p =>
    let k := secondsSince p.since s.floorTime
    let v := shutValue p.rate s.lines[l.val].cfg.shutRamp k
    let s := (s.modLine l fun r => { r with requested := v, shutRamp := some { p with done := k } }).evaluate
    if v = 0 then s.rampEnd l else s
  | none => s

def execShutRampTick (l : Fin 6) (s : State) : Result :=
  .next (s.eventIf (s.lines[l.val].shutRampDue s.floorTime) fun s => (s.rampShut l).settle)

/-- When the hold of the active RATE order ends (R47). -/
def Line.holdAt (r : Line) : Option Nat :=
  match r.progress, r.queue with
  | some p, { body := .rate _ _ hold, .. } :: _ => if hold = 0 then none else p.holdStart.map fun t => t + hold * 1000
  | _, _ => none

def execHoldExpiry (l : Fin 6) (s : State) : Result :=
  .next (s.eventIf (isDue s.lines[l.val].holdAt s.floorTime) fun s => (s.completeHead l).settle)

/-- The notice delay timer expires (R56). -/
def execNoticeDelayExpiry (l : Fin 6) (s : State) : Result :=
  .next (s.eventIf (isDue s.lines[l.val].noticeAt s.floorTime) fun s =>
    ((s.modLine l fun r => { r with noticeAt := none }).setReason l .completion).settle)

/-! ### The phases of a slot (R66) -/

/-- The slot in flight in a phase that is over (R66). -/
def Batch.slotDue (r : Batch) (phase : SlotPhase) (now : Nat) : Option Slot :=
  match r.slot with
  | some w => if w.phase = phase ∧ w.endsAt ≤ now then some w else none
  | none => none

/-- A phase of a slot ends, where one is over. -/
def State.endPhase (s : State) (b : Fin 2) (phase : SlotPhase) (effect : State → Slot → State) : State :=
  match s.batches[b.val].slotDue phase s.floorTime with
  | some w => s.event fun s => (effect s w).settle
  | none => s

/-- DR goes off and the scale settles (R66). -/
def State.endDrop (s : State) (b : Fin 2) (w : Slot) : State :=
  s.modBatch b fun r =>
    { r with slot := some { w with phase := .settle, endsAt := s.floorTime + Config.scaleSettle } }

def execGateDelayEnd (b : Fin 2) (s : State) : Result := .next (s.endPhase b .gateDelay fun s w => s.beginDrop b w)
def execDropPulseEnd (b : Fin 2) (s : State) : Result := .next (s.endPhase b .drop fun s w => s.endDrop b w)
def execBatchSettleEnd (b : Fin 2) (s : State) : Result := .next (s.endPhase b .settle fun s w => s.weighSlot b w)

end Sys2Proof.Machine
end

