-- ==== Sys2Proof/Machine/HeatCmd.lean ====
section
/-! DEFINITION. The requests of the heat balance (Chapter 4). -/

namespace Sys2Proof.Machine

/-- SET ENVELOPE is decided (R85). -/
def decideSetEnvelope (f : EnvelopeFields) (s : State) : Answer :=
  if s.locked .envelope then s.refuse .locked
  else
    match envelopeSettings f with
    | some c => ({ s with envelope := c } : State).evaluate.settle.done []
    | none => s.refuse .badValue

def execSetEnvelope (tag : Byte) (f : EnvelopeFields) (s : State) : Result :=
  .next (s.request 0x20 tag (decideSetEnvelope f))

/-- The OPERATOR source takes a value, or becomes absent (R75). -/
def State.setOperator (s : State) (v : Option Nat) : State := (s.modHeat fun h => { h with operator := v }).evaluate

/-- SET OPERATOR CEILING is decided (R75). -/
def decideSetOperator (value : Nat) (s : State) : Answer :=
  if value ≤ Config.heatMax then (s.setOperator (some value)).settle.done [] else s.refuse .badValue

def execSetOperatorCeiling (tag : Byte) (value : BitVec 32) (s : State) : Result :=
  .next (s.request 0x21 tag (decideSetOperator value.toNat))

/-- CLEAR OPERATOR CEILING (R75). -/
def execClearOperatorCeiling (tag : Byte) (s : State) : Result :=
  .next (s.request 0x22 tag fun s => (s.setOperator none).settle.done [])

/-- READ HEAT BALANCE (R86). -/
def execReadHeatBalance (tag : Byte) (s : State) : Result := .next (s.request 0x23 tag fun s => s.done s.heatBytes)

end Sys2Proof.Machine
end

