-- ==== Sys2Proof/Machine/CoolerCmd.lean ====
section
/-! DEFINITION. The requests and events of the cooler (Chapter 5). -/

namespace Sys2Proof.Machine

/-! ### Requests -/

/-- START COOLER is decided by the cooler state (R89). -/
def decideStartCooler (s : State) : Answer :=
  match s.cooler.state with
  | .stopped => if s.di 22 then s.refuse .notPermitted else s.beginStart.settle.accepted
  | .starting | .stopping => s.refuse .busy
  | .running | .surge => s.done []

def execStartCooler (tag : Byte) (s : State) : Result := .next (s.request 0x28 tag decideStartCooler)

/-- STOP COOLER is decided by the cooler and the burner state (R91). -/
def decideStopCooler (s : State) : Answer :=
  match s.cooler.state with
  | .stopped | .stopping => s.done []
  | .starting | .running | .surge =>
    if s.burner.state.atRest then s.beginStop.settle.accepted else s.refuse .notPermitted

def execStopCooler (tag : Byte) (s : State) : Result := .next (s.request 0x29 tag decideStopCooler)

/-- A grate with the mode and value that SET GRATE gives it; `none` where they do not fit (R94). -/
def grateSetting (g : Fin 4) (mode : Byte) (value : Nat) (r : Grate) : Option Grate :=
  match mode.toNat with
  | 0 => if value ≤ 300 then some { r with mode := .fixed, fixedRate := value } else none
  | 1 => if g.val = 0 then some { r with mode := .bed } else none
  | 2 => if g.val ≠ 0 ∧ value ≤ 200 then some { r with mode := .follow, ratio := value } else none
  | _ => none

/-- SET GRATE is decided (R94). -/
def decideSetGrate (grate mode : Byte) (value : Nat) (s : State) : Answer :=
  match numbered 4 grate with
  | none => s.refuse .badValue
  | some g =>
    match grateSetting g mode value s.cooler.grates[g.val] with
    | some r => (s.modGrate g fun _ => r).settle.done []
    | none => s.refuse .badValue

def execSetGrate (tag : Byte) (grate mode : Byte) (value : BitVec 16) (s : State) : Result :=
  .next (s.request 0x2A tag (decideSetGrate grate mode value.toNat))

/-- SET FAN SPEED is decided (R95). -/
def decideSetFanSpeed (chamber : Byte) (speed : Nat) (s : State) : Answer :=
  match numbered 12 chamber with
  | none => s.refuse .badValue
  | some k =>
    if speed ≤ 1000 then (s.modChamber k fun r => { r with setSpeed := speed }).settle.done []
    else s.refuse .badValue

def execSetFanSpeed (tag : Byte) (chamber : Byte) (speed : BitVec 16) (s : State) : Result :=
  .next (s.request 0x2B tag (decideSetFanSpeed chamber speed.toNat))

/-- BLASTERS ON (R103). -/
def execBlastersOn (tag : Byte) (s : State) : Result :=
  .next (s.request 0x2C tag fun s => (s.modCooler fun c => { c with blasters := true }).done [])

/-- BLASTERS OFF: a cycle in progress is abandoned (R103, R104). -/
def execBlastersOff (tag : Byte) (s : State) : Result :=
  .next (s.request 0x2D tag fun s => (s.endBlasting.modCooler fun c => { c with blasters := false }).done [])

/-- Some BED setting differs (R93). -/
def bedChanged (a b : CoolerSettings) : Bool :=
  a.bedBase != b.bedBase || a.bedGain != b.bedGain || a.bedSetpoint != b.bedSetpoint || a.bedMin != b.bedMin ||
    a.bedMax != b.bedMax

/-- The COOLER settings take new values; changed BED settings form the BED value again while its timer runs (R93, R105;
log entry 21). -/
def Cooler.withSettings (c : Cooler) (new : CoolerSettings) : Cooler :=
  let d := { c with cfg := new }
  if bedChanged c.cfg new && c.bedAt.isSome then d.formBed else d

/-- SET COOLER is decided (R105). -/
def decideSetCooler (f : CoolerFields) (s : State) : Answer :=
  if s.locked .cooler then s.refuse .locked
  else
    match coolerSettings f with
    | some c => (s.modCooler fun k => k.withSettings c).settle.done []
    | none => s.refuse .badValue

def execSetCooler (tag : Byte) (f : CoolerFields) (s : State) : Result := .next (s.request 0x2E tag (decideSetCooler f))

/-- READ COOLER (R106). -/
def execReadCooler (tag : Byte) (s : State) : Result := .next (s.request 0x2F tag fun s => s.done s.coolerBytes)

/-! ### The sequence timer, the BED update and the release (R90, R91, R93, R98) -/

/-- The sequence timer of a kind has expired. -/
def Cooler.sequenceDue (c : Cooler) (kind : SequenceTimer) (now : Nat) : Bool :=
  match c.sequence with
  | some (k, t) => k = kind && t ≤ now
  | none => false

def execFanStartDelayExpiry (s : State) : Result :=
  .next (s.eventIf (s.cooler.state = .starting && s.cooler.sequenceDue .fanStart s.floorTime) fun s => s.startNext.settle)

/-- A stagger ends: the next grate starts, or the next of the stop list stops (R90, R91). -/
def State.stagger (s : State) : State :=
  match s.cooler.state with
  | .starting => s.startNext
  | .stopping => s.stopNext
  | .stopped | .running | .surge => s.modCooler fun c => { c with sequence := none }

def execGrateStaggerExpiry (s : State) : Result :=
  .next (s.eventIf (s.cooler.sequenceDue .stagger s.floorTime) fun s => s.stagger.settle)

def execFanRunOnExpiry (s : State) : Result :=
  .next (s.eventIf (s.cooler.sequenceDue .runOn s.floorTime) fun s => s.endRunOn.settle)

/-- The BED value is formed at an expiry of its timer, which runs on (R93). -/
def Cooler.bedTick (c : Cooler) : Cooler := { c.formBed with bedAt := c.bedAt.map fun t => t + Config.bedUpdate }

def execBedUpdateTick (s : State) : Result :=
  .next (s.eventIf (isDue s.cooler.bedAt s.floorTime) fun s => (s.modCooler Cooler.bedTick).settle)

def execReleaseTimerExpiry (s : State) : Result :=
  .next (s.eventIf (s.cooler.state = .surge && isDue s.cooler.releaseAt s.floorTime) fun s => s.release.settle)

/-! ### Drive watches (R100, R101, R120) -/

/-- A stroke pulse restarts the watch that runs and is counted in the open shift (R100). -/
def State.stroke (s : State) (g : Fin 4) : State :=
  let s := s.countPulse ⟨g.val + 6, by omega⟩
  (s.modGrate g fun r => { r with watch := r.watch.map fun _ => s.floorTime }).modTotals fun t =>
    { t with strokes := upd t.strokes g fun n => add32 n 1 }

def execStrokePulse (g : Fin 4) (s : State) : Result := .next (s.event fun s => (s.stroke g).settle)

/-- A motion watch fails: the record latches, or with the check masked the watch starts again (R100, R120). -/
def State.watchFailed (s : State) (g : Fin 4) : State :=
  if s.checkApplies (recordOfGrate g) .noMotion then s.latch (recordOfGrate g) .noMotion
  else s.modGrate g fun r => { r with watch := some s.floorTime }

def execGrateWatchExpiry (g : Fin 4) (s : State) : Result :=
  .next (s.eventIf (isDue s.cooler.grates[g.val].watchAt s.floorTime) fun s => (s.watchFailed g).settle)

/-- A low-current timer expires and stays expired while its conditions hold (R101, R120). -/
def State.currentFailed (s : State) (k : Fin 12) : State :=
  let s := s.modChamber k fun r => { r with lowAt := none, lowExpired := true }
  if s.checkApplies (recordOfFan k) .noMotion then s.latch (recordOfFan k) .noMotion else s

def execLowCurrentExpiry (k : Fin 12) (s : State) : Result :=
  .next (s.eventIf (isDue s.cooler.chambers[k.val].lowAt s.floorTime) fun s => (s.currentFailed k).settle)

/-! ### Blasters (R104) -/

/-- A blaster of the cycle that is due. -/
def Cooler.blasterDue (c : Cooler) (now : Nat) : Option (Nat × Nat) :=
  match c.cycle with
  | some (next, due) => if due ≤ now then some (next, due) else none
  | none => none

def execBlasterDue (s : State) : Result :=
  .next (match s.cooler.blasterDue s.floorTime with
    | some (next, due) => s.event fun s => s.decideBlaster next due
    | none => s)

def execBlasterPulseEnd (s : State) : Result :=
  .next (s.eventIf (isDue (s.cooler.blasterOut.map Prod.snd) s.floorTime) fun s =>
    s.modCooler fun c => { c with blasterOut := none })

end Sys2Proof.Machine
end

