-- ==== Sys2Proof/Machine/FieldCmd.lean ====
section
/-! DEFINITION. The requests and events of the field unit (Chapter 6). -/

namespace Sys2Proof.Machine

/-! ### Requests (R121 to R124) -/

/-- READ FIELD is decided (R124). -/
def decideReadField (part : Byte) (s : State) : Answer :=
  match part.toNat with
  | 0 => s.done s.fieldPart0
  | 1 => s.done s.fieldPart1
  | 2 => s.done s.fieldPart2
  | _ => s.refuse .badValue

def execReadField (tag : Byte) (part : Byte) (s : State) : Result := .next (s.request 0x30 tag (decideReadField part))

/-- The records that CLEAR DIAGNOSTICS names: all for 0 (R121, R177). -/
def namedRecords (record : Byte) : Option (List (Fin 23)) :=
  if record = 0 then some allRecords else (numbered 23 record).map fun r => [r]

/-- CLEAR DIAGNOSTICS is decided: the reply carries the state of each named record after the request (R121). -/
def decideClearDiagnostics (record : Byte) (s : State) : Answer :=
  match namedRecords record with
  | none => s.refuse .badValue
  | some named =>
    let s := s.clearRecords named
    s.settle.done (named.map fun r => b1 (s.record r).code).flatten

def execClearDiagnostics (tag : Byte) (record : Byte) (s : State) : Result :=
  .next (s.request 0x31 tag (decideClearDiagnostics record))

/-- The masks take new values and each check that newly applies is tested (R122). -/
def State.remask (s : State) (masks : BitVec 32) : State :=
  allRecords.foldl (fun t r => State.retest s t r) (s.modField fun f => f.withMasks masks)

/-- SET DIAG MASKS is decided (R122). -/
def decideSetMasks (masks : BitVec 32) (s : State) : Answer :=
  if s.locked .field then s.refuse .locked else (s.remask masks).settle.done []

def execSetDiagMasks (tag : Byte) (masks : BitVec 32) (s : State) : Result :=
  .next (s.request 0x32 tag (decideSetMasks masks))

/-- SET FIELD is decided (R123). -/
def decideSetField (f : FieldFields) (s : State) : Answer :=
  if s.locked .field then s.refuse .locked
  else
    match fieldSettings f with
    | some c => (s.modField fun k => { k with cfg := c }).done []
    | none => s.refuse .badValue

def execSetField (tag : Byte) (f : FieldFields) (s : State) : Result := .next (s.request 0x33 tag (decideSetField f))

/-! ### Sensor Link (R114, R115) -/

def execScanFrame (scan : Vector ScanEntry 32) (s : State) : Result := .next (s.event fun s => (s.takeScan scan).settle)

/-- A scan frame is ignored and counted, and the receiver hunts again (R114). -/
def State.ignoreScan (s : State) : State :=
  s.modField fun f => { f with ignoredScans := wrap32 f.ignoredScans, receiver := .hunting }

/-- A scan frame with a wrong check or length (R114). -/
def execScanIgnored (s : State) : Result := .next (s.event State.ignoreScan)

/-- A gap of more than 5 ms inside a scan frame has ended it: the receiver hunts again, and the frame is ignored and counted
(R114; log entry 15). -/
def execScanGapTimeout (s : State) : Result :=
  .next (s.event fun s =>
    s.modField fun f =>
      { f with
        ignoredScans := wrap32 f.ignoredScans, receiver := f.receiver.afterGap Config.scanGap s.floorTime })

def execScanTimeout (s : State) : Result :=
  .next (s.eventIf (isDue s.field.scanAt s.floorTime) fun s => s.loseScans.settle)

/-! ### Drive Link (R116) -/

/-- A frame begins after a change of the image (R116). -/
def execDriveFrameBegin (s : State) : Result :=
  .next (s.eventIf s.field.changedAt.isSome State.beginDrive)

/-- A frame begins 1 s after the last began (R116). -/
def execDriveFrameRefresh (s : State) : Result :=
  .next (s.eventIf (decide (s.field.frameAt + Config.driveRefresh ≤ s.floorTime)) fun s => s.beginDrive)

/-! ### Discrete inputs (R109, R110) -/

/-- A raw level changes. During a reset only the raw level follows, since the reset's end takes it (R110). -/
def execDiRawChange (input : Fin 24) (level : Bool) (s : State) : Result :=
  .next (if s.resetRun.isSome then
      s.modField fun f => { f with inputs := upd f.inputs input fun d => { d with raw := level } }
    else (s.rawChange input level).settle.pump)

def execDebounceExpiry (input : Fin 24) (s : State) : Result :=
  .next (s.eventIf (isDue s.field.inputs[input.val].dueAt s.floorTime) fun s =>
    (s.accept input s.field.inputs[input.val].raw).settle)

/-! ### The kiln index and the valve watches (R112, R118) -/

def execIndexPulse (s : State) : Result := .next (s.event fun s => s.indexPulse.settle)

def execKilnStopTimerExpiry (s : State) : Result :=
  .next (s.eventIf (isDue s.field.rotation.stopAt s.floorTime) fun s => s.kilnStop.settle)

/-- A valve's proof time is over while it is PROVING (R118). -/
def Valve.proofDue (w : Valve) (now : Nat) : Bool := w.phase = .proving && isDue w.proofAt now

def execValveProofExpiry (v : Fin 7) (s : State) : Result :=
  .next (s.eventIf (s.field.valves[v.val].proofDue s.floorTime) fun s => (s.proofExpired v).settle)

end Sys2Proof.Machine
end

