-- ==== Sys2Proof/Machine/AlarmCmd.lean ====
section
/-! DEFINITION. The requests and events of the alarm unit (Chapter 7). -/

namespace Sys2Proof.Machine

/-! ### Settings and definitions (R141, R146) -/

/-- DEFINE ALARM is decided, its checks in the order of R141. -/
def decideDefine (point : Byte) (f : AlarmFields) (s : State) : Answer :=
  match numbered 96 point with
  | none => s.refuse .badValue
  | some i =>
    if s.locked .alarm then s.refuse .locked
    else if s.alarm.points[i.val].state ≠ .disabled then s.refuse .busy
    else
      match pointDef i f with
      | some d => (s.modPoint i fun p => { p with defn := d }).done []
      | none => s.refuse .badValue

def execDefineAlarm (tag : Byte) (point : Byte) (f : AlarmFields) (s : State) : Result :=
  .next (s.request 0x38 tag (decideDefine point f))

/-- The silence timer and condition after SET ALARM (R173). -/
def Link.silenceSet (l : Link) (old new now : Nat) : Link :=
  if new = 0 then { l with silenceAt := none, silent := false }
  else if old = 0 then { l with silenceAt := some (now + new * 1000) }
  else l

/-- The ALARM settings take new values (R145, R146, R173). -/
def State.setAlarm (s : State) (threshold window silence : Nat) : State :=
  let old := s.alarm.silenceTime
  (s.modAlarm fun a => { a with floodThreshold := threshold, floodWindow := window, silenceTime := silence }).modLink
    fun l => l.silenceSet old silence s.floorTime

/-- SET ALARM is decided (R146). -/
def decideSetAlarm (threshold window silence : Nat) (s : State) : Answer :=
  if s.locked .alarm then s.refuse .locked
  else if inRange 5 50 threshold && inRange 10 600 window && silence ≤ 60 then
    (s.setAlarm threshold window silence).settle.done []
  else s.refuse .badValue

def execSetAlarm (tag : Byte) (threshold : Byte) (window : BitVec 16) (silence : Byte) (s : State) : Result :=
  .next (s.request 0x39 tag (decideSetAlarm threshold.toNat window.toNat silence.toNat))

/-! ### Acknowledgement (R132) -/

/-- ACKNOWLEDGE of a point is decided: the reply counts the points it changed. Another target byte than 0 is refused
(R132, R177). -/
def decideAcknowledge (target point : Byte) (s : State) : Answer :=
  if target ≠ 0 then s.refuse .badValue
  else
    match numbered 96 point with
    | none => s.refuse .badValue
    | some i =>
      let r := s.acknowledge i
      r.1.settle.done (flag r.2)

def execAcknowledgePoint (tag : Byte) (target point : Byte) (s : State) : Result :=
  .next (s.request 0x3A tag (decideAcknowledge target point))

/-- Every point of a class is acknowledged in ascending number, and the changes counted (R132). -/
def State.acknowledgeClass (s : State) (c : PointClass) : State × Nat :=
  allPoints.foldl
    (fun acc i =>
      if acc.1.alarm.points[i.val].defn.cls = c then
        let r := acc.1.acknowledge i
        (r.1, acc.2 + r.2.toNat)
      else acc)
    (s, 0)

/-- ACKNOWLEDGE of a class is decided (R132). -/
def decideAcknowledgeClass (cls : Byte) (s : State) : Answer :=
  match classOfCode cls with
  | none => s.refuse .badValue
  | some c =>
    let r := s.acknowledgeClass c
    r.1.settle.done (b1 r.2)

def execAcknowledgeClass (tag : Byte) (cls : Byte) (s : State) : Result :=
  .next (s.request 0x3A tag (decideAcknowledgeClass cls))

/-! ### Shelving, disabling and enabling (R137 to R140) -/

/-- SHELVE is decided, its checks in the order of R137. -/
def decideShelve (point : Byte) (minutes : Nat) (s : State) : Answer :=
  match numbered 96 point with
  | none => s.refuse .badValue
  | some i =>
    if !inRange 1 480 minutes then s.refuse .badValue
    else
      let p := s.alarm.points[i.val]
      if p.state = .disabled || p.state = .suppressed then s.refuse .notPermitted
      else if p.defn.cls = .trip && !s.burner.state.atRest then s.refuse .notPermitted
      else if p.state ≠ .shelved && 16 ≤ s.alarm.shelf.length then s.refuse .full
      else (s.shelvePoint i (s.floorTime + minutes * 60000)).settle.done []

def execShelve (tag : Byte) (point : Byte) (minutes : BitVec 16) (s : State) : Result :=
  .next (s.request 0x3B tag (decideShelve point minutes.toNat))

/-- UNSHELVE is decided (R138). -/
def decideUnshelve (point : Byte) (s : State) : Answer :=
  match numbered 96 point with
  | none => s.refuse .badValue
  | some i => if s.alarm.points[i.val].state = .shelved then (s.unshelvePoint i).settle.done [] else s.done []

def execUnshelve (tag : Byte) (point : Byte) (s : State) : Result := .next (s.request 0x3C tag (decideUnshelve point))

/-- DISABLE is decided (R139). -/
def decideDisable (point : Byte) (s : State) : Answer :=
  match numbered 96 point with
  | none => s.refuse .badValue
  | some i =>
    let p := s.alarm.points[i.val]
    if p.state = .disabled then s.done []
    else if p.defn.cls = .trip && !s.burner.state.atRest then s.refuse .notPermitted
    else (s.disablePoint i).settle.done []

def execDisable (tag : Byte) (point : Byte) (s : State) : Result := .next (s.request 0x3D tag (decideDisable point))

/-- ENABLE is decided (R140). -/
def decideEnable (point : Byte) (s : State) : Answer :=
  match numbered 96 point with
  | none => s.refuse .badValue
  | some i => if s.alarm.points[i.val].state = .disabled then (s.enablePoint i).settle.done [] else s.done []

def execEnable (tag : Byte) (point : Byte) (s : State) : Result := .next (s.request 0x3E tag (decideEnable point))

/-! ### Reading (R144, R147) -/

/-- READ ALARM POINT is decided (R147). -/
def decideReadPoint (point : Byte) (s : State) : Answer :=
  match numbered 96 point with
  | none => s.refuse .badValue
  | some i => s.done (s.pointBytes i)

def execReadAlarmPoint (tag : Byte) (point : Byte) (s : State) : Result :=
  .next (s.request 0x3F tag (decideReadPoint point))

/-- READ ALARM TABLE (R147). -/
def execReadAlarmTable (tag : Byte) (s : State) : Result := .next (s.request 0x40 tag fun s => s.done s.tableBytes)

/-- The READ ALARM CHANGES reply (R144, section 11.4). -/
def Alarm.changeBytes (a : Alarm) : List Byte :=
  let taken := a.changes.take 12
  b1 taken.length ++ b1 (a.changes.length - taken.length) ++ flag a.overrun ++ (taken.map Change.bytes).flatten

/-- READ ALARM CHANGES is decided: the records returned leave the list and the flag is cleared (R144). -/
def decideReadChanges (s : State) : Answer :=
  { status := .done, content := s.alarm.changeBytes,
    state := s.modAlarm fun a => { a with changes := a.changes.drop 12, overrun := false } }

def execReadAlarmChanges (tag : Byte) (s : State) : Result := .next (s.request 0x41 tag decideReadChanges)

/-! ### Timers (R130, R138, R145, R173) -/

/-- The on-delay timer, or the off-delay timer, of an enabled point has expired. -/
def Point.delayDue (p : Point) (active : Bool) (now : Nat) : Bool :=
  p.state ≠ .disabled && p.active == active && isDue p.delayAt now

def execOnDelayExpiry (i : Fin 96) (s : State) : Result :=
  .next (s.eventIf (s.alarm.points[i.val].delayDue false s.floorTime) fun s => (s.becomeActive i).settle)

def execOffDelayExpiry (i : Fin 96) (s : State) : Result :=
  .next (s.eventIf (s.alarm.points[i.val].delayDue true s.floorTime) fun s => (s.becomeInactive i).settle)

/-- The earliest entry of the shelf list that has expired. -/
def Alarm.shelfDue (a : Alarm) (now : Nat) : Option (Fin 96) :=
  match a.shelf with
  | [] => none
  | e :: _ => if e.2 ≤ now then some e.1 else none

def execShelfExpiry (s : State) : Result :=
  .next (match s.alarm.shelfDue s.floorTime with
    | some i => s.event fun s => (s.unshelvePoint i).settle
    | none => s)

def execReviewTimerExpiry (s : State) : Result :=
  .next (s.eventIf (isDue s.alarm.reviewAt s.floorTime) fun s => s.reviewFlood.settle)

/-- The link silence timer expires: the condition of fixed point 5 becomes true (R173). -/
def execLinkSilenceExpiry (s : State) : Result :=
  .next (s.eventIf (isDue s.link.silenceAt s.floorTime) fun s =>
    (s.modLink fun l => { l with silenceAt := none, silent := true }).settle)

end Sys2Proof.Machine
end

