-- ==== Sys2Proof/Machine/ShiftCmd.lean ====
section
/-! DEFINITION. The requests of the attention unit and of the shift recorder, and the clock's second (Chapters 8 and 9). -/

namespace Sys2Proof.Machine

/-! ### Attention (R152 to R154) -/

/-- The arm flag of every class in the vector is cleared (R152). -/
def Attention.read (a : Attention) : Attention := a.setFlags a.request (a.arm &&& ~~~a.vector)

/-- READ ATTENTION is decided: the reply is formed before the flags change (R152). -/
def decideReadAttention (s : State) : Answer :=
  { status := .done, content := s.attentionBytes, state := s.modAttention Attention.read }

def execReadAttention (tag : Byte) (s : State) : Result := .next (s.request 0x48 tag decideReadAttention)

/-- REARM (R153). -/
def execRearm (tag : Byte) (classes : ClassSet) (s : State) : Result :=
  .next (s.request 0x49 tag fun s => (s.modAttention fun a => a.setFlags a.request (a.arm ||| classes)).done [])

/-- DISMISS (R154). -/
def execDismiss (tag : Byte) (classes : ClassSet) (s : State) : Result :=
  .next (s.request 0x4A tag fun s => (s.modAttention fun a => a.setFlags (a.request &&& ~~~classes) a.arm).done [])

/-! ### Clock and schedule (R157 to R159) -/

/-- SET CLOCK is decided (R158). -/
def decideSetClock (f : ClockFields) (s : State) : Answer :=
  match clockTime f with
  | none => s.refuse .badValue
  | some d =>
    let s := s.addEvent (.clockSet s.shift.calendar d)
    (s.modShift fun h => { h with clock := some (d, s.floorTime + 1000) }).done []

def execSetClock (tag : Byte) (f : ClockFields) (s : State) : Result := .next (s.request 0x50 tag (decideSetClock f))

/-- SET SCHEDULE is decided. A count outside 1 to 4 is a wrong length (R159, R177). -/
def decideSetSchedule (times : List Nat) (s : State) : Answer :=
  if times.length = 0 || 4 < times.length then s.refuse .badLength
  else if s.locked .shift then s.refuse .locked
  else if scheduleOk times then (s.modShift fun h => { h with schedule := times }).done []
  else s.refuse .badValue

def execSetSchedule (tag : Byte) (times : List (BitVec 16)) (s : State) : Result :=
  .next (s.request 0x51 tag (decideSetSchedule (times.map BitVec.toNat)))

/-- The shift index of the schedule boundary that the clock has come to, if it is one (R159). -/
def boundary (d : DateTime) (schedule : List Nat) : Option Nat :=
  if d.second = 0 then (scheduleIndex (d.hour * 60 + d.minute) schedule 1) else none

/-- The clock advances by one second, or becomes invalid at the end of its range; a boundary closes the shift (R157,
R159). -/
def State.advanceClock (s : State) (d : DateTime) (due : Nat) : State :=
  match d.next with
  | none => s.modShift fun h => { h with clock := none }
  | some d =>
    let s := s.modShift fun h => { h with clock := some (d, due + 1000) }
    match boundary d s.shift.schedule with
    | some index => s.closeShift .schedule .schedule index
    | none => s

/-- The clock's next second is due. -/
def Shift.secondDue (h : Shift) (now : Nat) : Option (DateTime × Nat) :=
  match h.clock with
  | some (d, due) => if due ≤ now then some (d, due) else none
  | none => none

def execClockSecondTick (s : State) : Result :=
  .next (match s.shift.secondDue s.floorTime with
    | some (d, due) => s.event fun s => (s.advanceClock d due).settle
    | none => s)

/-! ### Shifts and reports (R164 to R167) -/

/-- CLOSE SHIFT: the reply carries the sequence of the report (R164). -/
def decideCloseShift (s : State) : Answer :=
  (s.closeShift .request .request 0).settle.done (b4 s.shift.current.sequence)

def execCloseShift (tag : Byte) (s : State) : Result := .next (s.request 0x52 tag decideCloseShift)

/-- The peek snapshot of the open shift (R167). -/
def State.snapshot (s : State) : Peek :=
  { shift := s.shift.current.freeze s.floorTime, floor := s.floorTime, calendar := s.shift.calendar }

/-- PEEK SHIFT (R167). -/
def execPeekShift (tag : Byte) (s : State) : Result :=
  .next (s.request 0x53 tag fun s =>
    (s.modShift fun h => { h with peek := some s.snapshot }).done (b4 s.shift.current.sequence))

/-- READ PEEK is decided (R167). -/
def decideReadPeek (part : Nat) (s : State) : Answer :=
  match s.shift.peek with
  | some p => if part ≤ 4 then s.done (b1 part ++ p.part part) else s.refuse .noSuch
  | none => s.refuse .noSuch

def execReadPeek (tag : Byte) (part : Byte) (s : State) : Result :=
  .next (s.request 0x54 tag (decideReadPeek part.toNat))

/-- LIST REPORTS (R165). No count stands before the reports: the model's choice, log entry 12. -/
def State.listBytes (s : State) : List Byte :=
  b4 s.shift.current.sequence ++
    (s.shift.store.map fun r => b4 r.shift.sequence ++ flag r.released).flatten

def execListReports (tag : Byte) (s : State) : Result := .next (s.request 0x55 tag fun s => s.done s.listBytes)

/-- The stored report of a sequence (R166). -/
def stored (store : List Report) (sequence : Nat) : Option Report := store.find? fun r => r.shift.sequence = sequence

/-- READ REPORT is decided (R166). -/
def decideReadReport (sequence part : Nat) (s : State) : Answer :=
  match stored s.shift.store sequence with
  | some r => if part ≤ 4 then s.done (b4 sequence ++ b1 part ++ r.part part) else s.refuse .noSuch
  | none => s.refuse .noSuch

def execReadReport (tag : Byte) (sequence : BitVec 32) (part : Byte) (s : State) : Result :=
  .next (s.request 0x56 tag (decideReadReport sequence.toNat part.toNat))

/-- The released flag is set on the report of a sequence and on every older one (R165). -/
def release (sequence : Nat) : List Report → List Report
  | [] => []
  | r :: rest =>
    if r.shift.sequence = sequence then { r with released := true } :: rest
    else { r with released := true } :: release sequence rest

/-- RELEASE REPORT is decided (R165). -/
def decideRelease (sequence : Nat) (s : State) : Answer :=
  match stored s.shift.store sequence with
  | some _ => (s.modShift fun h => { h with store := release sequence h.store }).done []
  | none => s.refuse .noSuch

def execReleaseReport (tag : Byte) (sequence : BitVec 32) (s : State) : Result :=
  .next (s.request 0x57 tag (decideRelease sequence.toNat))

end Sys2Proof.Machine
end

