-- ==== Sys2Proof/Machine/LinkCmd.lean ====
section
/-! DEFINITION. The requests and events of the link port, and the resets (Chapter 10). -/

namespace Sys2Proof.Machine

/-! ### Identification, status and locks (R171, R174) -/

/-- PING (R171). -/
def execPing (tag : Byte) (s : State) : Result := .next (s.request 0x60 tag fun s => s.done s.pingBytes)

/-- READ STATUS is decided: the discarded-frame count is returned and then becomes 0 (R170, R171). -/
def decideReadStatus (s : State) : Answer :=
  { status := .done, content := s.statusBytes, state := s.modLink fun l => { l with discarded := 0 } }

def execReadStatus (tag : Byte) (s : State) : Result := .next (s.request 0x61 tag decideReadStatus)

/-- The lock state of a group (R174). -/
def State.setLock (s : State) (g : LockGroup) (v : Bool) : State :=
  s.modLink fun l => { l with locks := l.locks.set g.ctorIdx v (by cases g <;> decide) }

/-- LOCK GROUP is decided (R174). -/
def decideLock (group : Byte) (s : State) : Answer :=
  match lockOfCode group with
  | none => s.refuse .badValue
  | some g => (s.setLock g true).done []

def execLockGroup (tag : Byte) (group : Byte) (s : State) : Result := .next (s.request 0x62 tag (decideLock group))

/-- The groups that can be unlocked only in LOCKOUT and IDLE (R174). -/
def LockGroup.guarded : LockGroup → Bool
  | .burner | .envelope | .alarm | .field => true
  | .fuel | .cooler | .shift => false

/-- UNLOCK GROUP is decided (R174). -/
def decideUnlock (group : Byte) (s : State) : Answer :=
  match lockOfCode group with
  | none => s.refuse .badValue
  | some g =>
    if g.guarded && !s.burner.state.atRest then s.refuse .notPermitted else (s.setLock g false).done []

def execUnlockGroup (tag : Byte) (group : Byte) (s : State) : Result := .next (s.request 0x63 tag (decideUnlock group))

/-! ### RESTART, and frames that are not requests (R169, R170, R175) -/

/-- RESTART with kind COLD is decided; a kind byte that is not listed is refused (R175, R177). -/
def decideRestart (kind : Byte) (s : State) : Answer :=
  if kind = 0 then ({ s with restartPending := some .cold } : State).done [] else s.refuse .badValue

def execRestartCold (tag : Byte) (kind : Byte) (s : State) : Result := .next (s.request 0x64 tag (decideRestart kind))

/-- RESTART with kind WARM (R175). -/
def execRestartWarm (tag : Byte) (s : State) : Result :=
  .next (s.request 0x64 tag fun s => ({ s with restartPending := some .warm } : State).done [])

/-- A valid frame whose type is not a request type (R169). -/
def execUnknownTypeRequest (type : Byte) (tag : Byte) (s : State) : Result :=
  .next (s.request type.toNat tag fun s => s.refuse .unknownType)

/-- A valid frame of a request type with a wrong payload length (R169). -/
def execBadLengthRequest (type : Byte) (tag : Byte) (_length : Nat) (s : State) : Result :=
  .next (s.request type.toNat tag fun s => s.refuse .badLength)

/-- A frame with a bad length byte or a bad CRC is discarded (R168, R170). -/
def execFrameDiscarded (s : State) : Result := .next (s.event State.discardFrame)

/-- A gap of more than 20 ms between two bytes of a frame has ended it: the receiver hunts again, and the frame is
discarded and counted (R168, R170). The command is the end of a frame, as FRAME_DISCARDED is: of the one that the receiver
holds, or of one whose bytes came with the command (log entry 15). -/
def execFrameGapTimeout (s : State) : Result :=
  .next (s.event fun s =>
    (s.modLink fun l => { l with receiver := l.receiver.afterGap Config.frameGap s.floorTime }).discardFrame)

/-- A valid frame completes while a request is unanswered: it is discarded and starts the silence timer (R169, R173). -/
def execEarlyFrameDiscarded (s : State) : Result :=
  .next (s.eventIf s.link.unanswered fun s => s.validFrame.discardFrame)

/-- The restart cause of a RESTART (R171). -/
def requestCause : ResetKind → RestartCause
  | .cold => .coldRequest
  | .warm => .warmRequest

/-- The frame being sent ends. A reply's end answers its request, and begins the reset that RESTART named; otherwise the
next waiting frame begins (R151, R169, R175). -/
def State.endFrame (s : State) : State :=
  match s.link.sending with
  | none => s
  | some f =>
    let s := s.modLink fun l => { l with sending := none, unanswered := l.unanswered && !f.reply }
    match f.reply, s.restartPending with
    | true, some k => s.beginReset k (requestCause k) true
    | _, _ => s.pump

def execFrameSendEnd (s : State) : Result := .next (if s.resetRun.isSome then s else s.endFrame)

/-! ### Resets (R175) -/

/-- The blocks have taken their reset values after a RESTART (R175). -/
def State.endRestart (s : State) : State :=
  match s.resetRun with
  | some r => if r.restart then ({ s with resetRun := some { r with restart := false } } : State).endReset else s
  | none => s

def execRestartResetEnd (s : State) : Result := .next s.endRestart

/-- The RESET pin goes low. -/
def execResetPinAssert (s : State) : Result :=
  .next (if s.pinLow then s else ({ s with pinLow := true } : State).beginReset .cold .coldPin false)

/-- The RESET pin is released: the reset ends unless another cause holds it. -/
def execResetPinRelease (s : State) : Result :=
  .next (if s.pinLow then ({ s with pinLow := false } : State).endReset else s)

/-- The supply falls below its working level. -/
def execSupplyFall (s : State) : Result :=
  .next (if s.supplyLow then s else ({ s with supplyLow := true } : State).beginReset .cold .coldSupply false)

/-- The supply is back at its working level: the reset ends unless another cause holds it. -/
def execSupplyRestore (s : State) : Result :=
  .next (if s.supplyLow then ({ s with supplyLow := false } : State).endReset else s)

end Sys2Proof.Machine
end

