-- ==== Sys2Proof/Machine/Dispatch.lean ====
section
/-! DEFINITION. The one dispatch: every command to its meaning. -/

namespace Sys2Proof.Machine

open Sys2Proof

def exec (i : Instr) (s : State) : Host.Outcome State Fault Refusal :=
  match i with
  | .readBurner tag => Sys2Proof.Machine.execReadBurner tag s
  | .setBurner tag f => Sys2Proof.Machine.execSetBurner tag f s
  | .resetLockout tag => Sys2Proof.Machine.execResetLockout tag s
  | .startPurge tag => Sys2Proof.Machine.execStartPurge tag s
  | .stopBurner tag => Sys2Proof.Machine.execStopBurner tag s
  | .emergencyStop tag => Sys2Proof.Machine.execEmergencyStop tag s
  | .mainLight tag lines => Sys2Proof.Machine.execMainLight tag lines s
  | .homeActuator tag actuator => Sys2Proof.Machine.execHomeActuator tag actuator s
  | .moveActuator tag actuator target => Sys2Proof.Machine.execMoveActuator tag actuator target s
  | .stepActuator tag actuator count => Sys2Proof.Machine.execStepActuator tag actuator count s
  | .stopActuator tag actuator => Sys2Proof.Machine.execStopActuator tag actuator s
  | .configureLine tag line f => Sys2Proof.Machine.execConfigureLine tag line f s
  | .postOrders tag line orders => Sys2Proof.Machine.execPostOrders tag line orders s
  | .clearLine tag line => Sys2Proof.Machine.execClearLine tag line s
  | .openLine tag line => Sys2Proof.Machine.execOpenLine tag line s
  | .shutLine tag line => Sys2Proof.Machine.execShutLine tag line s
  | .readLine tag line => Sys2Proof.Machine.execReadLine tag line s
  | .readCompletions tag line => Sys2Proof.Machine.execReadCompletions tag line s
  | .setEnvelope tag f => Sys2Proof.Machine.execSetEnvelope tag f s
  | .setOperatorCeiling tag value => Sys2Proof.Machine.execSetOperatorCeiling tag value s
  | .clearOperatorCeiling tag => Sys2Proof.Machine.execClearOperatorCeiling tag s
  | .readHeatBalance tag => Sys2Proof.Machine.execReadHeatBalance tag s
  | .startCooler tag => Sys2Proof.Machine.execStartCooler tag s
  | .stopCooler tag => Sys2Proof.Machine.execStopCooler tag s
  | .setGrate tag grate mode value => Sys2Proof.Machine.execSetGrate tag grate mode value s
  | .setFanSpeed tag chamber speed => Sys2Proof.Machine.execSetFanSpeed tag chamber speed s
  | .blastersOn tag => Sys2Proof.Machine.execBlastersOn tag s
  | .blastersOff tag => Sys2Proof.Machine.execBlastersOff tag s
  | .setCooler tag f => Sys2Proof.Machine.execSetCooler tag f s
  | .readCooler tag => Sys2Proof.Machine.execReadCooler tag s
  | .readField tag part => Sys2Proof.Machine.execReadField tag part s
  | .clearDiagnostics tag record => Sys2Proof.Machine.execClearDiagnostics tag record s
  | .setDiagMasks tag masks => Sys2Proof.Machine.execSetDiagMasks tag masks s
  | .setField tag f => Sys2Proof.Machine.execSetField tag f s
  | .defineAlarm tag point f => Sys2Proof.Machine.execDefineAlarm tag point f s
  | .setAlarm tag threshold window silence => Sys2Proof.Machine.execSetAlarm tag threshold window silence s
  | .acknowledgePoint tag target point => Sys2Proof.Machine.execAcknowledgePoint tag target point s
  | .acknowledgeClass tag cls => Sys2Proof.Machine.execAcknowledgeClass tag cls s
  | .shelve tag point minutes => Sys2Proof.Machine.execShelve tag point minutes s
  | .unshelve tag point => Sys2Proof.Machine.execUnshelve tag point s
  | .disable tag point => Sys2Proof.Machine.execDisable tag point s
  | .enable tag point => Sys2Proof.Machine.execEnable tag point s
  | .readAlarmPoint tag point => Sys2Proof.Machine.execReadAlarmPoint tag point s
  | .readAlarmTable tag => Sys2Proof.Machine.execReadAlarmTable tag s
  | .readAlarmChanges tag => Sys2Proof.Machine.execReadAlarmChanges tag s
  | .readAttention tag => Sys2Proof.Machine.execReadAttention tag s
  | .rearm tag classes => Sys2Proof.Machine.execRearm tag classes s
  | .dismiss tag classes => Sys2Proof.Machine.execDismiss tag classes s
  | .setClock tag f => Sys2Proof.Machine.execSetClock tag f s
  | .setSchedule tag times => Sys2Proof.Machine.execSetSchedule tag times s
  | .closeShift tag => Sys2Proof.Machine.execCloseShift tag s
  | .peekShift tag => Sys2Proof.Machine.execPeekShift tag s
  | .readPeek tag part => Sys2Proof.Machine.execReadPeek tag part s
  | .listReports tag => Sys2Proof.Machine.execListReports tag s
  | .readReport tag sequence part => Sys2Proof.Machine.execReadReport tag sequence part s
  | .releaseReport tag sequence => Sys2Proof.Machine.execReleaseReport tag sequence s
  | .ping tag => Sys2Proof.Machine.execPing tag s
  | .readStatus tag => Sys2Proof.Machine.execReadStatus tag s
  | .lockGroup tag group => Sys2Proof.Machine.execLockGroup tag group s
  | .unlockGroup tag group => Sys2Proof.Machine.execUnlockGroup tag group s
  | .restartCold tag kind => Sys2Proof.Machine.execRestartCold tag kind s
  | .restartWarm tag => Sys2Proof.Machine.execRestartWarm tag s
  | .unknownTypeRequest ty tag => Sys2Proof.Machine.execUnknownTypeRequest ty tag s
  | .badLengthRequest ty tag length => Sys2Proof.Machine.execBadLengthRequest ty tag length s
  | .frameDiscarded => Sys2Proof.Machine.execFrameDiscarded s
  | .frameGapTimeout => Sys2Proof.Machine.execFrameGapTimeout s
  | .earlyFrameDiscarded => Sys2Proof.Machine.execEarlyFrameDiscarded s
  | .frameSendEnd => Sys2Proof.Machine.execFrameSendEnd s
  | .restartResetEnd => Sys2Proof.Machine.execRestartResetEnd s
  | .resetPinAssert => Sys2Proof.Machine.execResetPinAssert s
  | .resetPinRelease => Sys2Proof.Machine.execResetPinRelease s
  | .supplyFall => Sys2Proof.Machine.execSupplyFall s
  | .supplyRestore => Sys2Proof.Machine.execSupplyRestore s
  | .scanFrame scan => Sys2Proof.Machine.execScanFrame scan s
  | .scanIgnored => Sys2Proof.Machine.execScanIgnored s
  | .scanGapTimeout => Sys2Proof.Machine.execScanGapTimeout s
  | .scanTimeout => Sys2Proof.Machine.execScanTimeout s
  | .driveFrameBegin => Sys2Proof.Machine.execDriveFrameBegin s
  | .driveFrameRefresh => Sys2Proof.Machine.execDriveFrameRefresh s
  | .diRawChange input level => Sys2Proof.Machine.execDiRawChange input level s
  | .debounceExpiry input => Sys2Proof.Machine.execDebounceExpiry input s
  | .weighPulse line => Sys2Proof.Machine.execWeighPulse line s
  | .strokePulse grate => Sys2Proof.Machine.execStrokePulse grate s
  | .indexPulse => Sys2Proof.Machine.execIndexPulse s
  | .kilnStopTimerExpiry => Sys2Proof.Machine.execKilnStopTimerExpiry s
  | .giveUpTimerExpiry => Sys2Proof.Machine.execGiveUpTimerExpiry s
  | .purgeComplete => Sys2Proof.Machine.execPurgeComplete s
  | .ignitionTrialExpiry => Sys2Proof.Machine.execIgnitionTrialExpiry s
  | .flameProofExpiry => Sys2Proof.Machine.execFlameProofExpiry s
  | .pilotHoldExpiry => Sys2Proof.Machine.execPilotHoldExpiry s
  | .mainTrialExpiry => Sys2Proof.Machine.execMainTrialExpiry s
  | .flameLossExpiry => Sys2Proof.Machine.execFlameLossExpiry s
  | .airLossExpiry => Sys2Proof.Machine.execAirLossExpiry s
  | .ceilingRampTick => Sys2Proof.Machine.execCeilingRampTick s
  | .actuatorStep actuator => Sys2Proof.Machine.execActuatorStep actuator s
  | .homeStepLimit actuator => Sys2Proof.Machine.execHomeStepLimit actuator s
  | .actuatorSettleEnd actuator => Sys2Proof.Machine.execActuatorSettleEnd actuator s
  | .valveProofExpiry valve => Sys2Proof.Machine.execValveProofExpiry valve s
  | .rateRampTick line => Sys2Proof.Machine.execRateRampTick line s
  | .shutRampTick line => Sys2Proof.Machine.execShutRampTick line s
  | .holdExpiry line => Sys2Proof.Machine.execHoldExpiry line s
  | .measuredRateTick line => Sys2Proof.Machine.execMeasuredRateTick line s
  | .deviationTimerExpiry line => Sys2Proof.Machine.execDeviationTimerExpiry line s
  | .noticeDelayExpiry line => Sys2Proof.Machine.execNoticeDelayExpiry line s
  | .gateDelayEnd batch => Sys2Proof.Machine.execGateDelayEnd batch s
  | .dropPulseEnd batch => Sys2Proof.Machine.execDropPulseEnd batch s
  | .batchSettleEnd batch => Sys2Proof.Machine.execBatchSettleEnd batch s
  | .fanStartDelayExpiry => Sys2Proof.Machine.execFanStartDelayExpiry s
  | .grateStaggerExpiry => Sys2Proof.Machine.execGrateStaggerExpiry s
  | .fanRunOnExpiry => Sys2Proof.Machine.execFanRunOnExpiry s
  | .bedUpdateTick => Sys2Proof.Machine.execBedUpdateTick s
  | .releaseTimerExpiry => Sys2Proof.Machine.execReleaseTimerExpiry s
  | .grateWatchExpiry grate => Sys2Proof.Machine.execGrateWatchExpiry grate s
  | .lowCurrentExpiry chamber => Sys2Proof.Machine.execLowCurrentExpiry chamber s
  | .blasterDue => Sys2Proof.Machine.execBlasterDue s
  | .blasterPulseEnd => Sys2Proof.Machine.execBlasterPulseEnd s
  | .onDelayExpiry point => Sys2Proof.Machine.execOnDelayExpiry point s
  | .offDelayExpiry point => Sys2Proof.Machine.execOffDelayExpiry point s
  | .shelfExpiry => Sys2Proof.Machine.execShelfExpiry s
  | .reviewTimerExpiry => Sys2Proof.Machine.execReviewTimerExpiry s
  | .linkSilenceExpiry => Sys2Proof.Machine.execLinkSilenceExpiry s
  | .clockSecondTick => Sys2Proof.Machine.execClockSecondTick s

end Sys2Proof.Machine
end

