-- ==== Sys2Proof/Machine/Due.lean ====
section
/-! DEFINITION. The timer events that are due at the present floor time, and the passing of a millisecond (R172).

The spec lets the events of one instant be taken in either order; the order of this list is the model's (log entry 2). -/

namespace Sys2Proof.Machine

/-- A command, where it is due. -/
def whenDue (due : Bool) (c : Instr) : List Instr := if due then [c] else []

def State.fieldDue (s : State) : List Instr :=
  let now := s.floorTime
  ((List.finRange 24).map fun n => whenDue (isDue s.field.inputs[n.val].dueAt now) (.debounceExpiry n)).flatten ++
    whenDue (isDue s.field.scanAt now) .scanTimeout ++
    whenDue (isDue s.field.rotation.stopAt now) .kilnStopTimerExpiry ++
    (allValves.map fun v => whenDue (s.field.valves[v.val].proofDue now) (.valveProofExpiry v)).flatten ++
    whenDue (s.field.receiver.gapOver Config.scanGap now) .scanGapTimeout

def State.actuatorDue (s : State) (a : Fin 2) : List Instr :=
  let r := s.burner.actuators[a.val]
  whenDue (r.stepDue s.floorTime) (.actuatorStep a) ++ whenDue r.limitReached (.homeStepLimit a) ++
    whenDue (r.settleDue s.floorTime) (.actuatorSettleEnd a)

def State.burnerDue (s : State) : List Instr :=
  let now := s.floorTime
  let b := s.burner
  (allActuators.map s.actuatorDue).flatten ++
    whenDue (b.purgeDue now) .purgeComplete ++ whenDue (b.giveUpDue now) .giveUpTimerExpiry ++
    whenDue (b.flameProofDue now) .flameProofExpiry ++ whenDue (b.ignitionTrialDue now) .ignitionTrialExpiry ++
    whenDue (b.mainTrialDue now) .mainTrialExpiry ++ whenDue (b.pilotHoldDue now) .pilotHoldExpiry ++
    whenDue (b.flameLossDue now) .flameLossExpiry ++ whenDue (b.airLossDue now) .airLossExpiry ++
    whenDue (b.rampDue now) .ceilingRampTick

def State.lineDue (s : State) (l : Fin 6) : List Instr :=
  let now := s.floorTime
  let r := s.lines[l.val]
  whenDue (r.rampDue now) (.rateRampTick l) ++ whenDue (r.shutRampDue now) (.shutRampTick l) ++
    whenDue (isDue r.holdAt now) (.holdExpiry l) ++ whenDue (r.measureDue now) (.measuredRateTick l) ++
    whenDue (isDue r.deviationAt now) (.deviationTimerExpiry l) ++ whenDue (isDue r.noticeAt now) (.noticeDelayExpiry l)

def State.batchDue (s : State) (b : Fin 2) : List Instr :=
  let now := s.floorTime
  let r := s.batches[b.val]
  whenDue (r.slotDue .gateDelay now).isSome (.gateDelayEnd b) ++ whenDue (r.slotDue .drop now).isSome (.dropPulseEnd b) ++
    whenDue (r.slotDue .settle now).isSome (.batchSettleEnd b)

def State.coolerDue (s : State) : List Instr :=
  let now := s.floorTime
  let c := s.cooler
  whenDue (c.state = .starting && c.sequenceDue .fanStart now) .fanStartDelayExpiry ++
    whenDue (c.sequenceDue .stagger now) .grateStaggerExpiry ++ whenDue (c.sequenceDue .runOn now) .fanRunOnExpiry ++
    whenDue (isDue c.bedAt now) .bedUpdateTick ++
    whenDue (c.state = .surge && isDue c.releaseAt now) .releaseTimerExpiry ++
    (allGrates.map fun g => whenDue (isDue c.grates[g.val].watchAt now) (.grateWatchExpiry g)).flatten ++
    (allChambers.map fun k => whenDue (isDue c.chambers[k.val].lowAt now) (.lowCurrentExpiry k)).flatten ++
    whenDue (c.blasterDue now).isSome .blasterDue ++
    whenDue (isDue (c.blasterOut.map Prod.snd) now) .blasterPulseEnd

def State.pointDue (s : State) (i : Fin 96) : List Instr :=
  let p := s.alarm.points[i.val]
  whenDue (p.delayDue false s.floorTime) (.onDelayExpiry i) ++ whenDue (p.delayDue true s.floorTime) (.offDelayExpiry i)

/-- A gap ends the frame that the receiver holds (R168); the link silence timer runs out (R173). -/
def State.linkDue (s : State) : List Instr :=
  whenDue (s.link.receiver.gapOver Config.frameGap s.floorTime) .frameGapTimeout ++
    whenDue (isDue s.link.silenceAt s.floorTime) .linkSilenceExpiry

def State.alarmDue (s : State) : List Instr :=
  let now := s.floorTime
  (allPoints.map s.pointDue).flatten ++ whenDue (s.alarm.shelfDue now).isSome .shelfExpiry ++
    whenDue (isDue s.alarm.reviewAt now) .reviewTimerExpiry ++ s.linkDue ++
    whenDue (s.shift.secondDue now).isSome .clockSecondTick

/-- A Drive Link frame begins at the latest 50 ms after a change of the image, and 1 s after the last frame whether or not
a change is waiting (R116). -/
def State.driveDue (s : State) : List Instr :=
  let now := s.floorTime
  if isDue (s.field.changedAt.map fun t => t + Config.driveLatest) now then [.driveFrameBegin]
  else whenDue (s.field.frameAt + Config.driveRefresh ≤ now) .driveFrameRefresh

/-- The timer events that are due now. During a reset only the end of a RESTART's reset is (R175). -/
def State.dueEvents (s : State) : List Instr :=
  match s.resetRun with
  | some r => whenDue r.restart .restartResetEnd
  | none =>
    s.fieldDue ++ s.burnerDue ++ (allLines.map s.lineDue).flatten ++ (s.batchDue 0 ++ s.batchDue 1) ++ s.coolerDue ++
      s.alarmDue ++ s.driveDue

/-- The greatest floor time of 48 bits, plus one (R172). -/
def floorLimit : Nat := 281474976710656

/-- A millisecond of floor time passes while the part is supplied (R172). -/
def State.tick (s : State) : State := if s.supplyLow then s else { s with floorTime := (s.floorTime + 1) % floorLimit }

/-- With no command waiting, the events that are due join the queue, and where none is due time passes. -/
def State.idle (s : State) : State :=
  match s.dueEvents with
  | [] => s.tick
  | due => { s with pending := due }

end Sys2Proof.Machine
end

