-- ==== Sys2Proof/Machine/Step.lean ====
section
/-! DEFINITION. One step of the 4260: the command at the front of the queue, or, with none waiting, what time brings. -/

namespace Sys2Proof.Machine

/-- Take the command at the front of the queue and carry it out on the rest (log entry 1). -/
def step (s : State) : Host.Outcome State Fault Refusal :=
  match s.pending with
  | c :: rest => exec c { s with pending := rest }
  | [] => .next s.idle

/-- The state with the command that a word spells put in front of its queue; the table gives no row bits, so no word
spells one. -/
def State.withFetchWord (s : State) (nbits w : Nat) : State :=
  match decodeTableWord nbits w with
  | some c => { s with pending := c :: s.pending }
  | none => s

end Sys2Proof.Machine
end

