-- ==== Sys2Proof/Safety.lean ====
section
/-! DEFINITION. The words the statements use: a part that takes a request, a request taken, a reply due, what a command
leaves unchanged, an entry into LOCKOUT, a low-water notice, the end of a slot, the cooler's
stop, and the laws that every step keeps. -/

namespace Sys2Proof.Machine

/-! ### Requests -/

/-- The part takes the next request: no reset is in progress and no request is unanswered (R169, R175). -/
abbrev State.Ready (s : State) : Prop := s.resetRun = none ∧ s.link.unanswered = false

/-- A part that is ready, once the request's valid frame has completed and the request is taken (R169, R173). -/
def State.taken (s : State) : State := s.validFrame.modLink fun l => { l with unanswered := true }

/-- The reply to a request of type `type` and tag `tag` becomes due (R169). -/
def State.replied (s : State) (type : Nat) (tag : Byte) (status : Status) (content : List Byte) : State :=
  s.send (replyFrame type tag status content)

/-- The type and the tag of a request command; an event is none (Table 11-4). -/
def requestOf? : Instr → Option (Nat × Byte)
  | .readBurner tag => some (0x01, tag)
  | .setBurner tag _ => some (0x02, tag)
  | .resetLockout tag => some (0x03, tag)
  | .startPurge tag => some (0x04, tag)
  | .stopBurner tag => some (0x05, tag)
  | .emergencyStop tag => some (0x06, tag)
  | .mainLight tag _ => some (0x07, tag)
  | .homeActuator tag _ => some (0x08, tag)
  | .moveActuator tag _ _ => some (0x09, tag)
  | .stepActuator tag _ _ => some (0x0A, tag)
  | .stopActuator tag _ => some (0x0B, tag)
  | .configureLine tag _ _ => some (0x10, tag)
  | .postOrders tag _ _ => some (0x11, tag)
  | .clearLine tag _ => some (0x12, tag)
  | .openLine tag _ => some (0x13, tag)
  | .shutLine tag _ => some (0x14, tag)
  | .readLine tag _ => some (0x15, tag)
  | .readCompletions tag _ => some (0x16, tag)
  | .setEnvelope tag _ => some (0x20, tag)
  | .setOperatorCeiling tag _ => some (0x21, tag)
  | .clearOperatorCeiling tag => some (0x22, tag)
  | .readHeatBalance tag => some (0x23, tag)
  | .startCooler tag => some (0x28, tag)
  | .stopCooler tag => some (0x29, tag)
  | .setGrate tag _ _ _ => some (0x2A, tag)
  | .setFanSpeed tag _ _ => some (0x2B, tag)
  | .blastersOn tag => some (0x2C, tag)
  | .blastersOff tag => some (0x2D, tag)
  | .setCooler tag _ => some (0x2E, tag)
  | .readCooler tag => some (0x2F, tag)
  | .readField tag _ => some (0x30, tag)
  | .clearDiagnostics tag _ => some (0x31, tag)
  | .setDiagMasks tag _ => some (0x32, tag)
  | .setField tag _ => some (0x33, tag)
  | .defineAlarm tag _ _ => some (0x38, tag)
  | .setAlarm tag _ _ _ => some (0x39, tag)
  | .acknowledgePoint tag _ _ => some (0x3A, tag)
  | .acknowledgeClass tag _ => some (0x3A, tag)
  | .shelve tag _ _ => some (0x3B, tag)
  | .unshelve tag _ => some (0x3C, tag)
  | .disable tag _ => some (0x3D, tag)
  | .enable tag _ => some (0x3E, tag)
  | .readAlarmPoint tag _ => some (0x3F, tag)
  | .readAlarmTable tag => some (0x40, tag)
  | .readAlarmChanges tag => some (0x41, tag)
  | .readAttention tag => some (0x48, tag)
  | .rearm tag _ => some (0x49, tag)
  | .dismiss tag _ => some (0x4A, tag)
  | .setClock tag _ => some (0x50, tag)
  | .setSchedule tag _ => some (0x51, tag)
  | .closeShift tag => some (0x52, tag)
  | .peekShift tag => some (0x53, tag)
  | .readPeek tag _ => some (0x54, tag)
  | .listReports tag => some (0x55, tag)
  | .readReport tag _ _ => some (0x56, tag)
  | .releaseReport tag _ => some (0x57, tag)
  | .ping tag => some (0x60, tag)
  | .readStatus tag => some (0x61, tag)
  | .lockGroup tag _ => some (0x62, tag)
  | .unlockGroup tag _ => some (0x63, tag)
  | .restartCold tag _ => some (0x64, tag)
  | .restartWarm tag => some (0x64, tag)
  | .unknownTypeRequest type tag => some (type.toNat, tag)
  | .badLengthRequest type tag _ => some (type.toNat, tag)
  | .frameDiscarded | .frameGapTimeout | .earlyFrameDiscarded | .frameSendEnd | .restartResetEnd | .resetPinAssert
  | .resetPinRelease | .supplyFall | .supplyRestore | .scanFrame _ | .scanIgnored | .scanGapTimeout | .scanTimeout
  | .driveFrameBegin | .driveFrameRefresh | .diRawChange _ _ | .debounceExpiry _ | .weighPulse _ | .strokePulse _
  | .indexPulse | .kilnStopTimerExpiry | .giveUpTimerExpiry | .purgeComplete | .ignitionTrialExpiry | .flameProofExpiry
  | .pilotHoldExpiry | .mainTrialExpiry | .flameLossExpiry | .airLossExpiry | .ceilingRampTick | .actuatorStep _
  | .homeStepLimit _ | .actuatorSettleEnd _ | .valveProofExpiry _ | .rateRampTick _ | .shutRampTick _ | .holdExpiry _
  | .measuredRateTick _ | .deviationTimerExpiry _ | .noticeDelayExpiry _ | .gateDelayEnd _ | .dropPulseEnd _
  | .batchSettleEnd _ | .fanStartDelayExpiry | .grateStaggerExpiry | .fanRunOnExpiry | .bedUpdateTick
  | .releaseTimerExpiry | .grateWatchExpiry _ | .lowCurrentExpiry _ | .blasterDue | .blasterPulseEnd | .onDelayExpiry _
  | .offDelayExpiry _ | .shelfExpiry | .reviewTimerExpiry | .linkSilenceExpiry | .clockSecondTick => none

/-- The commands that start or end a reset (R175). -/
def resets : Instr → Bool
  | .frameSendEnd | .restartResetEnd | .resetPinAssert | .resetPinRelease | .supplyFall | .supplyRestore => true
  | _ => false

/-! ### What stays unchanged -/

/-- The blocks of the part (Table 1), and the part's own fields. -/
inductive Block where
  | time | reset | link | burner | lines | batches | envelope | heat | cooler | field | alarm | attention | shift | queue
  deriving DecidableEq, Repr

/-- A block holds in `t` what it holds in `s`. -/
def Block.Same (b : Block) (s t : State) : Prop :=
  match b with
  | .time => t.floorTime = s.floorTime
  | .reset =>
    t.resetRun = s.resetRun ∧ t.pinLow = s.pinLow ∧ t.supplyLow = s.supplyLow ∧ t.restartCause = s.restartCause ∧
      t.restartPending = s.restartPending
  | .link => t.link = s.link
  | .burner => t.burner = s.burner
  | .lines => t.lines = s.lines
  | .batches => t.batches = s.batches
  | .envelope => t.envelope = s.envelope
  | .heat => t.heat = s.heat
  | .cooler => t.cooler = s.cooler
  | .field => t.field = s.field
  | .alarm => t.alarm = s.alarm
  | .attention => t.attention = s.attention
  | .shift => t.shift = s.shift
  | .queue => t.pending = s.pending

/-- Every block but the named ones is unchanged. -/
def SameBut (changed : List Block) (s t : State) : Prop := ∀ b : Block, b ∉ changed → b.Same s t

/-- The settings of the seven lock groups, the lock states and the alarm definitions (Table 10-3, R174). -/
structure Settings where
  burner : BurnerSettings
  fuel : Vector LineSettings 6
  envelope : EnvelopeSettings
  cooler : CoolerSettings
  definitions : Vector PointDef 96
  floodThreshold : Nat
  floodWindow : Nat
  silenceTime : Nat
  field : FieldSettings
  recordMasks : Vector Bool 23
  kindMasks : Bool × Bool × Bool
  schedule : List Nat
  locks : Vector Bool 7
  deriving DecidableEq, Repr

def State.settings (s : State) : Settings :=
  { burner := s.burner.cfg, fuel := mapAt s.lines fun _ r => r.cfg, envelope := s.envelope, cooler := s.cooler.cfg,
    definitions := mapAt s.alarm.points fun _ p => p.defn, floodThreshold := s.alarm.floodThreshold,
    floodWindow := s.alarm.floodWindow, silenceTime := s.alarm.silenceTime, field := s.field.cfg,
    recordMasks := mapAt s.field.records fun _ r => r.checked,
    kindMasks := (s.field.openCheck, s.field.closeCheck, s.field.motionCheck), schedule := s.shift.schedule,
    locks := s.link.locks }

/-- The commands that write a setting, a definition or a lock state (Table 10-3, R174). -/
def writesSettings : Instr → Bool
  | .setBurner _ _ | .configureLine _ _ _ | .setEnvelope _ _ | .setCooler _ _ | .setField _ _ | .setDiagMasks _ _
  | .defineAlarm _ _ _ | .setAlarm _ _ _ _ | .setSchedule _ _ | .lockGroup _ _ | .unlockGroup _ _ => true
  | _ => false

/-- What the field unit takes from outside: the inputs, the counters, the rotation monitor and the scanned channels (R109
to R115). -/
structure Signals where
  inputs : Vector Input 24
  counters : Vector Nat 11
  rotation : Rotation
  channels : Vector Channel 32
  scanAt : Option Nat
  linkFault : Bool
  lastScan : Option Nat
  validScans : Nat
  ignoredScans : Nat
  deriving DecidableEq, Repr

def State.signals (s : State) : Signals :=
  { inputs := s.field.inputs, counters := s.field.counters, rotation := s.field.rotation, channels := s.field.channels,
    scanAt := s.field.scanAt, linkFault := s.field.linkFault, lastScan := s.field.lastScan,
    validScans := s.field.validScans, ignoredScans := s.field.ignoredScans }

/-- The commands that bring a signal to the part. -/
def bringsSignal : Instr → Bool
  | .scanFrame _ | .scanIgnored | .scanGapTimeout | .scanTimeout | .diRawChange _ _ | .debounceExpiry _ | .weighPulse _
  | .strokePulse _ | .indexPulse | .kilnStopTimerExpiry => true
  | _ => false

/-! ### The control view -/

/-- The burner's state with what the law of its outputs and of its first-out record speaks of (R2, R4). -/
def State.face (s : State) : BurnerState × Bool × Bool × Bool :=
  (s.burner.state, s.burner.igniter, s.burner.firingRelay, s.burner.firstOut.isSome)

/-- The state of a line. -/
def State.lineState (s : State) (l : Fin 6) : LineState := s.lines[l.val].state

/-- A valve is commanded open. -/
def State.valveOpen (s : State) (v : Fin 7) : Bool := s.field.valves[v.val].openCommand

/-! ### The burner at rest -/

/-- The burner record in LOCKOUT or IDLE: the outputs IG and FR off, every sequence timer stopped, the purge fields at their
starting values and no BURNER ceiling (R1, R2, R10, R21). -/
def Burner.rested (b : Burner) (st : BurnerState) : Burner :=
  { b with
    state := st, igniter := false, firingRelay := false, purgeSince := none, purgeStarted := false, giveUpAt := none,
    ignitionTrialAt := none, flameProofAt := none, pilotHoldAt := none, mainTrialAt := none, flameLossAt := none,
    airLossAt := none, rampFrom := none, rampDone := 0, ceiling := none }

/-- The part after the burner alone has gone to IDLE: its record and its reason, PV commanded closed, a BURNER request and
an IDLE event (Table 1-7). -/
def State.wentIdle (s : State) (reason : StopReason) : State :=
  ((({ s with burner := { s.burner.rested .idle with lastStop := some reason } } : State).commandValve pv false).raise
    .burner).addEvent (.idle reason)

/-- An actuator whose work in progress, if any, has ended ABORTED, under the given owner (R30, R31). -/
def Actuator.aborted (r : Actuator) (owner : Owner) : Actuator :=
  if r.motion = .still then { r with owner := owner }
  else
    { r with
      motion := .still, dueAt := none, verify := .unverified, mismatchHeld := false, lastOutcome := some .aborted,
      owner := owner }

/-! ### Entry into LOCKOUT -/

/-- `v` is `u` after an entry into LOCKOUT with the given cause and point (R4, R5, R42, Table 1-5): the first-out record,
the outputs and the sequence timers off, actuator work ended ABORTED under owner SEQUENCE, every line SHUT with its valve
closed and its queue empty, a slot in flight ABORTED and the gates CLOSED, a TRIP and a FEED request, and, where no charge
that was dropped closes the shift, the trip count and the event. -/
def State.LockedOut (u : State) (cause : Cause) (point : Option Nat) (v : State) : Prop :=
  SameBut [.burner, .lines, .batches, .heat, .field, .alarm, .attention, .shift] u v ∧
  v.burner =
    { u.burner.rested .lockout with
      firstOut := some { cause := cause, point := point, stateAtTrip := u.burner.state, time := u.floorTime }
      claims := 0
      actuators := v.burner.actuators } ∧
  (∀ a : Fin 2, v.burner.actuators[a] = u.burner.actuators[a].aborted .sequence) ∧
  (∀ l : Fin 6,
    v.lines[l].state = .shut ∧ v.lines[l].requested = 0 ∧ v.lines[l].queue = [] ∧
      (u.lines[l].queue ≠ [] ∨ u.lines[l].progress = none → v.lines[l].progress = none) ∧
      v.lines[l].shutRamp = none ∧ v.lines[l].noticeAt = none ∧ v.valveOpen (svOf l) = false ∧
      (u.lines[l].state ≠ .shut → v.lines[l].stateFlag = true) ∧
      v.lines[l].lowWaterFlag = u.lines[l].lowWaterFlag ∧ v.lines[l].lifetime = (u.abortSlot l).lines[l].lifetime ∧
      (v.lines[l].completionFlag = (u.lines[l].completionFlag || u.lines[l].queue.any fun o => o.notify))) ∧
  v.valveOpen pv = false ∧
  (∀ b : Fin 2,
    v.batches[b].slot = none ∧ v.batches[b].gateOpen = false ∧
      v.batches[b].last = (u.abortSlot (lineOfBatch b)).batches[b].last) ∧
  v.attention.request.getLsbD 0 = true ∧ v.attention.request.getLsbD 3 = true ∧
  ((∀ (b : Fin 2) (w : Slot), u.batches[b].slot = some w → w.phase = .gateDelay) →
    v.shift.current.totals.trips = min 4294967295 (u.shift.current.totals.trips + 1) ∧
      (u.shift.current.events.length < 48 →
        { time := u.floorTime, kind := .lockout cause point } ∈ v.shift.current.events))

/-- A trip source that is without effect in IDLE: counted in LOCKOUT, and in every other state an entry into LOCKOUT (R6,
R7, Table 1-5). -/
def State.TripTaken (u : State) (cause : Cause) (point : Option Nat) (v : State) : Prop :=
  (u.burner.state = .lockout → v = { u with burner := { u.burner with claims := min 65535 (u.burner.claims + 1) } }) ∧
    (u.burner.state = .idle → v = u) ∧
    (u.burner.state ≠ .lockout → u.burner.state ≠ .idle → u.LockedOut cause point v)

/-! ### A low-water notice -/

/-- The LOW_WATER reason of a line whose queue has fallen from a greater length `before` to its present one in `v`, each
order leaving alone (R57): set where the fall reaches the mark, which is not 0, with a FEED request, and otherwise as it
was. -/
def Line.LowWaterTaken (r : Line) (l : Fin 6) (before : Nat) (v : State) : Prop :=
  let reached : Prop :=
    r.cfg.lowWater ≠ 0 ∧ v.lines[l].queue.length ≤ r.cfg.lowWater ∧ r.cfg.lowWater < before
  (v.lines[l].lowWaterFlag = true ↔ r.lowWaterFlag = true ∨ reached) ∧
    (reached → v.attention.request.getLsbD 3 = true)

/-! ### The batch lines -/

/-- A BATCH order has become active at `now` on the line of batch record `b` (R61). -/
def State.BatchActivated (v : State) (b : Fin 2) (now : Nat) : Prop :=
  let x := v.batches[b]
  x.indexCount = 0 ∧ x.opened = 0 ∧ x.credit = 100 ∧ x.fed = 0 ∧ x.missed = 0 ∧ x.skipped = 0 ∧
    ∃ p, v.lines[lineOfBatch b].progress = some p ∧ p.startTime = now ∧ p.delivered = 0

/-- `v` is `s` after a slot of batch record `b` has ended counted, its record then `z` and its line `w` (R61, R67, R69). The
active order goes on while its three counts together differ from its slots. Where they equal them it retires COMPLETE with
its completion record, the gate closes, and the order behind it is taken up. -/
def State.SlotCounted (s : State) (b : Fin 2) (z : Batch) (w : Line) (v : State) : Prop :=
  let l := lineOfBatch b
  let r := s.lines[l]
  let decided : Prop :=
    r.state = .opened ∧ r.progress ≠ none ∧
      ∃ o rest slots revs nominal, r.queue = o :: rest ∧ o.body = .batch slots revs nominal ∧
        z.fed + z.missed + z.skipped = slots
  (¬decided → v.batches[b] = { z with last := v.batches[b].last } ∧ v.lines[l] = w) ∧
  (decided → ∀ o rest, r.queue = o :: rest →
    r.retired + 1 ≤ v.lines[l].retired ∧ v.lines[l].queue <:+ rest ∧ v.batches[b].gateOpen = false ∧
    v.batches[b].idle = 0 ∧ v.batches[b].misses = z.misses ∧ v.batches[b].batchMissed = z.batchMissed ∧
    r.LowWaterTaken l r.queue.length v ∧
    (∃ later : List Completion,
      let ended := completionOf o .complete w.progress s.floorTime (some (z.fed, z.missed, z.skipped))
      let y := ((if o.notify then [ended] else []) ++ later).foldl Line.addCompletion r
      v.lines[l].completions = y.completions ∧ v.lines[l].overrun = y.overrun ∧
        (∀ c ∈ later, c.outcome = .complete ∧ c.finish = s.floorTime) ∧ (rest = [] → later = [])) ∧
    (rest = [] → v.lines[l].progress = none ∧ v.lines[l].emptyFlag = true ∧ v.attention.request.getLsbD 3 = true) ∧
    (∀ q more slots revs nominal, rest = q :: more → q.body = .batch slots revs nominal →
      v.BatchActivated b s.floorTime ∧ v.lines[l].queue = rest))

/-! ### The cooler's stop -/

/-- `w` is `u` after an entry of the cooler into STOPPING, before the burner takes it (R91, R92, R98, R103). -/
def State.CoolerStopping (u w : State) : Prop :=
  let c := u.cooler
  SameBut [.lines, .heat, .cooler, .attention, .shift] u w ∧
  w.cooler.state = .stopping ∧ w.cooler.started = 0 ∧ w.cooler.cycle = none ∧ w.cooler.pulseCount = 0 ∧
  w.attention = (u.raise .cooler).attention ∧
  (c.state = .surge → w.heat.surge = none ∧ w.cooler.releaseAt = none) ∧
  (c.state ≠ .surge → w.heat = u.heat ∧ w.lines = u.lines ∧ w.cooler.bed = c.bed) ∧
  ((∀ g : Fin 4, c.grates[g].state ≠ .running) →
    w.cooler.grates = c.grates ∧ w.cooler.stopList = [] ∧
      w.cooler.sequence = some (.runOn, u.floorTime + c.cfg.fanRunOn * 1000)) ∧
  (∀ g : Fin 4, c.grates[g].state = .running → (∀ h : Fin 4, h < g → c.grates[h].state ≠ .running) →
    w.cooler.grates = upd c.grates g (fun r => { r with state := .still }) ∧
      (∀ h : Fin 4, h ∈ w.cooler.stopList ↔ g < h ∧ c.grates[h].state = .running) ∧
      w.cooler.stopList.Pairwise (· < ·) ∧
      w.cooler.sequence =
        if w.cooler.stopList = [] then some (.runOn, u.floorTime + c.cfg.fanRunOn * 1000)
        else some (.stagger, u.floorTime + 5000))

/-! ### Laws -/

/-- Flame present is the vote of the debounced levels of DI3 and DI4 by the voting setting in force: while either input is
active with 1-of-2, while both are active with 2-of-2 (R13). -/
def FlameLaw (s : State) : Prop :=
  s.burner.flame =
    match s.burner.cfg.voting with
    | .oneOfTwo => s.di 2 || s.di 3
    | .twoOfTwo => s.di 2 && s.di 3

/-- IG, FR and PV follow the burner state (Table 1-3), a first-out record is present exactly in LOCKOUT (R4), a line is in
ADMITTING, OPEN or SHUTTING only while the burner is in a fuel state (R34), and a valve SV is commanded open only while
its line is in one of those states (R35, R39 to R42). -/
def State.controlled (s : State) : Prop :=
  s.burner.igniter = decide (s.burner.state = .ignition) ∧
  s.burner.firingRelay = s.burner.state.firing ∧
  s.valveOpen pv = s.burner.state.pilotOpen ∧
  s.burner.firstOut.isSome = decide (s.burner.state = .lockout) ∧
  (∀ l, (s.lineState l).live = true → s.burner.state.fuel = true) ∧
  ∀ l, s.valveOpen (svOf l) = true → (s.lineState l).live = true

/-- The control law speaks of a part that is not held in a reset: a reset turns every output off from its start (R108)
and the burner record takes its reset values at its end (R175). -/
def ControlLaw (s : State) : Prop := s.resetRun = none → s.controlled

/-- Every order posted to a line is queued, retired or discarded, and a queue holds at most 16 (R43). -/
def CountLaw (s : State) : Prop :=
  ∀ l : Fin 6,
    s.lines[l.val].posted = s.lines[l.val].queue.length + s.lines[l.val].retired + s.lines[l.val].discarded ∧
      s.lines[l.val].queue.length ≤ 16

/-- The lists and the slot credit stay within their capacities: 16 completions (R55), 128 change records (R142), 48 events
(R162), 8 reports (R163), a credit of 199 (R64). -/
def CapacityLaw (s : State) : Prop :=
  (∀ l : Fin 6, s.lines[l.val].completions.length ≤ 16) ∧ s.alarm.changes.length ≤ 128 ∧
    s.shift.current.events.length ≤ 48 ∧ s.shift.store.length ≤ 8 ∧ ∀ b : Fin 2, s.batches[b.val].credit ≤ 199

/-- The stored reports and the open shift carry a contiguous run of sequence numbers, 1 following 4 294 967 295 (R163). -/
def StoreLaw (s : State) : Prop :=
  (s.shift.store.map (fun r => r.shift.sequence) ++ [s.shift.current.sequence]).IsChain fun a b =>
    b = if a = 4294967295 then 1 else a + 1

/-- The shelf list holds each SHELVED point once and no other, and at most 16 points, earliest expiry first (R137, R138,
R147). -/
def ShelfLaw (s : State) : Prop :=
  (s.alarm.shelf.map Prod.fst).Nodup ∧ s.alarm.shelf.length ≤ 16 ∧ s.alarm.shelf.Pairwise (fun a b => a.2 ≤ b.2) ∧
    ∀ i : Fin 96, s.alarm.points[i.val].state = .shelved ↔ i ∈ s.alarm.shelf.map Prod.fst

/-- The last evaluation gave out no more than its ceiling and gave no line more than it asked for (R80, R82). -/
def HeatLaw (s : State) : Prop :=
  s.heat.totalAllowed ≤ s.heat.effective ∧
    s.heat.totalAllowed = (s.heat.entries.toList.map HeatEntry.allowed).sum ∧
      ∀ l : Fin 6, s.heat.entries[l.val].allowed ≤ s.heat.entries[l.val].requested

/-- While no frame is being sent, none waits and none is owed (R151, R169). -/
def LinkLaw (s : State) : Prop := s.link.sending = none → s.link.waiting = [] ∧ s.attention.owed = false

/-- The horn sounds exactly while a point of class TRIP or URGENT is in RAISED, and the standing count is the number of
standing points (R135). -/
def HornLaw (s : State) : Prop :=
  s.resetRun = none → s.alarm.horn = hornOf s.alarm.points ∧ s.alarm.standing = standingOf s.alarm.points

end Sys2Proof.Machine
end

