-- ==== Sys2Proof/Certificates/Slice0/Obligations.lean ====
section
/-! DEFINITION. What is claimed of the 4260's model, for the provers. The rules or sections each rests on are named in
OBLIGATIONS.json. -/

open Sys2Proof Sys2Proof.Machine

/-! ### The step, and what every command leaves unchanged -/

/-- A step carries out the command at the front of the queue on the state with the queue's rest. On an empty queue the
events that are due join it, and where none is due a millisecond passes while the part is supplied (the model's choice, log
entry 1; the count of floor time is R172's). -/
def Obligations.StepTakesFrontCommand : Prop :=
  (∀ (c : Instr) (rest : List Instr) (s : State),
    step { s with pending := c :: rest } = exec c { s with pending := rest }) ∧
  ∀ s : State, s.pending = [] →
    (s.dueEvents ≠ [] → step s = .next { s with pending := s.dueEvents }) ∧
    (s.dueEvents = [] → s.supplyLow = false → step s = .next { s with floorTime := (s.floorTime + 1) % 2 ^ 48 }) ∧
    (s.dueEvents = [] → s.supplyLow = true → step s = .next s)

/-- Every command of the table completes in a next state, in every state. -/
def Obligations.EveryCommandCompletes : Prop :=
  ∀ (c : Instr) (s : State), ∃ t, exec c s = .next t

/-- The frame of all commands. The queue is untouched; only the commands that start or end a reset change floor time, the
reset in progress, its pins and its cause; only the requests of Table 10-3 and the locks write a setting, a definition or a
lock state; only the signal events change the inputs, the counters, the rotation monitor and the channels. What settles
within an event changes none of these, nor the link port; it is three passes of the owners' reactions, each stated on its
own (ActuatorWork, WatchesLatch, BurnerStops, CoolerOutputsFormed, HeatShared, PurgeCompletesAndFlameProves,
AlarmTimersExpire). The order and the number of the passes are the model's choice, log entries 10 and 11, and that the valve
watches go in ascending number is log entry 48. -/
def Obligations.CommandFrame : Prop :=
  (∀ (c : Instr) (s t : State), exec c s = .next t →
    t.pending = s.pending ∧
    (resets c = false →
      t.floorTime = s.floorTime ∧ t.resetRun = s.resetRun ∧ t.pinLow = s.pinLow ∧ t.supplyLow = s.supplyLow ∧
        t.restartCause = s.restartCause ∧
        (writesSettings c = false → t.settings = s.settings) ∧ (bringsSignal c = false → t.signals = s.signals))) ∧
  ∀ s : State,
    SameBut [.burner, .lines, .batches, .heat, .cooler, .field, .alarm, .attention, .shift] s s.settle ∧
      s.settle.settings = s.settings ∧ s.settle.signals = s.signals ∧
      s.settle = s.react.react.react.formImage.handDurations ∧
      (let homed := (s.watchHome 0).watchHome 1
       let watched :=
        ((((((homed.watchValve 0).watchValve 1).watchValve 2).watchValve 3).watchValve 4).watchValve 5).watchValve 6
       s.react = watched.watchLines.formCooler.evaluate.formImage.watchBurner.syncAlarms)

/-! ### The link port: taking, answering, discarding -/

/-- A part that is ready takes every request and answers it with one reply, behind the frames that already wait. -/
def Obligations.RequestAnswered : Prop :=
  ∀ (c : Instr) (type : Nat) (tag : Byte) (s : State), requestOf? c = some (type, tag) → s.Ready →
    ∃ (u : State) (status : Status) (content : List Byte),
      exec c s = .next (u.replied type tag status content) ∧
        u.link.unanswered = true ∧ u.link.sending = s.link.sending ∧ u.link.waiting = s.link.waiting

/-- A request's valid frame, or a frame that the port has not told apart, is discarded and counted while a request is
unanswered: the count goes up to 65 535, the first since READ STATUS raises LINK, the silence timer starts again, and
nothing else changes, but for what settles where the frame ends a silence. -/
def Obligations.RequestWhileUnanswered : Prop :=
  ∀ (c : Instr) (s : State), (requestOf? c).isSome = true ∨ c = .earlyFrameDiscarded →
    s.resetRun = none → s.link.unanswered = true →
    let silenceAt := if s.alarm.silenceTime = 0 then none else some (s.floorTime + s.alarm.silenceTime * 1000)
    let heard : State := { s with link := { s.link with silenceAt := silenceAt, silent := false } }
    let v := if s.link.silent then heard.settle else heard
    ∃ u : State, exec c s = .next u.pump ∧
      u.link =
        { s.link with
          discarded := min 65535 (s.link.discarded + 1), silenceAt := silenceAt, silent := false } ∧
      u.attention.request =
        (if s.link.discarded = 0 then v.attention.request ||| 0x80#8 else v.attention.request) ∧
      u.attention.arm = v.attention.arm ∧ SameBut [.link, .attention] v u

/-- A frame with a bad length byte, a bad CRC or a gap is discarded and counted, and starts no silence timer; so is, with
the silence timer started, a valid frame that completes while a request is unanswered. The count stops at 65 535; only the
discard that takes it from 0 raises LINK. A frame that the receiver holds is ended by a gap once more than 20 ms have
passed since its last byte: the end is due then, and leaves the receiver HUNTING. That FRAME_GAP_TIMEOUT counts a frame
that came with the command, where the receiver holds none past its gap, is the model's choice, log entry 15. READ STATUS
returns the count as it stands and then sets it to 0, both resets set it to 0, and a frame still arriving when a reset
begins is not counted. -/
def Obligations.DiscardsCounted : Prop :=
  (∀ (c : Instr) (s : State), c = .frameDiscarded ∨ c = .frameGapTimeout → s.resetRun = none →
    let gapOver : Bool :=
      match s.link.receiver with
      | .hunting => false
      | .inFrame _ last => last + 20 < s.floorTime
    ∃ u : State, exec c s = .next u.pump ∧
      u.link =
        { s.link with
          discarded := min 65535 (s.link.discarded + 1)
          receiver := if c = .frameGapTimeout ∧ gapOver = true then .hunting else s.link.receiver } ∧
      u.attention.request =
        (if s.link.discarded = 0 then s.attention.request ||| 0x80#8 else s.attention.request) ∧
      u.attention.arm = s.attention.arm ∧ SameBut [.link, .attention] s u) ∧
  (∀ s : State, s.resetRun = none →
    (.frameGapTimeout ∈ s.dueEvents ↔
      ∃ buffer last, s.link.receiver = .inFrame buffer last ∧ last + 20 < s.floorTime)) ∧
  (∀ (c : Instr) (s : State), (requestOf? c).isSome = true ∨ c = .earlyFrameDiscarded →
    s.resetRun = none → s.link.unanswered = true →
    ∃ u : State, exec c s = .next u.pump ∧ u.link.discarded = min 65535 (s.link.discarded + 1) ∧
      u.link.silenceAt =
        (if s.alarm.silenceTime = 0 then none else some (s.floorTime + s.alarm.silenceTime * 1000)) ∧
      u.attention.request =
        (if s.link.discarded = 0 then s.validFrame.attention.request ||| 0x80#8
        else s.validFrame.attention.request)) ∧
  (∀ (s : State) (tag : Byte), s.Ready →
    exec (.readStatus tag) s =
      .next (({ s.taken with link := { s.taken.link with discarded := 0 } } : State).replied 0x61 tag .done
        s.taken.statusBytes) ∧
    ∃ head : List Byte, s.taken.statusBytes = head ++ b2 s.taken.link.discarded) ∧
  ∀ s : State,
    s.coldValues.link.discarded = 0 ∧ s.warmValues.link.discarded = 0 ∧
      ∀ kind cause restart,
        (s.beginReset kind cause restart).link.receiver = .hunting ∧
          (s.beginReset kind cause restart).link.discarded = s.link.discarded

/-- While a reset is in progress no command has an effect but those that start or end a reset, and a raw level (the
model's reading, log entry 20). -/
def Obligations.ResetHoldsCommands : Prop :=
  ∀ (c : Instr) (s : State), s.resetRun.isSome = true → resets c = false → (∀ n level, c ≠ .diRawChange n level) →
    exec c s = .next s

/-- The bytes of a reply, and its place: a reply begins at once on an idle line, before an attention frame that becomes owed
at the same event; otherwise it waits its turn. Nothing but the link port and the frame-owed flag changes. -/
def Obligations.ReplySent : Prop :=
  ∀ (s : State) (type : Nat) (tag : Byte) (status : Status) (content : List Byte),
    let reply : Frame :=
      { type := if type < 0x80 then type + 0x80 else 0xFF, tag := tag,
        payload := BitVec.ofNat 8 status.ctorIdx :: content, reply := true }
    let t := s.replied type tag status content
    SameBut [.link, .attention] s t ∧ t.attention.request = s.attention.request ∧ t.attention.arm = s.attention.arm ∧
    (s.link.sending = none → s.link.waiting = [] →
      t.link =
          { s.link with
            sending := some reply
            waiting := if s.attention.owed then [{ type := 0x7F, tag := 0, payload := [], reply := false }] else [] } ∧
        t.attention.owed = s.attention.owed) ∧
    (∀ f, s.link.sending = some f →
      t.link =
          { s.link with
            waiting :=
              if s.attention.owed = true ∧ ∀ g ∈ s.link.waiting, g.reply = true then
                s.link.waiting ++ [reply, { type := 0x7F, tag := 0, payload := [], reply := false }]
              else s.link.waiting ++ [reply] } ∧
        t.attention.owed = s.attention.owed)

/-- The end of a frame on the line: a reply's end answers its request, and the next waiting frame begins. The discarded
count, the silence timer and the rest of the link port stay as they were. -/
def Obligations.FrameEnds : Prop :=
  ∀ (s : State) (f : Frame), s.resetRun = none → s.link.sending = some f → f.reply = false ∨ s.restartPending = none →
    ∃ t : State, exec .frameSendEnd s = .next t ∧ SameBut [.link, .attention] s t ∧
      t.attention.request = s.attention.request ∧ t.attention.arm = s.attention.arm ∧
      t.link =
        { s.link with
          unanswered := s.link.unanswered && !f.reply, sending := t.link.sending, waiting := t.link.waiting } ∧
      (∀ g rest, s.link.waiting = g :: rest →
        t.link.sending = some g ∧ rest <+: t.link.waiting ∧ (g.reply = false → t.attention.owed = false)) ∧
      (s.link.waiting = [] → t.link.waiting = [] ∧ t.attention.owed = false ∧
        t.link.sending =
          if s.attention.owed then some { type := 0x7F, tag := 0, payload := [], reply := false } else none)

/-! ### Reads -/

/-- The reads that change no state: each is answered DONE with its content and leaves the part as the taken request found
it. PING carries the vendor code 0x0D4C, the part code 0x10A4, revision 1, the restart cause and the floor time, most
significant byte first. -/
def Obligations.ReadsChangeNothing : Prop :=
  ∀ (s : State) (tag : Byte), s.Ready →
    exec (.readBurner tag) s = .next (s.taken.replied 0x01 tag .done s.taken.burnerBytes) ∧
    exec (.readHeatBalance tag) s = .next (s.taken.replied 0x23 tag .done s.taken.heatBytes) ∧
    exec (.readCooler tag) s = .next (s.taken.replied 0x2F tag .done s.taken.coolerBytes) ∧
    exec (.readField tag 0) s = .next (s.taken.replied 0x30 tag .done s.taken.fieldPart0) ∧
    exec (.readField tag 1) s = .next (s.taken.replied 0x30 tag .done s.taken.fieldPart1) ∧
    exec (.readField tag 2) s = .next (s.taken.replied 0x30 tag .done s.taken.fieldPart2) ∧
    (∀ part : Byte, 2 < part.toNat →
      exec (.readField tag part) s = .next (s.taken.replied 0x30 tag .badValue [])) ∧
    (∀ (point : Byte) (i : Fin 96), point.toNat = i.val + 1 →
      exec (.readAlarmPoint tag point) s = .next (s.taken.replied 0x3F tag .done (s.taken.pointBytes i))) ∧
    (∀ point : Byte, point = 0 ∨ 96 < point.toNat →
      exec (.readAlarmPoint tag point) s = .next (s.taken.replied 0x3F tag .badValue [])) ∧
    exec (.readAlarmTable tag) s = .next (s.taken.replied 0x40 tag .done s.taken.tableBytes) ∧
    exec (.listReports tag) s = .next (s.taken.replied 0x55 tag .done s.taken.listBytes) ∧
    exec (.ping tag) s =
      .next (s.taken.replied 0x60 tag .done
        ([0x0D#8, 0x4C#8, 0x10#8, 0xA4#8, 0x01#8] ++
          [match s.taken.restartCause with
            | .coldPin => 0#8
            | .coldSupply => 1#8
            | .coldRequest => 2#8
            | .warmRequest => 3#8] ++
          ([5, 4, 3, 2, 1, 0].map fun k => BitVec.ofNat 8 (s.taken.floorTime / 256 ^ k))))

/-- READ PEEK and READ REPORT: the part named of the snapshot or of the stored report, NO_SUCH where it is not held, and
no state changed. -/
def Obligations.ReportsRead : Prop :=
  ∀ (s : State) (tag : Byte), s.Ready →
    (∀ (p : Peek) (part : Byte), s.taken.shift.peek = some p → part.toNat ≤ 4 →
      exec (.readPeek tag part) s = .next (s.taken.replied 0x54 tag .done (part :: p.part part.toNat))) ∧
    (∀ part : Byte, s.taken.shift.peek = none ∨ 4 < part.toNat →
      exec (.readPeek tag part) s = .next (s.taken.replied 0x54 tag .noSuch [])) ∧
    (∀ (r : Report) (sequence : BitVec 32) (part : Byte), stored s.taken.shift.store sequence.toNat = some r →
      part.toNat ≤ 4 →
      exec (.readReport tag sequence part) s =
        .next (s.taken.replied 0x56 tag .done (b4 sequence.toNat ++ part :: r.part part.toNat))) ∧
    (∀ (sequence : BitVec 32) (part : Byte),
      (∀ r ∈ s.taken.shift.store, r.shift.sequence ≠ sequence.toNat) ∨ 4 < part.toNat →
      exec (.readReport tag sequence part) s = .next (s.taken.replied 0x56 tag .noSuch []))

/-- READ LINE returns the line and clears its four reason flags; READ COMPLETIONS takes up to 8 of the oldest records off
the list and clears the overrun flag; READ ALARM CHANGES takes up to 12 and clears its own. Nothing else changes. -/
def Obligations.ReadsThatCollect : Prop :=
  ∀ (s : State) (tag : Byte), s.Ready →
    (∀ (line : Byte) (l : Fin 6), line.toNat = l.val + 1 →
      exec (.readLine tag line) s =
        .next (({ s.taken with
          lines := upd s.taken.lines l fun r =>
            { r with completionFlag := false, lowWaterFlag := false, emptyFlag := false, stateFlag := false } } : State).replied
          0x15 tag .done (s.taken.lineBytes l)) ∧
      exec (.readCompletions tag line) s =
        .next (({ s.taken with
          lines := upd s.taken.lines l fun r =>
            { r with completions := r.completions.drop 8, overrun := false } } : State).replied
          0x16 tag .done
          (let held := s.taken.lines[l.val].completions
           b1 (min 8 held.length) ++ b1 (held.length - min 8 held.length) ++ flag s.taken.lines[l.val].overrun ++
            ((held.take 8).map Completion.bytes).flatten))) ∧
    (∀ line : Byte, line = 0 ∨ 6 < line.toNat →
      exec (.readLine tag line) s = .next (s.taken.replied 0x15 tag .badValue []) ∧
      exec (.readCompletions tag line) s = .next (s.taken.replied 0x16 tag .badValue [])) ∧
    exec (.readAlarmChanges tag) s =
      .next (({ s.taken with
        alarm := { s.taken.alarm with changes := s.taken.alarm.changes.drop 12, overrun := false } } : State).replied
        0x41 tag .done
        (let held := s.taken.alarm.changes
         b1 (min 12 held.length) ++ b1 (held.length - min 12 held.length) ++ flag s.taken.alarm.overrun ++
          ((held.take 12).map Change.bytes).flatten))

/-! ### Attention -/

/-- READ ATTENTION returns the vector and disarms its classes; REARM arms the named classes; DISMISS clears the requests of
the named classes. The frame becomes owed where the vector goes from empty to non-empty, and nothing else changes. A
request raised at the instant of a REARM gives the same flags in either order; one raised at the instant of a DISMISS that
names its class is cleared where it is taken first, and set again, with a frame where the vector was empty, where it is
taken second. -/
def Obligations.AttentionRequests : Prop :=
  ∀ (s : State) (tag : Byte) (named : ClassSet), s.Ready →
    let a := s.taken.attention
    let vector := a.request &&& a.arm
    exec (.readAttention tag) s =
      .next (({ s.taken with attention := { a with arm := a.arm &&& ~~~vector } } : State).replied 0x48 tag .done
        s.taken.attentionBytes) ∧
    s.taken.attentionBytes.head? = some vector ∧
    exec (.rearm tag named) s =
      .next (({ s.taken with
        attention :=
          { a with
            arm := a.arm ||| named
            owed := a.owed || (vector == 0#8 && a.request &&& (a.arm ||| named) != 0#8) } } : State).replied
        0x49 tag .done []) ∧
    exec (.dismiss tag named) s =
      .next (({ s.taken with attention := { a with request := a.request &&& ~~~named } } : State).replied 0x4A tag .done []) ∧
    ∀ c : AttentionClass,
      let rearmed (a : Attention) := a.setFlags a.request (a.arm ||| named)
      let raised (a : Attention) := a.setFlags (a.request ||| c.set) a.arm
      let dismissed (a : Attention) := a.setFlags (a.request &&& ~~~named) a.arm
      (rearmed (raised a)).request = (raised (rearmed a)).request ∧ (rearmed (raised a)).arm = (raised (rearmed a)).arm ∧
        (c.set &&& named ≠ 0#8 →
          (dismissed (raised a)).request = a.request &&& ~~~named ∧
            (raised (dismissed a)).request = (a.request &&& ~~~named) ||| c.set ∧
            ((raised (dismissed a)).owed = true ↔
              a.owed = true ∨ (a.request &&& ~~~named &&& a.arm = 0#8 ∧ c.set &&& a.arm ≠ 0#8)))

/-- A request for a class sets its flag; the frame becomes owed exactly where the vector goes from empty to non-empty. An
event handed to the recorder is listed while fewer than 48 are, and counted as not listed otherwise. A change of a valve's
command starts its proof at the valve proof time, and no change leaves the watch as it is. Each changes nothing else. -/
def Obligations.RequestEventAndValveCommand : Prop :=
  ∀ s : State,
    (∀ c : AttentionClass,
      let a := s.attention
      let t := s.raise c
      SameBut [.attention] s t ∧ t.attention.request = a.request ||| (1#8 <<< c.ctorIdx) ∧ t.attention.arm = a.arm ∧
      (t.attention.owed = true ↔
        a.owed = true ∨ (a.request &&& a.arm = 0#8 ∧ t.attention.request &&& a.arm ≠ 0#8))) ∧
    (∀ k : EventKind,
      let o := s.shift.current
      s.addEvent k =
        { s with
          shift :=
            { s.shift with
              current :=
                if o.events.length < 48 then { o with events := o.events ++ [{ time := s.floorTime, kind := k }] }
                else { o with notListed := min 4294967295 (o.notListed + 1) } } }) ∧
    (∀ (v : Fin 7) (toOpen : Bool),
      (s.valveOpen v = toOpen → s.commandValve v toOpen = s) ∧
      (s.valveOpen v ≠ toOpen →
        s.commandValve v toOpen =
          { s with
            field :=
              { s.field with
                valves :=
                  upd s.field.valves v fun _ =>
                    { openCommand := toOpen, phase := .proving
                      proofAt := some (s.floorTime + s.field.cfg.valveProofTime * 100) } } }))

/-! ### Settings and lock groups -/

/-- Each request of Table 10-3 is refused LOCKED while its group is locked, and changes nothing. -/
def Obligations.LockedGroupRefuses : Prop :=
  ∀ (s : State) (tag : Byte), s.Ready →
    let u := s.taken
    (∀ f, u.link.locks[0] = true → exec (.setBurner tag f) s = .next (u.replied 0x02 tag .locked [])) ∧
    (∀ line f, u.link.locks[1] = true → exec (.configureLine tag line f) s = .next (u.replied 0x10 tag .locked [])) ∧
    (∀ f, u.link.locks[2] = true → exec (.setEnvelope tag f) s = .next (u.replied 0x20 tag .locked [])) ∧
    (∀ f, u.link.locks[3] = true → exec (.setCooler tag f) s = .next (u.replied 0x2E tag .locked [])) ∧
    (∀ (point : Byte) f, u.link.locks[4] = true → 1 ≤ point.toNat → point.toNat ≤ 96 →
      exec (.defineAlarm tag point f) s = .next (u.replied 0x38 tag .locked [])) ∧
    (∀ threshold window silence, u.link.locks[4] = true →
      exec (.setAlarm tag threshold window silence) s = .next (u.replied 0x39 tag .locked [])) ∧
    (∀ f, u.link.locks[5] = true → exec (.setField tag f) s = .next (u.replied 0x33 tag .locked [])) ∧
    (∀ masks, u.link.locks[5] = true → exec (.setDiagMasks tag masks) s = .next (u.replied 0x32 tag .locked [])) ∧
    (∀ times, u.link.locks[6] = true → 1 ≤ times.length → times.length ≤ 4 →
      exec (.setSchedule tag times) s = .next (u.replied 0x51 tag .locked []))

/-- LOCK GROUP locks the group its code names in every state. UNLOCK GROUP unlocks it, but refuses BURNER, ENVELOPE, ALARM
and FIELD outside LOCKOUT and IDLE. A code that names no group is refused. Nothing but the lock state changes. -/
def Obligations.LockAndUnlock : Prop :=
  ∀ (s : State) (tag group : Byte), s.Ready →
    let u := s.taken
    (∀ h : group.toNat < 7,
      exec (.lockGroup tag group) s =
        .next (({ u with link := { u.link with locks := u.link.locks.set group.toNat true } } : State).replied 0x62 tag
          .done []) ∧
      (group.toNat ∈ [0, 2, 4, 5] ∧ u.burner.state ≠ .lockout ∧ u.burner.state ≠ .idle →
        exec (.unlockGroup tag group) s = .next (u.replied 0x63 tag .notPermitted [])) ∧
      (group.toNat ∈ [1, 3, 6] ∨ u.burner.state = .lockout ∨ u.burner.state = .idle →
        exec (.unlockGroup tag group) s =
          .next (({ u with link := { u.link with locks := u.link.locks.set group.toNat false } } : State).replied 0x63 tag
            .done []))) ∧
    (7 ≤ group.toNat →
      exec (.lockGroup tag group) s = .next (u.replied 0x62 tag .badValue []) ∧
        exec (.unlockGroup tag group) s = .next (u.replied 0x63 tag .badValue []))

/-- SET BURNER with every value in the range of Table 1-8 writes them all at once, and flame present is voted by the flame
voting written; with a value outside it is refused. Nothing else changes: work in progress on an actuator goes on, its next
step at the time it had, which is the model's choice, log entry 46. That the vote is taken at the request itself is read from
R13 by inference, log entry 19. -/
def Obligations.BurnerSettingsWritten : Prop :=
  ∀ (s : State) (tag : Byte) (f : BurnerFields), s.Ready → s.taken.link.locks[0] = false →
    let inside : Prop :=
      f.voting.toNat ≤ 1 ∧ 1 ≤ f.ffrt.toNat ∧ f.ffrt.toNat ≤ 4 ∧ 60 ≤ f.purgeTime.toNat ∧ f.purgeTime.toNat ≤ 900 ∧
        f.purgeAir.toNat ≤ 100 ∧ f.minAir.toNat ≤ 100 ∧ 3 ≤ f.ignitionTrial.toNat ∧ f.ignitionTrial.toNat ≤ 15 ∧
        5 ≤ f.mainTrial.toNat ∧ f.mainTrial.toNat ≤ 30 ∧ f.lightOffAxial.toNat ≤ 400 ∧ f.lightOffSwirl.toNat ≤ 400 ∧
        f.toleranceAxial.toNat ≤ 20 ∧ f.toleranceSwirl.toNat ≤ 20 ∧ f.stepRateAxial.toNat ≤ 3 ∧
        f.stepRateSwirl.toNat ≤ 3
    let rate : Byte → Nat := fun b => if b = 0 then 25 else if b = 1 then 50 else if b = 2 then 100 else 200
    (inside →
      exec (.setBurner tag f) s =
        .next (({ s.taken with
          burner :=
            { s.taken.burner with
              cfg :=
                { voting := if f.voting = 0 then .oneOfTwo else .twoOfTwo, ffrt := f.ffrt.toNat,
                  purgeTime := f.purgeTime.toNat, purgeAir := f.purgeAir.toNat, minAir := f.minAir.toNat,
                  ignitionTrial := f.ignitionTrial.toNat, mainTrial := f.mainTrial.toNat,
                  lightOff := #v[f.lightOffAxial.toNat, f.lightOffSwirl.toNat],
                  tolerance := #v[f.toleranceAxial.toNat, f.toleranceSwirl.toNat],
                  stepRate := #v[rate f.stepRateAxial, rate f.stepRateSwirl] }
              flame :=
                if f.voting = 0 then s.taken.di 2 || s.taken.di 3 else s.taken.di 2 && s.taken.di 3 } } : State).replied 0x02
          tag .done [])) ∧
    (¬inside → exec (.setBurner tag f) s = .next (s.taken.replied 0x02 tag .badValue []))

/-- SET ENVELOPE with every value in the range of Table 4-3 writes them all and makes an evaluation; with a value outside
it is refused. SET OPERATOR CEILING makes the OPERATOR source present with its value and CLEAR makes it absent, with the
evaluation that each causes; a value above 666 666 kW is refused. -/
def Obligations.EnvelopeAndOperatorCeiling : Prop :=
  (∀ (s : State) (tag : Byte) (value : BitVec 32), s.Ready →
    let u := s.taken
    let withOperator : Option Nat → State := fun v => { u with heat := { u.heat with operator := v } }
    (value.toNat ≤ 666666 →
      exec (.setOperatorCeiling tag value) s =
        .next ((withOperator (some value.toNat)).evaluate.settle.replied 0x21 tag .done [])) ∧
    (666666 < value.toNat →
      exec (.setOperatorCeiling tag value) s = .next (u.replied 0x21 tag .badValue [])) ∧
    exec (.clearOperatorCeiling tag) s = .next ((withOperator none).evaluate.settle.replied 0x22 tag .done [])) ∧
  ∀ (s : State) (tag : Byte) (f : EnvelopeFields), s.Ready → s.taken.link.locks[2] = false →
    let inside : Prop :=
      1000 ≤ f.nominalHeat.toNat ∧ f.nominalHeat.toNat ≤ 666666 ∧ 1000 ≤ f.maxHeat.toNat ∧ f.maxHeat.toNat ≤ 666666 ∧
        f.lightOffHeat.toNat ≤ 666666 ∧ f.lightOffRamp.toNat ≤ 60000 ∧ f.satLowLimit.toNat ≤ 1500 ∧
        10 ≤ f.satCeilingPct.toNat ∧ f.satCeilingPct.toNat ≤ 100 ∧ f.surgeCutback.toNat ≤ 50
    (inside →
      exec (.setEnvelope tag f) s =
        .next ((({ s.taken with
          envelope :=
            { nominalHeat := f.nominalHeat.toNat, maxHeat := f.maxHeat.toNat, lightOffHeat := f.lightOffHeat.toNat,
              lightOffRamp := f.lightOffRamp.toNat, satLowLimit := f.satLowLimit.toNat,
              satCeilingPct := f.satCeilingPct.toNat, surgeCutback := f.surgeCutback.toNat } } : State).evaluate.settle).replied
          0x20 tag .done [])) ∧
    (¬inside → exec (.setEnvelope tag f) s = .next (s.taken.replied 0x20 tag .badValue []))

/-- SET COOLER with every value in the range of Table 5-3, the BED minimum not above the maximum and the release level below
the surge level writes them all. Changed BED settings form the BED value again from the bed mean, or leave it while the mean
is absent; that they do so only while its timer runs is the model's reading, log entry 21. Unchanged BED settings leave it.
Otherwise the request is refused. -/
def Obligations.CoolerSettingsWritten : Prop :=
  ∀ (s : State) (tag : Byte) (f : CoolerFields), s.Ready → s.taken.link.locks[3] = false →
    let inside : Prop :=
      10 ≤ f.fanStartDelay.toNat ∧ f.fanStartDelay.toNat ≤ 120 ∧ 30 ≤ f.fanRunOn.toNat ∧ f.fanRunOn.toNat ≤ 600 ∧
        (∀ k : Fin 12, f.fanMinSpeed[k].toNat ≤ 1000 ∧ f.fanThreshold[k].toNat ≤ 1000) ∧ f.boostSpeed.toNat ≤ 1000 ∧
        f.bedBase.toNat ≤ 300 ∧ f.bedGain.toNat ≤ 100 ∧ f.bedSetpoint.toNat ≤ 500 ∧ f.bedMin.toNat ≤ f.bedMax.toNat ∧
        f.bedMax.toNat ≤ 300 ∧ 1 ≤ f.surgeRise.toNat ∧ f.surgeRise.toNat ≤ 100 ∧ 2 ≤ f.surgeWindow.toNat ∧
        f.surgeWindow.toNat ≤ 30 ∧ 1 ≤ f.surgeLevel.toNat ∧ f.surgeLevel.toNat ≤ 500 ∧
        f.releaseLevel.toNat < f.surgeLevel.toNat ∧ 10 ≤ f.releaseTime.toNat ∧ f.releaseTime.toNat ≤ 300 ∧
        f.surgeRate.toNat ≤ 300 ∧ 1 ≤ f.blasterRevs.toNat ∧ 2 ≤ f.blasterInterval.toNat ∧ f.blasterInterval.toNat ≤ 60
    (inside →
      ∃ u : State, exec (.setCooler tag f) s = .next (u.settle.replied 0x2E tag .done []) ∧ SameBut [.cooler] s.taken u ∧
        u.cooler = { s.taken.cooler with cfg := u.cooler.cfg, bed := u.cooler.bed } ∧
        (∀ k : Fin 12, u.cooler.cfg.fanMinSpeed[k] = f.fanMinSpeed[k].toNat ∧
          u.cooler.cfg.fanThreshold[k] = f.fanThreshold[k].toNat) ∧
        u.cooler.cfg =
          { fanStartDelay := f.fanStartDelay.toNat, fanRunOn := f.fanRunOn.toNat,
            fanMinSpeed := u.cooler.cfg.fanMinSpeed, fanThreshold := u.cooler.cfg.fanThreshold,
            boostSpeed := f.boostSpeed.toNat, bedBase := f.bedBase.toNat, bedGain := f.bedGain.toNat,
            bedSetpoint := f.bedSetpoint.toNat, bedMin := f.bedMin.toNat, bedMax := f.bedMax.toNat,
            surgeRise := f.surgeRise.toNat, surgeWindow := f.surgeWindow.toNat, surgeLevel := f.surgeLevel.toNat,
            releaseLevel := f.releaseLevel.toNat, releaseTime := f.releaseTime.toNat, surgeRate := f.surgeRate.toNat,
            blasterRevs := f.blasterRevs.toNat, blasterInterval := f.blasterInterval.toNat } ∧
        (let c := s.taken.cooler
         let changed : Prop :=
          f.bedBase.toNat ≠ c.cfg.bedBase ∨ f.bedGain.toNat ≠ c.cfg.bedGain ∨ f.bedSetpoint.toNat ≠ c.cfg.bedSetpoint ∨
            f.bedMin.toNat ≠ c.cfg.bedMin ∨ f.bedMax.toNat ≠ c.cfg.bedMax
         (changed → c.bedAt ≠ none → ∀ m : Int, c.bedMean = some m →
           u.cooler.bed =
             min f.bedMax.toNat
               (max f.bedMin.toNat
                 ((f.bedBase.toNat : Int) + (f.bedGain.toNat : Int) * (m - (f.bedSetpoint.toNat : Int))).toNat)) ∧
           (¬changed ∨ c.bedAt = none ∨ c.bedMean = none → u.cooler.bed = c.bed))) ∧
    (¬inside → exec (.setCooler tag f) s = .next (s.taken.replied 0x2E tag .badValue []))

/-- SET FIELD with every value in the range of Table 6-7 writes them all; with a value outside it is refused. SET DIAG MASKS
writes the 23 record masks and the three kind masks; where no check that newly applies finds its failing condition, that
is all it does. A check that newly applies and finds it latches its kind on the record, with a DIAG request where the kind
is new, and its owner is handed the latch: the line enters FAULT as its state gives, and the chamber takes its flag. Every
other record keeps its state. A timer already running keeps its time. That a kind already held is handed too is the model's
choice, log entry 23. -/
def Obligations.FieldSettingsWritten : Prop :=
  ∀ (s : State) (tag : Byte), s.Ready → s.taken.link.locks[5] = false →
    (∀ f : FieldFields,
      let inside : Prop :=
        (∀ n : Fin 23, f.debounce[n].toNat ≤ 250) ∧ 100 ≤ f.scanPeriod.toNat ∧ f.scanPeriod.toNat ≤ 2000 ∧
          30 ≤ f.kilnStopTime.toNat ∧ f.kilnStopTime.toNat ≤ 300 ∧ 5 ≤ f.valveProofTime.toNat ∧
          f.valveProofTime.toNat ≤ 100
      (inside →
        ∃ c : FieldSettings, (∀ n : Fin 23, c.debounce[n] = f.debounce[n].toNat) ∧ c.scanPeriod = f.scanPeriod.toNat ∧
          c.kilnStopTime = f.kilnStopTime.toNat ∧ c.valveProofTime = f.valveProofTime.toNat ∧
          exec (.setField tag f) s =
            .next (({ s.taken with field := { s.taken.field with cfg := c } } : State).replied 0x33 tag .done [])) ∧
      (¬inside → exec (.setField tag f) s = .next (s.taken.replied 0x33 tag .badValue []))) ∧
    (∀ masks : BitVec 32,
      ∃ u : State, exec (.setDiagMasks tag masks) s = .next (u.settle.replied 0x32 tag .done []) ∧
        u.settings =
          { s.taken.settings with
            recordMasks := Vector.ofFn fun r : Fin 23 => masks.getLsbD r.val
            kindMasks := (masks.getLsbD 23, masks.getLsbD 24, masks.getLsbD 25) } ∧
        u.signals = s.taken.signals ∧
        let newly : Fin 23 → FaultKind → Prop := fun r kind =>
          let mask : Nat := match kind with | .failToOpen => 23 | .failToClose => 24 | .noMotion => 25
          masks.getLsbD r.val = true ∧ masks.getLsbD mask = true ∧ s.taken.checkApplies r kind = false
        (∀ r : Fin 23, (∀ kind, s.taken.failing r = some kind → ¬newly r kind) → u.record r = s.taken.record r) ∧
        (∀ (r : Fin 23) (kind : FaultKind), s.taken.failing r = some kind → newly r kind →
          (match s.taken.record r with
            | .fault held => u.record r = .fault (held.add kind)
            | .ok | .powerup => u.record r = .fault (FaultKinds.none.add kind)) ∧
          ((s.taken.record r).holds kind = false → u.attention.request.getLsbD 6 = true) ∧
          (∀ k : Fin 12, r = recordOfFan k → u.cooler.chambers[k].fault = true) ∧
          ∀ l : Fin 6, r = recordOfValve (svOf l) →
            (s.taken.lines[l].state = .shutting ∨
                (s.taken.valveOpen (svOf l) = true ∧
                  (s.taken.lines[l].state = .admitting ∨ s.taken.lines[l].state = .opened)) →
              u.lines[l].state = .fault ∧ u.lines[l].requested = 0 ∧ u.valveOpen (svOf l) = false)) ∧
        ((∀ (r : Fin 23) (kind : FaultKind), s.taken.failing r = some kind → ¬newly r kind) →
          SameBut [.field] s.taken u ∧
            u.field =
              { s.taken.field with
                records := u.field.records, openCheck := masks.getLsbD 23, closeCheck := masks.getLsbD 24,
                motionCheck := masks.getLsbD 25 } ∧
            ∀ r : Fin 23, u.field.records[r] = { s.taken.field.records[r] with checked := masks.getLsbD r.val }))

/-- CONFIGURE LINE, its checks in the order of R33; a request that passes them writes every setting of the line and hands
the heat balance an evaluation. A change of kind returns the batch record of L5 or L6 to its reset values (R60). That a
line of kind BATCH loses its window and its measured rate is the model's choice, log entry 26. -/
def Obligations.LineConfigured : Prop :=
  ∀ (s : State) (tag line : Byte) (f : LineFields), s.Ready → s.taken.link.locks[1] = false →
    let u := s.taken
    let inside : Fin 6 → Prop := fun l =>
      (f.kind = 0 ∨ f.kind = 1 ∧ 4 ≤ l.val) ∧ f.maxRate.toNat ≤ 60000 ∧ f.minRate.toNat ≤ f.maxRate.toNat ∧
        1 ≤ f.gramsPerPulse.toNat ∧ 1 ≤ f.shutRamp.toNat ∧ f.shutRamp.toNat ≤ 60000 ∧ 1 ≤ f.deviationLimit.toNat ∧
        f.deviationLimit.toNat ≤ 50 ∧ 5 ≤ f.deviationTime.toNat ∧ f.deviationTime.toNat ≤ 600 ∧ f.lowWater.toNat ≤ 15 ∧
        1 ≤ f.gateDelay.toNat ∧ f.gateDelay.toNat ≤ 10
    let kind : LineKind := if f.kind = 0 then .continuous else .batch
    let answer : Status → Host.Outcome State Fault Refusal := fun st => .next (u.replied 0x10 tag st [])
    (line = 0 ∨ 6 < line.toNat → exec (.configureLine tag line f) s = answer .badValue) ∧
    (∀ l : Fin 6, line.toNat = l.val + 1 →
      (¬inside l → exec (.configureLine tag line f) s = answer .badValue) ∧
      (inside l →
        (u.lines[l].state ≠ .shut ∨ (kind ≠ u.lines[l].cfg.kind ∧ u.lines[l].queue ≠ []) →
          exec (.configureLine tag line f) s = answer .notPermitted) ∧
        (u.lines[l].state = .shut → (kind = u.lines[l].cfg.kind ∨ u.lines[l].queue = []) →
          ((∃ o ∈ u.lines[l].queue, ∃ target ramp hold, o.body = .rate target ramp hold ∧ f.maxRate.toNat < target) →
            exec (.configureLine tag line f) s = answer .badValue) ∧
          ((∀ o ∈ u.lines[l].queue, ∀ target ramp hold, o.body = .rate target ramp hold → target ≤ f.maxRate.toNat) →
            ∃ v : State, exec (.configureLine tag line f) s = .next (v.evaluate.settle.replied 0x10 tag .done []) ∧
              SameBut [.lines, .batches] u v ∧
              v.lines =
                (upd u.lines l fun r =>
                  { r with
                    cfg :=
                      { kind := kind, maxRate := f.maxRate.toNat, minRate := f.minRate.toNat,
                        gramsPerPulse := f.gramsPerPulse.toNat, shutRamp := f.shutRamp.toNat,
                        deviationLimit := f.deviationLimit.toNat, deviationTime := f.deviationTime.toNat,
                        lowWater := f.lowWater.toNat, noticeDelay := f.noticeDelay.toNat,
                        gateDelay := f.gateDelay.toNat }
                    window := if kind = .batch then [] else r.window
                    measured := if kind = .batch then 0 else r.measured }) ∧
              (kind = u.lines[l].cfg.kind → v.batches = u.batches) ∧
              (kind ≠ u.lines[l].cfg.kind → ∀ b : Fin 2,
                (lineOfBatch b ≠ l → v.batches[b] = u.batches[b]) ∧
                (lineOfBatch b = l →
                  v.batches[b] =
                    { indexCount := 0, opened := 0, credit := 0, slot := none, before := none, gateOpen := false, idle := 0
                      fed := 0, missed := 0, skipped := 0, misses := 0, batchMissed := false, last := none }))))))

/-- DEFINE ALARM, its checks in the order of R141: a definition in range replaces the point's own, and the point stays
DISABLED. -/
def Obligations.AlarmDefined : Prop :=
  ∀ (s : State) (tag point : Byte) (f : AlarmFields), s.Ready →
    let u := s.taken
    (point = 0 ∨ 96 < point.toNat → exec (.defineAlarm tag point f) s = .next (u.replied 0x38 tag .badValue [])) ∧
    (∀ i : Fin 96, point.toNat = i.val + 1 → u.link.locks[4] = false →
      (u.alarm.points[i].state ≠ .disabled → exec (.defineAlarm tag point f) s = .next (u.replied 0x38 tag .busy [])) ∧
      (u.alarm.points[i].state = .disabled →
        (pointDef i f = none → exec (.defineAlarm tag point f) s = .next (u.replied 0x38 tag .badValue [])) ∧
        ∀ d, pointDef i f = some d →
          exec (.defineAlarm tag point f) s =
            .next (({ u with
              alarm := { u.alarm with points := upd u.alarm.points i fun p => { p with defn := d } } } : State).replied
              0x38 tag .done []) ∧
          d.cutBack = f.cutBack.toNat ∧ d.cls.ctorIdx = f.cls.toNat))

/-- The definition that DEFINE ALARM carries for a configurable point, with the ranges of Table 7-2: a signal, a direction,
a deadband or a level outside its range is refused with every other, and the direction and level codes whichever the source
is (R177). The suppression group is the one that the group code names, and a fixed point has none. That the limit and the
deadband are not looked at for a DISCRETE source, and that of a fixed point only the class and the cut-back are taken,
within R141's limits, is the model's choice, log entry 13. -/
def Obligations.AlarmDefinitionRanges : Prop :=
  ∀ (i : Fin 96) (f : AlarmFields),
    let common : Prop :=
      f.onDelay.toNat ≤ 60 ∧ f.offDelay.toNat ≤ 60 ∧ f.cls.toNat ≤ 3 ∧ f.group.toNat ≤ 9 ∧
        (f.cutBack = 0 ∨ 10 ≤ f.cutBack.toNat ∧ f.cutBack.toNat ≤ 100) ∧ f.direction.toNat ≤ 1 ∧ f.level.toNat ≤ 1
    let group : Group :=
      ([.none, .kilnStopped, .coolerAtRest, .burnerNotFiring, .lineShut 0, .lineShut 1, .lineShut 2, .lineShut 3,
        .lineShut 4, .lineShut 5] : List Group).getD f.group.toNat .none
    (16 ≤ i.val →
      (∀ c : Fin 32, f.source = 0 → f.signal.toNat = c.val + 1 → f.deadband.toNat ≤ 32767 →
        common → ∃ d, pointDef i f = some d ∧
          d.source = .analog c f.limit.toInt (decide (f.direction = 0)) f.deadband.toNat ∧ d.group = group ∧
          d.onDelay = f.onDelay.toNat ∧ d.offDelay = f.offDelay.toNat) ∧
      (∀ n : Fin 24, f.source = 1 → f.signal.toNat = n.val + 1 → common →
        ∃ d, pointDef i f = some d ∧ d.source = .discrete n (decide (f.level = 0)) ∧ d.group = group ∧
          d.onDelay = f.onDelay.toNat ∧ d.offDelay = f.offDelay.toNat) ∧
      (¬common ∨ 1 < f.source.toNat → pointDef i f = none) ∧
      (f.source = 0 → f.signal = 0 ∨ 32 < f.signal.toNat ∨ 32767 < f.deadband.toNat → pointDef i f = none) ∧
      (f.source = 1 → f.signal = 0 ∨ 24 < f.signal.toNat → pointDef i f = none)) ∧
    (i.val < 16 → ∀ d, pointDef i f = some d →
      d.source = .internal ∧ d.onDelay = 0 ∧ d.offDelay = 0 ∧ d.group = .none) ∧
    (i.val + 1 = 5 ∨ i.val + 1 = 15 →
      ((pointDef i f).isSome = true ↔
        f.cls.toNat ≤ 1 ∧ (f.cutBack = 0 ∨ 10 ≤ f.cutBack.toNat ∧ f.cutBack.toNat ≤ 100))) ∧
    (i.val + 1 = 8 ∨ i.val + 1 = 10 → ((pointDef i f).isSome = true ↔ f.cls.toNat ≤ 1 ∧ f.cutBack = 0)) ∧
    (i.val < 16 → i.val + 1 ∉ [5, 8, 10, 15] →
      ((pointDef i f).isSome = true ↔ f.cls.toNat = PointDef.table[i].cls.ctorIdx ∧ f.cutBack = 0))

/-- SET ALARM with F 5 to 50, W 10 to 600 s and the link silence time 0 to 60 s writes them and sets the silence timer as
R173 gives; otherwise it is refused. -/
def Obligations.AlarmSettingsWritten : Prop :=
  ∀ (s : State) (tag threshold silence : Byte) (window : BitVec 16), s.Ready → s.taken.link.locks[4] = false →
    let inside : Prop :=
      5 ≤ threshold.toNat ∧ threshold.toNat ≤ 50 ∧ 10 ≤ window.toNat ∧ window.toNat ≤ 600 ∧ silence.toNat ≤ 60
    let u := s.taken
    (inside →
      ∃ v : State, exec (.setAlarm tag threshold window silence) s = .next (v.settle.replied 0x39 tag .done []) ∧
        SameBut [.alarm, .link] u v ∧
        v.alarm =
          { u.alarm with
            floodThreshold := threshold.toNat, floodWindow := window.toNat, silenceTime := silence.toNat } ∧
        (silence = 0 → v.link = { u.link with silenceAt := none, silent := false }) ∧
        (silence ≠ 0 → u.alarm.silenceTime = 0 →
          v.link = { u.link with silenceAt := some (u.floorTime + silence.toNat * 1000) }) ∧
        (silence ≠ 0 → u.alarm.silenceTime ≠ 0 → v.link = u.link)) ∧
    (¬inside →
      exec (.setAlarm tag threshold window silence) s = .next (u.replied 0x39 tag .badValue []))

/-- SET SCHEDULE with one to four minutes of the day in strictly increasing order writes them. SET CLOCK with a date of the
calendar writes the clock, starts its second, and lists CLOCK_SET with the old and the new value. Otherwise each is
refused and nothing changes. -/
def Obligations.ScheduleAndClock : Prop :=
  ∀ (s : State) (tag : Byte), s.Ready →
    let u := s.taken
    (∀ times : List (BitVec 16),
      (times.length = 0 ∨ 4 < times.length →
        exec (.setSchedule tag times) s = .next (u.replied 0x51 tag .badLength [])) ∧
      (u.link.locks[6] = false → 1 ≤ times.length → times.length ≤ 4 →
        ((times.map BitVec.toNat).Pairwise (· < ·) ∧ (∀ t ∈ times, t.toNat ≤ 1439) →
          exec (.setSchedule tag times) s =
            .next (({ u with shift := { u.shift with schedule := times.map BitVec.toNat } } : State).replied 0x51 tag
              .done [])) ∧
        (¬((times.map BitVec.toNat).Pairwise (· < ·) ∧ ∀ t ∈ times, t.toNat ≤ 1439) →
          exec (.setSchedule tag times) s = .next (u.replied 0x51 tag .badValue [])))) ∧
    (∀ f : ClockFields,
      let leap : Bool := f.year.toNat % 4 = 0
      let days : Nat :=
        if f.month = 2 then (if leap then 29 else 28)
        else if f.month = 4 ∨ f.month = 6 ∨ f.month = 9 ∨ f.month = 11 then 30 else 31
      let inside : Prop :=
        f.year.toNat ≤ 99 ∧ 1 ≤ f.month.toNat ∧ f.month.toNat ≤ 12 ∧ 1 ≤ f.day.toNat ∧ f.day.toNat ≤ days ∧
          f.hour.toNat ≤ 23 ∧ f.minute.toNat ≤ 59 ∧ f.second.toNat ≤ 59
      let d : DateTime :=
        { year := 2000 + f.year.toNat, month := f.month.toNat, day := f.day.toNat, hour := f.hour.toNat,
          minute := f.minute.toNat, second := f.second.toNat }
      (inside →
        ∃ v : State, exec (.setClock tag f) s = .next (v.replied 0x50 tag .done []) ∧ SameBut [.shift] u v ∧
          v.shift =
            { u.shift with
              clock := some (d, u.floorTime + 1000)
              current := { u.shift.current with events := v.shift.current.events, notListed := v.shift.current.notListed } } ∧
          (u.shift.current.events.length < 48 →
            v.shift.current.events =
                u.shift.current.events ++ [{ time := u.floorTime, kind := .clockSet (u.shift.clock.map Prod.fst) d }] ∧
              v.shift.current.notListed = u.shift.current.notListed) ∧
          (48 ≤ u.shift.current.events.length → v.shift.current.events = u.shift.current.events ∧
            v.shift.current.notListed = min 4294967295 (u.shift.current.notListed + 1))) ∧
      (¬inside → exec (.setClock tag f) s = .next (u.replied 0x50 tag .badValue [])))

/-! ### The burner -/

/-- RESET LOCKOUT in LOCKOUT with P2 and P3 met takes the burner to IDLE, the first-out record becoming the previous one;
with either unmet it is refused CAUSE_ACTIVE, and in every other state NOT_PERMITTED, and then nothing changes. The
condition of fixed point 3 is false after it. A claim taken before it counts, and one taken after it finds IDLE. That the
count of claims stays in its field after it is the model's choice, log entry 25. -/
def Obligations.LockoutReset : Prop :=
  ∀ (s : State) (tag : Byte), s.Ready →
    let u := s.taken
    let met : Prop :=
      u.di 0 = false ∧
        ∀ i : Fin 96, u.alarm.points[i].defn.cls = .trip →
          u.alarm.points[i].state ≠ .raised ∧ u.alarm.points[i].state ≠ .acked
    (u.burner.state ≠ .lockout → exec (.resetLockout tag) s = .next (u.replied 0x03 tag .notPermitted [])) ∧
    (u.burner.state = .lockout → ¬met → exec (.resetLockout tag) s = .next (u.replied 0x03 tag .causeActive [])) ∧
    (∀ f : FirstOut, u.burner.state = .lockout → u.burner.firstOut = some f → met →
      ∃ v : State, exec (.resetLockout tag) s = .next (v.settle.replied 0x03 tag .done []) ∧
        SameBut [.burner, .field, .attention, .shift] u v ∧
        v.burner =
          { u.burner.rested .idle with
            firstOut := none, previous := some (f, u.burner.claims), lastStop := some .lockoutReset
            actuators := v.burner.actuators } ∧
        (∀ a : Fin 2, v.burner.actuators[a] = { u.burner.actuators[a] with owner := .none }) ∧
        v.field = (u.commandValve pv false).field ∧ v.attention = (u.raise .burner).attention ∧
        v.shift = (u.addEvent (.idle .lockoutReset)).shift ∧ v.fixedCondition 3 = false ∧
        ∀ point : Nat,
          v.tripClaim point = v ∧
            u.tripClaim point = { u with burner := { u.burner with claims := min 65535 (u.burner.claims + 1) } })

/-- START PURGE outside IDLE is refused with an empty set, and in IDLE with the set of the unmet permissives of Table 1-4;
with all eight met the burner enters PURGE, its sequence claims both actuators, and each starts its home or its move to
400; a home whose switch is already active is at 0 and goes on to 400 at once. -/
def Obligations.PurgeStarted : Prop :=
  ∀ (s : State) (tag : Byte), s.Ready →
    let u := s.taken
    let met : Fin 8 → Prop := fun k =>
      match k with
      | 0 => u.link.locks[0] = true ∧ u.link.locks[2] = true ∧ u.link.locks[4] = true ∧ u.link.locks[5] = true
      | 1 => u.di 0 = false
      | 2 =>
        ∀ i : Fin 96, u.alarm.points[i].defn.cls = .trip →
          u.alarm.points[i].state ≠ .raised ∧ u.alarm.points[i].state ≠ .acked
      | 3 => ∀ v : Fin 7, u.di (closedLimit v) = true ∧ u.record (recordOfValve v) = .ok
      | 4 => u.di 1 = true
      | 5 => (u.ai 0).quality = .good ∧ 10 * (u.burner.cfg.purgeAir : Int) ≤ (u.ai 0).value
      | 6 => u.cooler.state = .running ∨ u.cooler.state = .surge
      | 7 => u.field.rotation.turning = true
    (u.burner.state ≠ .idle → exec (.startPurge tag) s = .next (u.replied 0x04 tag .notPermitted [0x00#8])) ∧
    (u.burner.state = .idle → ¬(∀ k, met k) →
      ∃ unmet : Byte, (∀ k : Fin 8, unmet.getLsbD k.val = true ↔ ¬met k) ∧
        exec (.startPurge tag) s = .next (u.replied 0x04 tag .notPermitted [unmet])) ∧
    (u.burner.state = .idle → (∀ k, met k) →
      ∃ v : State, exec (.startPurge tag) s = .next (v.settle.replied 0x04 tag .accepted []) ∧
        SameBut [.burner, .field, .attention, .shift] u v ∧
        v.burner.state = .purge ∧ v.burner.purgeSince = none ∧ v.burner.purgeStarted = false ∧
        v.burner.giveUpAt = some (u.floorTime + 3 * u.burner.cfg.purgeTime * 1000) ∧
        v.burner.cfg = u.burner.cfg ∧ v.burner.lastStop = u.burner.lastStop ∧ v.burner.previous = u.burner.previous ∧
        v.attention = (u.raise .burner).attention ∧
        v.shift.current.totals.purgeStarts = min 4294967295 (u.shift.current.totals.purgeStarts + 1) ∧
        (∀ a : Fin 2, v.burner.actuators[a].owner = .sequence) ∧
        (∀ a : Fin 2, u.burner.actuators[a].position = none → u.di (homeOf a) = false →
          v.burner.actuators[a].motion = .homing ∧ v.burner.actuators[a].homeSteps = 0 ∧
            v.burner.actuators[a].dueAt = some (u.floorTime + 1000 / u.burner.cfg.stepRate[a])) ∧
        (∀ a : Fin 2, u.burner.actuators[a].position = none → u.di (homeOf a) = true →
          v.burner.actuators[a].position = some 0 ∧ v.burner.actuators[a].target = some 400 ∧
            v.burner.actuators[a].verify = .unverified ∧ v.burner.actuators[a].motion = .moving ∧
            v.burner.actuators[a].homeFault = false ∧ v.burner.actuators[a].lastOutcome = some .done ∧
            v.burner.actuators[a].dueAt = some (u.floorTime + 1000 / u.burner.cfg.stepRate[a])) ∧
        (∀ (a : Fin 2) (p : Nat), u.burner.actuators[a].position = some p →
          v.burner.actuators[a].position = some p ∧ v.burner.actuators[a].target = some 400 ∧
            v.burner.actuators[a].verify = .unverified ∧
            v.burner.actuators[a].motion = if p = 400 then .settling else .moving))

/-- Entry into LOCKOUT, by EMERGENCY STOP and by the four timers that trip: the first-out record, the outputs and the
timers off, every line forced SHUT with its valve closed and its queue emptied, no slot in flight, actuator work ended
ABORTED under owner SEQUENCE, the TRIP request, one FEED request at every trip (R42), and, where no charge that was dropped
closes the shift, the trip count and the event. EMERGENCY STOP in LOCKOUT is counted. That the LOCKOUT event stands before
the LINE_SHUT events, and so is listed while there is room for one, is the model's choice, log entry 7. -/
def Obligations.LockoutEntered : Prop :=
  ∀ s : State,
    (∀ tag : Byte, s.Ready →
      (s.taken.burner.state ≠ .lockout →
        ∃ v : State, exec (.emergencyStop tag) s = .next (v.settle.replied 0x06 tag .done []) ∧ s.taken.LockedOut .hostStop none v) ∧
      (s.taken.burner.state = .lockout →
        exec (.emergencyStop tag) s =
          .next (({ s.taken with
            burner := { s.taken.burner with claims := min 65535 (s.taken.burner.claims + 1) } } : State).settle.replied
            0x06 tag .done []))) ∧
    (∀ t : Nat, s.resetRun = none → t ≤ s.floorTime →
      (s.burner.state = .ignition → s.burner.ignitionTrialAt = some t →
        ∃ v : State, exec .ignitionTrialExpiry s = .next v.settle.pump ∧ s.LockedOut .ignitionFail none v) ∧
      (s.burner.state ∈ [.pilot, .mainTrial, .mainFiring, .stopping] → s.burner.flameLossAt = some t →
        ∃ v : State, exec .flameLossExpiry s = .next v.settle.pump ∧ s.LockedOut .flameFail none v) ∧
      (s.burner.state ∈ [.ignition, .pilot, .mainTrial, .mainFiring, .stopping] → s.burner.airLossAt = some t →
        ∃ v : State, exec .airLossExpiry s = .next v.settle.pump ∧ s.LockedOut .airLost none v) ∧
      (s.burner.state = .mainTrial → s.burner.mainTrialAt = some t →
        (∀ l : Fin 6, s.lines[l].state ≠ .opened) ∨ s.burner.flame = false →
        ∃ v : State, exec .mainTrialExpiry s = .next v.settle.pump ∧ s.LockedOut .ignitionFail none v))

/-- STOP BURNER by the burner state (Table 1-6), the end of the pilot hold, and the end of the give-up time: where the
burner goes to IDLE, its reason, its actuators' work ended where a sequence runs, and PV closed; where lines are to be
shut, STOPPING with every ADMITTING or OPEN line SHUTTING. When no line is left in ADMITTING, OPEN or SHUTTING, MAIN_FIRING
ends NO_FUEL and STOPPING ends. -/
def Obligations.BurnerStops : Prop :=
  ∀ s : State,
    let sequenceEnded : State → StopReason → State → Prop := fun u reason v =>
      SameBut [.burner, .field, .attention, .shift] u v ∧
      v.burner =
        { u.burner.rested .idle with lastStop := some reason, actuators := v.burner.actuators } ∧
      (∀ a : Fin 2, v.burner.actuators[a] = u.burner.actuators[a].aborted .none) ∧
      v.field = (u.commandValve pv false).field ∧ v.attention = (u.raise .burner).attention ∧
      v.shift = (u.addEvent (.idle reason)).shift
    (∀ tag : Byte, s.Ready →
      let u := s.taken
      (u.burner.state ∈ [.lockout, .idle, .stopping] →
        exec (.stopBurner tag) s = .next (u.replied 0x05 tag .notPermitted [])) ∧
      (u.burner.state ∈ [.purge, .prepare] →
        ∃ v : State, exec (.stopBurner tag) s = .next (v.settle.replied 0x05 tag .done []) ∧ sequenceEnded u .stopRequest v) ∧
      (u.burner.state ∈ [.ignition, .pilot] →
        exec (.stopBurner tag) s = .next ((u.wentIdle .stopRequest).settle.replied 0x05 tag .done [])) ∧
      (u.burner.state ∈ [.mainTrial, .mainFiring] →
        ((∀ l : Fin 6, u.lines[l].state = .shut ∨ u.lines[l].state = .fault) →
          exec (.stopBurner tag) s = .next ((u.wentIdle .stopRequest).settle.replied 0x05 tag .done [])) ∧
        ((∃ l : Fin 6, u.lines[l].state ≠ .shut ∧ u.lines[l].state ≠ .fault) →
          ∃ v : State, exec (.stopBurner tag) s = .next (v.settle.replied 0x05 tag .accepted []) ∧
            v.burner.state = .stopping ∧ v.burner.firingRelay = true ∧ v.valveOpen pv = false ∧
            v.burner.mainTrialAt = none ∧ v.burner.rampFrom = none ∧ v.burner.ceiling = none ∧
            v.attention.request.getLsbD 2 = true ∧
            ∀ l : Fin 6,
              v.lines[l].state =
                if u.lines[l].state = .admitting ∨ u.lines[l].state = .opened then .shutting else u.lines[l].state))) ∧
    (∀ t : Nat, s.resetRun = none → t ≤ s.floorTime →
      (s.burner.state = .pilot → s.burner.pilotHoldAt = some t →
        exec .pilotHoldExpiry s = .next (s.wentIdle .pilotTimeout).settle.pump) ∧
      (s.burner.state = .purge → s.burner.giveUpAt = some t →
        ∃ v : State, exec .giveUpTimerExpiry s = .next v.settle.pump ∧ sequenceEnded s .purgeTimeout v)) ∧
    ((∃ l : Fin 6, s.lines[l].state = .admitting ∨ s.lines[l].state = .opened ∨ s.lines[l].state = .shutting) →
      s.watchLines = s) ∧
    ((∀ l : Fin 6, s.lines[l].state = .shut ∨ s.lines[l].state = .fault) →
      (s.burner.state = .mainFiring → s.watchLines = s.wentIdle .noFuel) ∧
      (s.burner.state = .stopping → s.watchLines = s.wentIdle .stopRequest) ∧
      (s.burner.state ≠ .mainFiring → s.burner.state ≠ .stopping → s.watchLines = s))

/-- The end of the purge takes the burner to PREPARE, both actuators moving to their light-off positions; a flame that has
been proven takes it to PILOT with its hold of ten minutes. The purge timer counts from the moment its conditions hold
together and starts afresh after they fail; the flame proof, flame loss and air loss timers run while their conditions
hold. -/
def Obligations.PurgeCompletesAndFlameProves : Prop :=
  (∀ s : State,
    let b := s.burner
    let timer : Prop → Option Nat → Nat → Option Nat → Prop := fun runs old time new =>
      (runs → new = some (old.getD (s.floorTime + time))) ∧ (¬runs → new = none)
    let counts : Prop :=
      b.state = .purge ∧ s.di 0 = false ∧
        (∀ v : Fin 7, s.di (closedLimit v) = true ∧ s.record (recordOfValve v) = .ok) ∧ s.di 1 = true ∧
        ((s.ai 0).quality = .good ∧ 10 * (b.cfg.purgeAir : Int) ≤ (s.ai 0).value) ∧
        (s.cooler.state = .running ∨ s.cooler.state = .surge) ∧ s.field.rotation.turning = true ∧
        ∀ a : Fin 2, b.actuators[a].position = some 400 ∧ b.actuators[a].verify = .verified
    let t := s.watchBurner
    SameBut [.burner] s t ∧
      t.burner =
        { b with
          purgeSince := t.burner.purgeSince, purgeStarted := t.burner.purgeStarted, flameProofAt := t.burner.flameProofAt
          flameLossAt := t.burner.flameLossAt, airLossAt := t.burner.airLossAt } ∧
      timer counts b.purgeSince 0 t.burner.purgeSince ∧
      (counts → t.burner.purgeStarted = true) ∧ (¬counts → t.burner.purgeStarted = b.purgeStarted) ∧
      timer (b.state = .ignition ∧ b.flame = true) b.flameProofAt 2000 t.burner.flameProofAt ∧
      timer
        (b.flame = false ∧
          (b.state ∈ [.pilot, .mainTrial, .mainFiring] ∨ b.state = .stopping ∧ ∃ l : Fin 6, 0 < s.lines[l].commanded))
        b.flameLossAt (b.cfg.ffrt * 1000) t.burner.flameLossAt ∧
      timer
        (b.state ∈ [.ignition, .pilot, .mainTrial, .mainFiring, .stopping] ∧
          ¬((s.ai 0).quality = .good ∧ 10 * (b.cfg.minAir : Int) ≤ (s.ai 0).value))
        b.airLossAt 3000 t.burner.airLossAt) ∧
  ∀ s : State, s.resetRun = none →
    (∀ t : Nat, s.burner.state = .purge → s.burner.purgeSince = some t → t + s.burner.cfg.purgeTime * 1000 ≤ s.floorTime →
      ∃ v : State, exec .purgeComplete s = .next v.settle.pump ∧ SameBut [.burner, .field, .attention] s v ∧
        v.burner.state = .prepare ∧ v.burner.purgeSince = none ∧ v.burner.purgeStarted = false ∧
        v.burner.giveUpAt = none ∧ v.attention = (s.raise .burner).attention ∧
        ∀ a : Fin 2,
          v.burner.actuators[a].target = some s.burner.cfg.lightOff[a] ∧ v.burner.actuators[a].verify = .unverified ∧
            v.burner.actuators[a].position = s.burner.actuators[a].position ∧
            v.burner.actuators[a].owner = s.burner.actuators[a].owner ∧
            v.burner.actuators[a].motion =
              if s.burner.actuators[a].position = some s.burner.cfg.lightOff[a] then .settling else .moving) ∧
    (∀ t : Nat, s.burner.state = .ignition → s.burner.flameProofAt = some t → t ≤ s.floorTime →
      ∃ v : State, exec .flameProofExpiry s = .next v.settle.pump ∧ SameBut [.burner, .field, .attention] s v ∧
        v.burner.state = .pilot ∧ v.burner.igniter = false ∧ v.burner.firingRelay = true ∧ v.valveOpen pv = true ∧
        v.burner.pilotHoldAt = some (s.floorTime + 600000) ∧ v.burner.ignitionTrialAt = none ∧
        v.burner.flameProofAt = none ∧ v.attention = (s.raise .burner).attention ∧
        v.burner.actuators = s.burner.actuators)

/-- MAIN LIGHT names lines: an empty or unknown set is refused, outside PILOT it is refused with an empty set, and in PILOT
with the set of the lines that fail a condition; otherwise the burner enters MAIN_TRIAL at the light-off ceiling and each
named line begins admission. At the end of the trial with a line OPEN and flame present the burner goes to MAIN_FIRING, and
at each whole second of it the ceiling is formed from the time that has passed. That the set is refused before the state is
looked at is the model's choice, log entry 29, and that a late second catches up to the present one is log entry 34. -/
def Obligations.MainFlameLit : Prop :=
  ∀ s : State,
    (∀ (tag named : Byte), s.Ready →
      let u := s.taken
      let fails : Fin 6 → Prop := fun l =>
        u.lines[l].state ≠ .shut ∨ u.record (recordOfValve (svOf l)) ≠ .ok ∨
          ∀ o ∈ u.lines[l].queue, ∃ cv priority, o.body = .context cv priority
      (named = 0 ∨ 64 ≤ named.toNat → exec (.mainLight tag named) s = .next (u.replied 0x07 tag .badValue [])) ∧
      (named ≠ 0 → named.toNat < 64 →
        (u.burner.state ≠ .pilot → exec (.mainLight tag named) s = .next (u.replied 0x07 tag .notPermitted [0x00#8])) ∧
        (u.burner.state = .pilot → (∃ l : Fin 6, named.getLsbD l.val = true ∧ fails l) →
          ∃ failing : Byte, failing.toNat < 64 ∧
            (∀ l : Fin 6, failing.getLsbD l.val = true ↔ named.getLsbD l.val = true ∧ fails l) ∧
            exec (.mainLight tag named) s = .next (u.replied 0x07 tag .notPermitted [failing])) ∧
        (u.burner.state = .pilot → (∀ l : Fin 6, named.getLsbD l.val = true → ¬fails l) →
          ∃ v : State, exec (.mainLight tag named) s = .next (v.settle.replied 0x07 tag .accepted []) ∧
            SameBut [.burner, .lines, .heat, .field, .attention] u v ∧
            v.burner.state = .mainTrial ∧ v.burner.pilotHoldAt = none ∧
            v.burner.mainTrialAt = some (u.floorTime + u.burner.cfg.mainTrial * 1000) ∧
            v.burner.ceiling = some u.envelope.lightOffHeat ∧ v.valveOpen pv = true ∧
            v.attention = (u.raise .burner).attention ∧
            ∀ l : Fin 6,
              (named.getLsbD l.val = true → v.lines[l].state = .admitting ∧ v.valveOpen (svOf l) = true) ∧
                (named.getLsbD l.val = false →
                  v.lines[l].state = u.lines[l].state ∧ v.valveOpen (svOf l) = u.valveOpen (svOf l)) ∧
                v.lines[l].queue = u.lines[l].queue ∧ v.lines[l].requested = u.lines[l].requested))) ∧
    (s.resetRun = none →
      let maxed : Prop := s.envelope.maxHeat ≤ s.envelope.lightOffHeat
      (∀ t : Nat, s.burner.state = .mainTrial → s.burner.mainTrialAt = some t → t ≤ s.floorTime →
        (∃ l : Fin 6, s.lines[l].state = .opened) → s.burner.flame = true →
        ∃ v : State, exec .mainTrialExpiry s = .next v.settle.pump ∧
          SameBut [.burner, .lines, .heat, .field, .attention, .shift] s v ∧
          v.burner.state = .mainFiring ∧ v.burner.mainTrialAt = none ∧ v.valveOpen pv = false ∧
          v.burner.firingRelay = true ∧
          (maxed → v.burner.ceiling = none ∧ v.burner.rampFrom = none) ∧
          (¬maxed → v.burner.ceiling = some s.envelope.lightOffHeat ∧ v.burner.rampFrom = some s.floorTime) ∧
          v.attention = (s.raise .burner).attention ∧ v.shift = (s.addEvent .mainFiring).shift ∧
          ∀ l : Fin 6, v.lines[l].state = s.lines[l].state ∧ v.lines[l].queue = s.lines[l].queue) ∧
      (∀ t k : Nat, s.burner.state = .mainFiring → s.burner.rampFrom = some t → k = (s.floorTime - t) / 1000 →
        s.burner.rampDone < k →
        let value := s.envelope.lightOffHeat + k * s.envelope.lightOffRamp / 60
        exec .ceilingRampTick s =
          .next (({ s with
            burner :=
              if s.envelope.maxHeat ≤ value then { s.burner with ceiling := none, rampFrom := none, rampDone := 0 }
              else { s.burner with ceiling := some value, rampDone := k } } : State).evaluate.settle.pump)))

/-! ### The actuators -/

/-- HOME, MOVE, STEP and STOP ACTUATOR, their checks in the order of R26 and R29; a request that passes them claims the
actuator and starts its work, and STOP ends the work in progress STOPPED. New work makes verify UNVERIFIED, and an earlier
MISMATCH keeps its part in fixed point 9 until a VERIFIED or a STOPPED or ABORTED end: that reading of R31 is the model's,
log entry 6. The level of the direction output is the model's free value, log entry 5. -/
def Obligations.ActuatorRequests : Prop :=
  ∀ (s : State) (tag : Byte), s.Ready →
    let u := s.taken
    let answer : Nat → Status → Host.Outcome State Fault Refusal := fun type st => .next (u.replied type tag st [])
    let withActuator : Fin 2 → (Actuator → Actuator) → State := fun a f =>
      { u with burner := { u.burner with actuators := upd u.burner.actuators a f } }
    let stepTime : Fin 2 → Nat := fun a => 1000 / u.burner.cfg.stepRate[a]
    let moved : Fin 2 → Nat → State := fun a target =>
      withActuator a fun r =>
        let r :=
          { r with
            owner := .operator, target := some target, verify := .unverified
            mismatchHeld := r.mismatchHeld || decide (r.verify = Verify.mismatch) }
        if r.position = some target then { r with motion := .settling, dueAt := some (u.floorTime + 500) }
        else
          { r with
            motion := .moving, dueAt := some (u.floorTime + stepTime a)
            direction := if r.position.getD 0 < target then Config.awayLevel else !Config.awayLevel }
    (∀ (n count : Byte) (target : BitVec 16), 2 ≤ n.toNat →
      exec (.homeActuator tag n) s = answer 0x08 .badValue ∧ exec (.moveActuator tag n target) s = answer 0x09 .badValue ∧
        exec (.stepActuator tag n count) s = answer 0x0A .badValue ∧
          exec (.stopActuator tag n) s = answer 0x0B .badValue) ∧
    (∀ (n count : Byte) (target : BitVec 16) (a : Fin 2), n.toNat = a.val →
      let r := u.burner.actuators[a]
      let barred : Prop := r.owner = .sequence ∨ u.burner.state = .lockout
      let refused : Status → Prop := fun st =>
        exec (.homeActuator tag n) s = answer 0x08 st ∧ exec (.moveActuator tag n target) s = answer 0x09 st ∧
          exec (.stepActuator tag n count) s = answer 0x0A st
      (barred → refused .notPermitted ∧ exec (.stopActuator tag n) s = answer 0x0B .notPermitted) ∧
      (¬barred → r.motion ≠ .still →
        refused .busy ∧
          exec (.stopActuator tag n) s =
            .next (((withActuator a fun r =>
              { r with
                motion := .still, dueAt := none, verify := .unverified, mismatchHeld := false
                lastOutcome := some .stopped, owner := .none }).raise
              .burner).settle.replied 0x0B tag .done [])) ∧
      (¬barred → r.motion = .still →
        exec (.stopActuator tag n) s = answer 0x0B .done ∧
        (u.di (homeOf a) = false →
          exec (.homeActuator tag n) s =
            .next ((withActuator a fun r =>
              { r with
                owner := .operator, position := none, target := none, verify := .unverified, motion := .homing
                mismatchHeld := r.mismatchHeld || decide (r.verify = Verify.mismatch)
                homeSteps := 0, dueAt := some (u.floorTime + stepTime a)
                direction := !Config.awayLevel }).settle.replied 0x08 tag .accepted [])) ∧
        (u.di (homeOf a) = true →
          exec (.homeActuator tag n) s =
            .next (((withActuator a fun r =>
              { r with
                owner := .none, position := some 0, target := some 0, verify := .verified, motion := .still
                homeSteps := 0, dueAt := none, direction := !Config.awayLevel, homeFault := false, mismatchHeld := false
                lastOutcome := some .done }).raise .burner).settle.replied 0x08 tag .accepted [])) ∧
        (r.position = none →
          exec (.moveActuator tag n target) s = answer 0x09 .notPermitted ∧
            exec (.stepActuator tag n count) s = answer 0x0A .notPermitted) ∧
        (∀ p : Nat, r.position = some p →
          (400 < target.toNat → exec (.moveActuator tag n target) s = answer 0x09 .badValue) ∧
          (target.toNat ≤ 400 →
            exec (.moveActuator tag n target) s = .next ((moved a target.toNat).settle.replied 0x09 tag .accepted [])) ∧
          (count = 0 ∨ 50 < count.toInt.natAbs ∨ (p : Int) + count.toInt < 0 ∨ 400 < (p : Int) + count.toInt →
            exec (.stepActuator tag n count) s = answer 0x0A .badValue) ∧
          (count ≠ 0 → count.toInt.natAbs ≤ 50 → ∀ q : Nat, (q : Int) = (p : Int) + count.toInt → q ≤ 400 →
            exec (.stepActuator tag n count) s = .next ((moved a q).settle.replied 0x0A tag .accepted [])))))

/-- A step moves the counted position by 1 toward the target, the last one beginning the settle, or counts in a home; 440
steps without the switch end a home FAULT; and at the end of a settle the feedback proves the position or not. Where the
work is the sequence's, a fault takes the burner from PURGE or PREPARE to IDLE, and both positions proven in PREPARE take
it to IGNITION. A home ends when the home switch is active, at position 0 and VERIFIED, and in PURGE the sequence's goes on
to 400, its direction output at the level for steps away from home, which is the model's free value, log entry 5. A
VERIFIED end ends the part of an earlier MISMATCH in fixed point 9, and a home that fails leaves it (log entry 6). That a
step's time is formed from the step rate at the step before it is log entry 46. -/
def Obligations.ActuatorWork : Prop :=
  ∀ (s : State) (a : Fin 2), s.resetRun = none →
    let r := s.burner.actuators[a]
    let withActuator : (Actuator → Actuator) → State := fun f =>
      { s with burner := { s.burner with actuators := upd s.burner.actuators a f } }
    let done : Owner → Owner := fun o => if o = .operator then .none else o
    let sequence : Prop := s.burner.state = .purge ∨ s.burner.state = .prepare
    let faulted : State → Actuator → Prop := fun v w =>
      v.burner.state = .idle ∧ v.burner.lastStop = some .actuatorFault ∧
        v.burner.actuators[a] = { w with owner := .none } ∧
        (∀ b : Fin 2, b ≠ a → v.burner.actuators[b] = s.burner.actuators[b].aborted .none) ∧
        v.shift = (s.addEvent (.idle .actuatorFault)).shift ∧ v.attention = (s.raise .burner).attention
    (∀ t p q : Nat, r.motion = .moving → r.position = some p → r.target = some q → p ≠ q → r.dueAt = some t →
      t ≤ s.floorTime →
      let next := if p < q then p + 1 else p - 1
      exec (.actuatorStep a) s =
        .next ((withActuator fun r =>
          if next = q then
            { r with position := some next, motion := .settling, dueAt := some (s.floorTime + 500) }
          else
            { r with
              position := some next, dueAt := some (s.floorTime + 1000 / s.burner.cfg.stepRate[a]) }).settle.pump)) ∧
    (∀ t : Nat, r.motion = .homing → r.homeSteps < 440 → r.dueAt = some t → t ≤ s.floorTime →
      exec (.actuatorStep a) s =
        .next ((withActuator fun r =>
          { r with
            homeSteps := r.homeSteps + 1
            dueAt := some (s.floorTime + 1000 / s.burner.cfg.stepRate[a]) }).settle.pump)) ∧
    (r.motion = .homing → 440 ≤ r.homeSteps →
      let w : Actuator :=
        { r with
          position := none, verify := .unverified, homeFault := true, motion := .still, dueAt := none
          lastOutcome := some .fault, owner := done r.owner }
      (¬sequence → exec (.homeStepLimit a) s = .next (((withActuator fun _ => w).raise .burner).settle.pump)) ∧
      (sequence → ∃ v : State, exec (.homeStepLimit a) s = .next v.settle.pump ∧
        SameBut [.burner, .field, .attention, .shift] s v ∧ faulted v w)) ∧
    (∀ t p : Nat, r.motion = .settling → r.position = some p → r.dueAt = some t → t ≤ s.floorTime →
      let ch := s.ai (feedbackOf a)
      let proven : Prop := ch.quality = .good ∧ (ch.value - (p : Int)).natAbs ≤ s.burner.cfg.tolerance[a]
      let w : Verify → WorkOutcome → Actuator := fun verify outcome =>
        { r with
          verify := verify, mismatchHeld := false, motion := .still, dueAt := none, lastOutcome := some outcome
          owner := done r.owner }
      (proven → s.burner.state ≠ .prepare →
        exec (.actuatorSettleEnd a) s = .next (((withActuator fun _ => w .verified .done).raise .burner).settle.pump)) ∧
      (proven → s.burner.state = .prepare →
        ((∀ b : Fin 2, b ≠ a → s.burner.actuators[b].motion = .still ∧ s.burner.actuators[b].verify = .verified) →
          ∃ v : State, exec (.actuatorSettleEnd a) s = .next v.settle.pump ∧
            SameBut [.burner, .field, .attention, .shift] s v ∧
            v.burner.state = .ignition ∧ v.burner.igniter = true ∧ v.burner.firingRelay = true ∧
            v.valveOpen pv = true ∧
            v.burner.ignitionTrialAt = some (s.floorTime + s.burner.cfg.ignitionTrial * 1000) ∧
            v.burner.actuators[a] = { w .verified .done with owner := .none } ∧
            (∀ b : Fin 2, b ≠ a → v.burner.actuators[b] = { s.burner.actuators[b] with owner := .none }) ∧
            v.shift = (s.addEvent .ignition).shift ∧ v.attention = (s.raise .burner).attention) ∧
        ((∃ b : Fin 2, b ≠ a ∧ (s.burner.actuators[b].motion ≠ .still ∨ s.burner.actuators[b].verify ≠ .verified)) →
          exec (.actuatorSettleEnd a) s =
            .next (((withActuator fun _ => w .verified .done).raise .burner).settle.pump))) ∧
      (¬proven → ¬sequence →
        exec (.actuatorSettleEnd a) s = .next (((withActuator fun _ => w .mismatch .fault).raise .burner).settle.pump)) ∧
      (¬proven → sequence →
        ∃ v : State, exec (.actuatorSettleEnd a) s = .next v.settle.pump ∧
          SameBut [.burner, .field, .attention, .shift] s v ∧ faulted v (w .mismatch .fault))) ∧
    (r.motion ≠ .homing ∨ s.di (homeOf a) = false → s.watchHome a = s) ∧
    (r.motion = .homing → s.di (homeOf a) = true →
      let w : Actuator :=
        { r with
          position := some 0, target := some 0, verify := .verified, homeFault := false, mismatchHeld := false
          motion := .still, dueAt := none, lastOutcome := some .done, owner := done r.owner }
      (¬(s.burner.state = .purge ∧ r.owner = .sequence) →
        s.watchHome a = (withActuator fun _ => w).raise .burner) ∧
      (s.burner.state = .purge → r.owner = .sequence →
        s.watchHome a =
          (withActuator fun _ =>
            { w with
              target := some 400, verify := .unverified, motion := .moving
              dueAt := some (s.floorTime + 1000 / s.burner.cfg.stepRate[a]), direction := Config.awayLevel }).raise
            .burner))

/-! ### The fuel lines -/

/-- POST ORDERS, its checks in the order of R44: accepted orders join the queue together, posted counts them, and the reply
gives the free places as they are after the post, before an order is taken up (the model's choice, log entry 30). That bits
2 to 7 of an order's flags are neither refused nor kept is the model's choice, log entry 44. Where the line takes none of
them up, nothing else of the line's orders changes; a RATE order with ramp 0 that an OPEN line takes up gives its target at
once, and a BATCH order that an OPEN line takes up becomes active with its counts at 0 and the credit at 100. A CONTEXT
order posted to an empty queue gives the line its CV and its priority and retires COMPLETE in any line state, with its
completion record where it asked for one and a CONTEXT_CHANGE event where the list has room. Orders that retire so bring
LOW_WATER where the queue falls to the mark. -/
def Obligations.OrdersPosted : Prop :=
  ∀ (s : State) (tag line : Byte) (orders : List OrderFields), s.Ready →
    let u := s.taken
    let answer : Status → Host.Outcome State Fault Refusal := fun st => .next (u.replied 0x11 tag st [])
    let inside : LineSettings → OrderFields → Prop := fun c o =>
      (o.kind = 0 ∧ c.kind = .continuous ∧ o.at4.toNat ≤ c.maxRate ∧ o.at6.toNat ≤ 60000) ∨
      (o.kind = 1 ∧ 5000 ≤ o.at4.toNat ∧ o.at4.toNat ≤ 40000 ∧ 1 ≤ o.at6.toNat / 256 ∧ o.at6.toNat / 256 ≤ 8) ∨
      (o.kind = 2 ∧ c.kind = .batch ∧ 1 ≤ o.at4.toNat / 256 ∧ 1 ≤ o.at4.toNat % 256 ∧ o.at4.toNat % 256 ≤ 8 ∧
        1 ≤ o.at6.toNat ∧ o.at6.toNat ≤ 2000)
    let order : OrderFields → Order := fun o =>
      { tag := o.tag.toNat, notify := o.flags.getLsbD 0, delay := o.flags.getLsbD 1
        body :=
          if o.kind = 0 then .rate o.at4.toNat o.at6.toNat o.at8.toNat
          else if o.kind = 1 then .context o.at4.toNat (o.at6.toNat / 256)
          else .batch (o.at4.toNat / 256) (o.at4.toNat % 256) o.at6.toNat }
    (orders.length = 0 ∨ 4 < orders.length → exec (.postOrders tag line orders) s = answer .badLength) ∧
    (1 ≤ orders.length → orders.length ≤ 4 →
      (line = 0 ∨ 6 < line.toNat → exec (.postOrders tag line orders) s = answer .badValue) ∧
      (∀ l : Fin 6, line.toNat = l.val + 1 →
        let r := u.lines[l]
        (u.burner.state = .lockout → exec (.postOrders tag line orders) s = answer .notPermitted) ∧
        (u.burner.state ≠ .lockout →
          ((∃ o ∈ orders, ¬inside r.cfg o) → exec (.postOrders tag line orders) s = answer .badValue) ∧
          ((∀ o ∈ orders, inside r.cfg o) →
            (16 < r.queue.length + orders.length → exec (.postOrders tag line orders) s = answer .full) ∧
            (r.queue.length + orders.length ≤ 16 →
              ∃ v : State,
                exec (.postOrders tag line orders) s =
                  .next (v.settle.replied 0x11 tag .done
                    [BitVec.ofNat 8 (16 - r.queue.length - orders.length)]) ∧
                v.lines[l].posted = r.posted + orders.length ∧
                (∀ m : Fin 6, m ≠ l → v.lines[m].queue = u.lines[m].queue ∧ v.lines[m].posted = u.lines[m].posted) ∧
                ((r.queue ≠ [] ∧ r.openEnded = false) ∨
                    (r.queue = [] ∧ r.state ≠ .opened ∧ ∀ o ∈ orders.head?, o.kind ≠ 1) →
                  v = ({ u with
                    lines := upd u.lines l fun r =>
                      { r with
                        queue := r.queue ++ orders.map order, posted := r.posted + orders.length } } : State).evaluate) ∧
                r.LowWaterTaken l (r.queue.length + orders.length) v ∧
                (∀ b : Fin 2, batchOf l = some b → r.queue = [] → r.state = .opened → ∀ o ∈ orders.head?, o.kind = 2 →
                  v.BatchActivated b u.floorTime ∧ v.lines[l].queue = orders.map order) ∧
                (r.queue = [] → r.state = .opened → ∀ o, orders = [o] → o.kind = 0 → o.at6 = 0 →
                  v.lines[l].requested = o.at4.toNat ∧ v.lines[l].queue = [order o] ∧
                    v.lines[l].progress.isSome = true) ∧
                (r.queue = [] → ∀ o rest, orders = o :: rest → o.kind = 1 →
                  r.retired + 1 ≤ v.lines[l].retired ∧ v.lines[l].queue <:+ rest.map order ∧
                  (u.shift.current.events.length < 48 →
                    { time := u.floorTime, kind := .contextChange l o.at4.toNat } ∈ v.shift.current.events) ∧
                  (rest = [] ∨ (r.state ≠ .opened ∧ ∀ q ∈ rest.head?, q.kind ≠ 1) →
                    let ended := completionOf (order o) .complete none u.floorTime none
                    let z := if (order o).notify then r.addCompletion ended else r
                    v.lines[l].cv = o.at4.toNat ∧ v.lines[l].priority = o.at6.toNat / 256 ∧
                      v.lines[l].queue = rest.map order ∧ v.lines[l].retired = r.retired + 1 ∧
                      v.lines[l].completions = z.completions ∧ v.lines[l].overrun = z.overrun)))))))

/-- CLEAR LINE ends the whole queue: the head ABORTED_CLEAR, the others DISCARDED, the counts with them, and the line's
state and requested rate as they were; an OPEN line raises EMPTY, and none raises LOW_WATER. A slot in flight ends ABORTED
(its record and its charge are SlotsRun's), and the gate closes with its order. Each order that asked for it adds its
completion record, in queue order, the oldest lost and the overrun flag set when the list is full, and its notice falls
due. With the queue empty nothing changes. -/
def Obligations.LineCleared : Prop :=
  ∀ (s : State) (tag line : Byte), s.Ready →
    let u := s.taken
    (line = 0 ∨ 6 < line.toNat → exec (.clearLine tag line) s = .next (u.replied 0x12 tag .badValue [])) ∧
    (∀ l : Fin 6, line.toNat = l.val + 1 →
      let r := u.lines[l]
      (r.queue = [] → exec (.clearLine tag line) s = .next (u.settle.replied 0x12 tag .done [])) ∧
      (∀ o rest, r.queue = o :: rest →
        ∃ v : State, exec (.clearLine tag line) s = .next (v.settle.replied 0x12 tag .done []) ∧
          SameBut [.lines, .batches, .heat, .alarm, .attention, .shift] u v ∧
          v.lines[l].queue = [] ∧ v.lines[l].progress = none ∧ v.lines[l].state = r.state ∧
          v.lines[l].requested = r.requested ∧ v.lines[l].shutRamp = r.shutRamp ∧ v.lines[l].posted = r.posted ∧
          v.lines[l].retired = r.retired + 1 ∧ v.lines[l].discarded = r.discarded + rest.length ∧
          v.lines[l].lowWaterFlag = r.lowWaterFlag ∧ v.lines[l].lifetime = (u.abortSlot l).lines[l].lifetime ∧
          (∀ b : Fin 2, batchOf l = some b →
            v.batches[b].slot = none ∧ v.batches[b].last = (u.abortSlot l).batches[b].last ∧
              (∀ slots revs nominal, o.body = .batch slots revs nominal →
                v.batches[b].gateOpen = false ∧ v.batches[b].idle = 0)) ∧
          (r.state = .opened → v.lines[l].emptyFlag = true ∧ v.attention.request.getLsbD 3 = true) ∧
          (∀ m : Fin 6, m ≠ l → v.lines[m].queue = u.lines[m].queue ∧ v.lines[m].state = u.lines[m].state) ∧
          (let p := (u.abortSlot l).lines[l].progress
           let batch : Order → Bool := fun q =>
             (batchOf l).isSome && match q.body with | .batch _ _ _ => true | _ => false
           let ended : Completion :=
            { tag := o.tag, body := o.body, outcome := .abortedClear, delivered := (p.map Progress.delivered).getD 0
              start := p.map Progress.startTime, finish := u.floorTime, cut := (p.map Progress.cut).getD false
              deviation := (p.map Progress.deviation).getD false, counts := u.batchCounts l o }
           let discarded : Order → Completion := fun q =>
            { tag := q.tag, body := q.body, outcome := .discarded, delivered := 0, start := none, finish := u.floorTime
              cut := false, deviation := false, counts := if batch q then some (0, 0, 0) else none }
           let records := (if o.notify then [ended] else []) ++ (rest.filter fun q => q.notify).map discarded
           let z := records.foldl Line.addCompletion r
           let notices := (o :: rest).filter fun q => q.notify
           let atOnce : Order → Bool := fun q => !q.delay || r.cfg.noticeDelay == 0
           v.lines[l].completions = z.completions ∧ v.lines[l].overrun = z.overrun ∧
             ((∀ (b : Fin 2) (w : Slot), batchOf l = some b → u.batches[b].slot = some w → w.phase = .gateDelay) →
               p = r.progress) ∧
             v.lines[l].completionFlag = (r.completionFlag || notices.any atOnce) ∧
             (notices.any atOnce = true → v.attention.request.getLsbD 3 = true) ∧
             v.lines[l].noticeAt =
               match notices.getLast? with
               | none => r.noticeAt
               | some q => if atOnce q then none else some (u.floorTime + r.cfg.noticeDelay * 100))))

/-- OPEN LINE, its checks in the order of R36, begins the line's admission; SHUT LINE is decided by the line's state (Table
2-4): it begins the shut, ends a FAULT, or finds the shut begun. The head of a line that begins its shut ends ABORTED_SHUT,
its completion record added first where it asked for one, and a CONTEXT order behind it becomes the head: it gives the line
its CV and its priority and retires COMPLETE, with a CONTEXT_CHANGE event where the list has room. LOW_WATER is raised where
the queue falls so to the mark. A slot in flight ends ABORTED (its record and its charge are SlotsRun's), and the gate
closes. -/
def Obligations.LineOpenedAndShut : Prop :=
  ∀ (s : State) (tag line : Byte), s.Ready →
    let u := s.taken
    (line = 0 ∨ 6 < line.toNat →
      exec (.openLine tag line) s = .next (u.replied 0x13 tag .badValue []) ∧
        exec (.shutLine tag line) s = .next (u.replied 0x14 tag .badValue [])) ∧
    (∀ l : Fin 6, line.toNat = l.val + 1 →
      let r := u.lines[l]
      let entering : LineState → State := fun st =>
        { u with lines := upd u.lines l fun r => { r with state := st, deviation := false, deviationAt := none } }
      (u.burner.state ≠ .mainFiring ∨ r.state ≠ .shut ∨ u.record (recordOfValve (svOf l)) ≠ .ok →
        exec (.openLine tag line) s = .next (u.replied 0x13 tag .notPermitted [])) ∧
      (u.burner.state = .mainFiring → r.state = .shut → u.record (recordOfValve (svOf l)) = .ok →
        ((∀ o ∈ r.queue, ∃ cv priority, o.body = .context cv priority) →
          exec (.openLine tag line) s = .next (u.replied 0x13 tag .empty [])) ∧
        ((∃ o ∈ r.queue, ∀ cv priority, o.body ≠ .context cv priority) →
          exec (.openLine tag line) s =
            .next ((((entering .admitting).commandValve (svOf l) true).evaluate.settle).replied 0x13 tag .accepted []))) ∧
      (r.state = .shut ∨ r.state = .shutting → exec (.shutLine tag line) s = .next (u.replied 0x14 tag .done [])) ∧
      (r.state = .fault →
        exec (.shutLine tag line) s =
          .next (((entering .shut).addEvent (.lineShut l)).evaluate.settle.replied 0x14 tag .done [])) ∧
      (r.state = .admitting ∨ r.state = .opened →
        ∃ v : State, exec (.shutLine tag line) s = .next (v.settle.replied 0x14 tag .accepted []) ∧
          SameBut [.lines, .batches, .heat, .field, .alarm, .attention, .shift] u v ∧
          v.lines[l].state = .shutting ∧ v.lines[l].requested = r.requested ∧
          r.LowWaterTaken l r.queue.length v ∧ v.lines[l].lifetime = (u.abortSlot l).lines[l].lifetime ∧
          (∀ b : Fin 2, batchOf l = some b →
            v.batches[b].slot = none ∧ v.batches[b].last = (u.abortSlot l).batches[b].last ∧
              v.batches[b].gateOpen = false ∧ v.batches[b].idle = 0) ∧
          (r.queue ≠ [] ∨ r.progress = none → v.lines[l].progress = none) ∧
          v.lines[l].deviation = false ∧ v.lines[l].deviationAt = none ∧
          (r.requested = 0 → v.valveOpen (svOf l) = false ∧ v.lines[l].shutRamp = none) ∧
          (r.requested ≠ 0 →
            v.valveOpen (svOf l) = u.valveOpen (svOf l) ∧
              v.lines[l].shutRamp = some { since := u.floorTime, rate := r.requested, done := 0 }) ∧
          (∀ o rest, r.queue = o :: rest → r.retired + 1 ≤ v.lines[l].retired ∧ v.lines[l].queue <:+ rest ∧
            ∃ later : List Completion,
              let ended := completionOf o .abortedShut (u.abortSlot l).lines[l].progress u.floorTime (u.batchCounts l o)
              let z := ((if o.notify then [ended] else []) ++ later).foldl Line.addCompletion r
              v.lines[l].completions = z.completions ∧ v.lines[l].overrun = z.overrun ∧
                (∀ c ∈ later, c.outcome = .complete ∧ c.finish = u.floorTime) ∧
                ((∀ q ∈ rest.head?, ∀ cv priority, q.body ≠ .context cv priority) →
                  later = [] ∧ v.lines[l].queue = rest ∧ v.lines[l].retired = r.retired + 1) ∧
                (∀ q more cv priority, rest = q :: more → q.body = .context cv priority →
                  r.retired + 2 ≤ v.lines[l].retired ∧ v.lines[l].queue <:+ more ∧
                  (u.shift.current.events.length < 48 →
                    { time := u.floorTime, kind := .contextChange l cv } ∈ v.shift.current.events) ∧
                  ((∀ p ∈ more.head?, ∀ cv priority, p.body ≠ .context cv priority) →
                    v.lines[l].cv = cv ∧ v.lines[l].priority = priority ∧ v.lines[l].queue = more ∧
                      v.lines[l].retired = r.retired + 2 ∧
                      later =
                        if q.notify then
                          [{ tag := q.tag, body := q.body, outcome := .complete, delivered := 0, start := none
                             finish := u.floorTime, cut := false, deviation := false, counts := none }]
                        else []))) ∧
          ∀ m : Fin 6, m ≠ l → v.lines[m].state = u.lines[m].state ∧ v.lines[m].queue = u.lines[m].queue))

/-- The rates of a line in time: an active RATE order's ramp at each whole second, its hold once the target is reached, and
the ramp of a shut down to 0, where the valve is commanded closed. An order that ends so ends COMPLETE, with its completion
record where it asked for one, before those of the orders that follow it at once, and brings LOW_WATER where the queue
falls to the mark. That the value of a falling ramp is truncated whole is the model's choice, log entry 8, and so is that a
late second catches up to the present one, log entry 34. -/
def Obligations.LineRates : Prop :=
  ∀ (s : State) (l : Fin 6), s.resetRun = none →
    let r := s.lines[l]
    let withLine : (Line → Line) → State := fun f => { s with lines := upd s.lines l f }
    let completed : State → Order → Option Progress → List Order → Prop := fun w o p rest =>
      ∃ later : List Completion,
        let ended := completionOf o .complete p s.floorTime none
        let z := ((if o.notify then [ended] else []) ++ later).foldl Line.addCompletion r
        w.lines[l].completions = z.completions ∧ w.lines[l].overrun = z.overrun ∧
          (∀ c ∈ later, c.outcome = .complete ∧ c.finish = s.floorTime) ∧ (rest = [] → later = [])
    (∀ (p : Progress) (o : Order) (rest : List Order) (target ramp hold k : Nat),
      r.progress = some p → r.queue = o :: rest → o.body = .rate target ramp hold →
      (p.holdStart = none → k = (s.floorTime - p.startTime) / 1000 → p.rampDone < k →
        let value :=
          if p.rampStart ≤ target then min target ((60 * p.rampStart + k * ramp) / 60)
          else max target ((60 * p.rampStart - k * ramp) / 60)
        let v :=
          (withLine fun r =>
            { r with
              requested := value
              progress :=
                some { p with
                  rampDone := k, holdStart := if value = target then some s.floorTime else none } }).evaluate
        (value ≠ target ∨ hold ≠ 0 ∨ rest = [] → exec (.rateRampTick l) s = .next v.settle.pump) ∧
        (value = target → hold = 0 → rest ≠ [] →
          ∃ w : State, exec (.rateRampTick l) s = .next w.settle.pump ∧ r.retired + 1 ≤ w.lines[l].retired ∧
            w.lines[l].queue <:+ rest ∧ r.LowWaterTaken l r.queue.length w ∧
            completed w o v.lines[l].progress rest)) ∧
      (∀ t : Nat, p.holdStart = some t → hold ≠ 0 → t + hold * 1000 ≤ s.floorTime →
        ∃ w : State, exec (.holdExpiry l) s = .next w.settle.pump ∧ r.retired + 1 ≤ w.lines[l].retired ∧
          w.lines[l].queue <:+ rest ∧ w.lines[l].state = r.state ∧ r.LowWaterTaken l r.queue.length w ∧
          completed w o (some p) rest ∧
          (rest = [] →
            w.lines[l].progress = none ∧ w.lines[l].requested = r.requested ∧
              (r.state = .opened → w.lines[l].emptyFlag = true ∧ w.attention.request.getLsbD 3 = true)))) ∧
    (∀ (p : ShutRamp) (k : Nat), r.shutRamp = some p → k = (s.floorTime - p.since) / 1000 → p.done < k →
      let value := (60 * p.rate - k * r.cfg.shutRamp) / 60
      let v := (withLine fun r => { r with requested := value, shutRamp := some { p with done := k } }).evaluate
      (value ≠ 0 → exec (.shutRampTick l) s = .next v.settle.pump) ∧
      (value = 0 →
        exec (.shutRampTick l) s =
          .next (({ v with lines := upd v.lines l fun r => { r with shutRamp := none } } : State).commandValve (svOf l)
            false).settle.pump))

/-- A weigh pulse is counted, and on a CONTINUOUS line it delivers grams per pulse; the measured rate is formed at a whole
second from the pulses of the last 10 s and compared with the commanded rate; the deviation timer sets the flag on line and
order, and the notice delay raises COMPLETION. That a pulse of exactly 10 s before is out of the window is the model's
choice, log entry 28, and so is the field of the second last measured, log entry 34. -/
def Obligations.LineMeasures : Prop :=
  ∀ (s : State) (l : Fin 6), s.resetRun = none →
    let r := s.lines[l]
    let withLine : (Line → Line) → State := fun f => { s with lines := upd s.lines l f }
    (∃ v : State, exec (.weighPulse l) s = .next v.settle.pump ∧
      SameBut [.lines, .field, .alarm, .attention, .shift] s v ∧
      (∃ n : Fin 11, n.val = l.val ∧
        v.field = { s.field with counters := upd s.field.counters n fun c => (c + 1) % 4294967296 }) ∧
      (r.cfg.kind = .batch → v.lines = s.lines ∧ v.shift = s.shift) ∧
      (r.cfg.kind = .continuous →
        let grams := r.cfg.gramsPerPulse
        (v.lines =
          upd s.lines l fun r =>
            { r with
              window := r.window ++ [(s.floorTime, grams)], lifetime := r.lifetime + grams
              progress := r.progress.map fun p => { p with delivered := min 4294967295 (p.delivered + grams) } }) ∧
        (s.shift.current.totals.lines[l].mass + grams ≤ 4294967295 →
          v.shift.current.totals.lines[l].mass = s.shift.current.totals.lines[l].mass + grams ∧
            v.shift.current.totals.lines[l].heat = s.shift.current.totals.lines[l].heat + grams * r.cv ∧
              v.shift.store = s.shift.store ∧ v.alarm = s.alarm ∧ v.attention = s.attention))) ∧
    (s.floorTime % 1000 = 0 → r.measuredAt ≠ s.floorTime →
      ∃ w : Line,
        exec (.measuredRateTick l) s = .next (withLine fun _ => w).settle.pump ∧
        w =
          { r with
            window := r.window.filter fun p => s.floorTime < p.1 + 10000
            measuredAt := s.floorTime, measured := w.measured
            deviation := w.deviation, deviationAt := w.deviationAt } ∧
        (r.cfg.kind = .batch → w.measured = 0) ∧
        (r.cfg.kind = .continuous → w.measured = min 60000 ((w.window.map Prod.snd).sum * 9 / 25)) ∧
        (r.cfg.kind = .batch ∨ r.state ≠ .opened → w.deviation = r.deviation ∧ w.deviationAt = r.deviationAt) ∧
        (r.cfg.kind = .continuous → r.state = .opened →
          let limit := r.cfg.deviationLimit * max (10 * r.commanded) r.cfg.maxRate / 1000
          (((w.measured : Int) - r.commanded).natAbs ≤ limit → w.deviation = false ∧ w.deviationAt = none) ∧
          (limit < ((w.measured : Int) - r.commanded).natAbs →
            w.deviation = r.deviation ∧
              w.deviationAt =
                if r.deviation = true ∨ r.deviationAt.isSome = true then r.deviationAt
                else some (s.floorTime + r.cfg.deviationTime * 1000)))) ∧
    (∀ t : Nat, r.deviationAt = some t → t ≤ s.floorTime →
      exec (.deviationTimerExpiry l) s =
        .next (withLine fun r =>
          { r with
            deviation := true, deviationAt := none
            progress := r.progress.map fun p => { p with deviation := true } }).settle.pump) ∧
    (∀ t : Nat, r.noticeAt = some t → t ≤ s.floorTime →
      exec (.noticeDelayExpiry l) s =
        .next ((withLine fun r => { r with noticeAt := none, completionFlag := true }).raise .feed).settle.pump)

/-- The slots of L5 and L6. A BATCH order that becomes active at the head of a line that enters OPEN starts with counts 0
and credit 100. A slot opening adds its share to the credit up to the cap, and the first condition of Table 3-3 that holds
decides the slot. One decided BUSY, NOT_READY or SKIPPED ends at once: its record, the order's count, the shift's count,
and for a miss the consecutive misses with their condition at 3. One that feeds runs through the gate delay, the drop of
0.5 s and the settle of 3 s to the weighing that ends it FED. The order retires COMPLETE when its counts equal its slots. A
slot in flight that is aborted is recorded, with its charge accounted at the nominal mass where the drop was given. That a
charge's mass is delivered before its slot is counted, so that a close by the mass limit leaves the count to the new shift,
is the model's choice, log entry 43. -/
def Obligations.SlotsRun : Prop :=
  ∀ (s : State) (b : Fin 2),
    let l := lineOfBatch b
    let x := s.batches[b]
    let r := s.lines[l]
    let e := s.heat.entries[l]
    let shift := s.shift.current.totals.lines[l]
    let up : Nat → Nat := fun n => min 4294967295 (n + 1)
    let share := if e.requested = 0 then 100 else min 100 (e.allowed * 100 / e.requested)
    let credit := min 199 (x.credit + share)
    let delivered : Nat → Line := fun mass =>
      { r with
        lifetime := r.lifetime + mass
        progress := r.progress.map fun p => { p with delivered := min 4294967295 (p.delivered + mass) } }
    let ended : State → SlotOutcome → Option MissReason → Prop := fun t outcome reason =>
      ∃ z : SlotRecord, t.batches[b].last = some z ∧ z.number = x.opened + 1 ∧ z.outcome = outcome ∧ z.reason = reason ∧
        z.credit = credit ∧ z.openedAt = s.floorTime ∧ z.endedAt = s.floorTime ∧ z.mass = none ∧
        ∀ o rest slots revs nominal, r.queue = o :: rest → o.body = .batch slots revs nominal → z.tag = o.tag
    let missed : State → MissReason → Prop := fun t reason =>
      ended t .missed (some reason) ∧
        s.SlotCounted b
          { x with
            opened := x.opened + 1, credit := credit, missed := x.missed + 1, misses := min 65535 (x.misses + 1)
            batchMissed := x.batchMissed || decide (3 ≤ min 65535 (x.misses + 1)) }
          r t ∧
        t.shift.current.totals.lines[l].missed = up shift.missed
    (∀ o rest slots revs nominal, r.queue = o :: rest → o.body = .batch slots revs nominal →
      (s.openLine l).BatchActivated b s.floorTime ∧ (s.openLine l).lines[l].state = .opened ∧
        (s.openLine l).lines[l].queue = r.queue ∧ (s.openLine l).batches[b].gateOpen = x.gateOpen) ∧
    (x.slot ≠ none → missed (s.openSlot b) .busy) ∧
    (x.slot = none → s.di (readyOf b) = false → missed (s.openSlot b) .notReady) ∧
    (x.slot = none → s.di (readyOf b) = true → credit < 100 →
      ended (s.openSlot b) .skipped none ∧
        s.SlotCounted b { x with opened := x.opened + 1, credit := credit, skipped := x.skipped + 1 } r (s.openSlot b) ∧
        (s.openSlot b).shift.current.totals.lines[l].skipped = up shift.skipped) ∧
    (x.slot = none → s.di (readyOf b) = true → 100 ≤ credit →
      (s.openSlot b).batches[b].credit = credit - 100 ∧ (s.openSlot b).batches[b].opened = x.opened + 1 ∧
      (s.openSlot b).batches[b].gateOpen = true ∧
      ∃ w : Slot, (s.openSlot b).batches[b].slot = some w ∧ w.number = x.opened + 1 ∧ w.openedAt = s.floorTime ∧
        w.credit = credit - 100 ∧
        (x.gateOpen = false → w.phase = .gateDelay ∧ w.endsAt = s.floorTime + r.cfg.gateDelay * 1000) ∧
        (x.gateOpen = true → w.phase = .drop ∧ w.endsAt = s.floorTime + 500 ∧
          (s.openSlot b).batches[b].before = some ((s.ai (scaleOf b)).value, (s.ai (scaleOf b)).quality))) ∧
    (x.slot = none → s.abortSlot l = s) ∧
    (∀ (w : Slot) (o : Order) (rest : List Order) (slots revs nominal : Nat), x.slot = some w → r.queue = o :: rest →
      o.body = .batch slots revs nominal →
      let v := s.abortSlot l
      let dropped : Bool := w.phase ≠ .gateDelay
      let z : SlotRecord :=
        { number := w.number, tag := o.tag, openedAt := w.openedAt, endedAt := s.floorTime, outcome := .aborted
          reason := none, credit := w.credit, mass := if dropped = true then some (nominal * 1000) else none
          estimated := dropped }
      SameBut [.lines, .batches, .alarm, .attention, .shift] s v ∧ v.batches[b] = { x with slot := none, last := some z } ∧
        v.lines[l] = (if dropped = true then delivered (nominal * 1000) else r) ∧
        (dropped = false ∨ shift.mass + nominal * 1000 ≤ 4294967295 →
          v.shift.current.totals.lines[l].aborted = up shift.aborted) ∧
        (dropped = true → 4294967295 < shift.mass + nominal * 1000 → v.shift.current.totals.lines[l].aborted = 1) ∧
        (dropped = true →
          v.shift.store = (s.deliver l (nominal * 1000)).shift.store ∧
            v.shift.current.totals.lines[l].mass = (s.deliver l (nominal * 1000)).shift.current.totals.lines[l].mass)) ∧
    (∀ w : Slot, s.resetRun = none → x.slot = some w → w.endsAt ≤ s.floorTime →
      let ch := s.ai (scaleOf b)
      let withBatch : (Batch → Batch) → State := fun f => { s with batches := upd s.batches b f }
      (w.phase = .gateDelay →
        exec (.gateDelayEnd b) s =
          .next (withBatch fun x =>
            { x with
              before := some (ch.value, ch.quality)
              slot := some { w with phase := .drop, endsAt := s.floorTime + 500 } }).settle.pump) ∧
      (w.phase = .drop →
        exec (.dropPulseEnd b) s =
          .next (withBatch fun x =>
            { x with slot := some { w with phase := .settle, endsAt := s.floorTime + 3000 } }).settle.pump) ∧
      (w.phase = .settle →
        ∃ (v : State) (mass : Nat) (estimated : Bool), exec (.batchSettleEnd b) s = .next v.settle.pump ∧
          v.batches[b].slot = none ∧ v.batches[b].idle = 0 ∧ v.lines[l].lifetime = r.lifetime + mass ∧
          s.SlotCounted b
            { x with slot := none, idle := 0, fed := x.fed + 1, misses := 0, batchMissed := false }
            (delivered mass) v ∧
          v.shift.current.totals.lines[l].fed =
            (if shift.mass + mass ≤ 4294967295 then up shift.fed else 1) ∧
          v.shift.store = (s.deliver l mass).shift.store ∧
          v.shift.current.totals.lines[l].mass = (s.deliver l mass).shift.current.totals.lines[l].mass ∧
          (∃ z : SlotRecord, v.batches[b].last = some z ∧ z.number = w.number ∧ z.outcome = .fed ∧
            z.mass = some mass ∧ z.estimated = estimated ∧ z.endedAt = s.floorTime) ∧
          (∀ before : Int, x.before = some (before, .good) → ch.quality = .good →
            mass = (before - ch.value).toNat * 1000 ∧ estimated = false) ∧
          ((∀ before : Int, x.before ≠ some (before, .good)) ∨ ch.quality ≠ .good →
            estimated = true ∧
              ∀ o rest slots revs nominal, s.lines[l].queue = o :: rest → o.body = .batch slots revs nominal →
                mass = nominal * 1000)))

/-! ### The heat balance -/

/-- An evaluation, whatever period each line formed its batch heat from. The cut order ranks the lines by priority and
within one priority the higher line first. Within the ceiling every line is allowed what it requests. Above it the deficit
is taken in two walks along the cut order, the first down to the floors and the second below them, and the total allowed
heat equals the ceiling. Each line is handed its cut flag and its allowed rate. -/
def Obligations.HeatShared : Prop :=
  ∀ (s : State) (period : Nat → Option Nat),
    let t := s.evaluateAt period
    let asked : Fin 6 → Nat := fun l => t.heat.entries[l].requested
    let given : Fin 6 → Nat := fun l => t.heat.entries[l].allowed
    let margin : Fin 6 → Nat := fun l => asked l - t.heat.entries[l].floor
    let total := asked 0 + asked 1 + asked 2 + asked 3 + asked 4 + asked 5
    let margins := margin 0 + margin 1 + margin 2 + margin 3 + margin 4 + margin 5
    let ceiling := t.heat.effective
    let before : Fin 6 → Fin 6 → Prop := fun l m => t.heat.cutOrder.idxOf l < t.heat.cutOrder.idxOf m
    SameBut [.lines, .heat] s t ∧ t.heat.totalRequested = total ∧ t.heat.cutOrder.length = 6 ∧
    (∀ l m : Fin 6, before l m ↔
      s.lines[l].priority < s.lines[m].priority ∨ (s.lines[l].priority = s.lines[m].priority ∧ m < l)) ∧
    (∀ l : Fin 6, given l ≤ asked l ∧ t.lines[l].cut = decide (given l < asked l) ∧
      (s.lines[l].cfg.kind = .continuous →
        t.lines[l].allowed = if given l < asked l then given l * 3600 / s.lines[l].cv else s.lines[l].requested) ∧
      (s.lines[l].cfg.kind = .batch → t.lines[l].allowed = 0)) ∧
    (total ≤ ceiling → ∀ l, given l = asked l) ∧
    (ceiling < total →
      given 0 + given 1 + given 2 + given 3 + given 4 + given 5 = ceiling ∧
      (total - ceiling ≤ margins →
        (∀ l, asked l - given l ≤ margin l) ∧
          ∀ l m, before l m → given m < asked m → asked l - given l = margin l) ∧
      (margins < total - ceiling →
        (∀ l, given l + margin l ≤ asked l) ∧
          ∀ l m, before l m → given m + margin m < asked m → given l = 0))

/-! ### The cooler -/

/-- START COOLER and STOP COOLER by the cooler state, and the sequence timer that carries a start and a stop through: the
grates start from G4 to G1 and RUNNING begins with the last; the grates of the stop list stop one by one, the fans run on,
and STOPPED follows. Each entry into STOPPING and into STOPPED is a cooler stop: counted in LOCKOUT, without effect in IDLE,
and in every other state an entry of the burner into LOCKOUT with cause COOLER_STOPPED, whose LOCKOUT event stands before
its LINE_SHUT events (the model's choice, log entry 7). STOP COOLER itself is refused outside LOCKOUT and IDLE. -/
def Obligations.CoolerStartsAndStops : Prop :=
  ∀ s : State,
    let changed : State → CoolerState → Cooler → State := fun u st c =>
      (({ u with cooler := c } : State).raise .cooler).addEvent (.coolerState st)
    let atRest : State → Prop := fun u => u.burner.state = .lockout ∨ u.burner.state = .idle
    (∀ tag : Byte, s.Ready →
      let u := s.taken
      let c := u.cooler
      let clamped : Int → Nat := fun v => min c.cfg.bedMax (max c.cfg.bedMin v.toNat)
      (c.state = .stopped → u.di 22 = true →
        exec (.startCooler tag) s = .next (u.replied 0x28 tag .notPermitted [])) ∧
      (c.state = .stopped → u.di 22 = false →
        exec (.startCooler tag) s =
          .next ((changed u .starting
            { c with
              state := .starting, sequence := some (.fanStart, u.floorTime + c.cfg.fanStartDelay * 1000), started := 0
              bedAt := some (u.floorTime + 2000)
              bed :=
                match c.bedMean with
                | some m => clamped (c.cfg.bedBase + c.cfg.bedGain * (m - c.cfg.bedSetpoint))
                | none => clamped c.cfg.bedBase }).settle.replied 0x28 tag .accepted [])) ∧
      (c.state = .starting ∨ c.state = .stopping →
        exec (.startCooler tag) s = .next (u.replied 0x28 tag .busy [])) ∧
      (c.state = .running ∨ c.state = .surge → exec (.startCooler tag) s = .next (u.replied 0x28 tag .done [])) ∧
      (c.state = .stopped ∨ c.state = .stopping → exec (.stopCooler tag) s = .next (u.replied 0x29 tag .done [])) ∧
      (c.state ∈ [.starting, .running, .surge] →
        (¬atRest u → exec (.stopCooler tag) s = .next (u.replied 0x29 tag .notPermitted [])) ∧
        (atRest u →
          ∃ w v : State, exec (.stopCooler tag) s = .next (v.settle.replied 0x29 tag .accepted []) ∧ u.CoolerStopping w ∧
            w.TripTaken .coolerStopped none v))) ∧
    (s.resetRun = none →
      let c := s.cooler
      let turn : Nat → Fin 4 := fun n => if n = 0 then 3 else if n = 1 then 2 else if n = 2 then 1 else 0
      let started : Vector Grate 4 :=
        upd c.grates (turn c.started) fun g => { g with state := if g.state = .fault then .fault else .running }
      (∀ (kind : SequenceTimer) (event : Instr) (t : Nat),
        (kind = .fanStart ∧ event = .fanStartDelayExpiry) ∨ (kind = .stagger ∧ event = .grateStaggerExpiry) →
        c.state = .starting → c.sequence = some (kind, t) → t ≤ s.floorTime →
        (c.started < 3 →
          exec event s =
            .next (({ s with
              cooler :=
                { c with
                  grates := started, started := c.started + 1
                  sequence := some (.stagger, s.floorTime + 5000) } } : State).settle.pump)) ∧
        (c.started = 3 →
          exec event s =
            .next (changed s .running
              { c with
                grates := started, started := 0, sequence := none, history := [], state := .running }).settle.pump)) ∧
      (∀ (t : Nat) (g : Fin 4) (rest : List (Fin 4)), c.state = .stopping → c.sequence = some (.stagger, t) →
        t ≤ s.floorTime → c.stopList = g :: rest →
        exec .grateStaggerExpiry s =
          .next (({ s with
            cooler :=
              { c with
                grates := upd c.grates g fun r => if r.state = .running then { r with state := .still } else r
                stopList := rest
                sequence :=
                  if rest = [] then some (.runOn, s.floorTime + c.cfg.fanRunOn * 1000)
                  else some (.stagger, s.floorTime + 5000) } } : State).settle.pump)) ∧
      (∀ t : Nat, c.sequence = some (.runOn, t) → t ≤ s.floorTime →
        ∃ v : State, exec .fanRunOnExpiry s = .next v.settle.pump ∧
          (changed s .stopped { c with sequence := none, bedAt := none, state := .stopped }).TripTaken .coolerStopped
            none v))

/-- What SET GRATE and SET FAN SPEED store and refuse; the BED update and the end of a surge by the release timer; and what
the cooler forms in each state: the commanded rates and speeds, the SAT-low condition with its hysteresis of 20 degrees, and
the low-current timers, each of 10 s, that start as their conditions begin to hold and stop as they cease. That SET GRATE
with mode BED takes any value is the model's choice, log entry 13, and so is that the ratio of mode FOLLOW is read from two
bytes, and refused above 200, log entry 42. -/
def Obligations.CoolerOutputsFormed : Prop :=
  ∀ s : State,
    (∀ (tag n mode : Byte) (value : BitVec 16), s.Ready →
      let u := s.taken
      (n = 0 ∨ 4 < n.toNat → exec (.setGrate tag n mode value) s = .next (u.replied 0x2A tag .badValue [])) ∧
      (∀ g : Fin 4, n.toNat = g.val + 1 →
        let stored : (Grate → Grate) → Host.Outcome State Fault Refusal := fun f =>
          .next ((({ u with cooler := { u.cooler with grates := upd u.cooler.grates g f } } : State).settle).replied
            0x2A tag .done [])
        let inside : Prop :=
          (mode = 0 ∧ value.toNat ≤ 300) ∨ (mode = 1 ∧ g = 0) ∨ (mode = 2 ∧ g ≠ 0 ∧ value.toNat ≤ 200)
        (mode = 0 → value.toNat ≤ 300 →
          exec (.setGrate tag n mode value) s = stored fun r => { r with mode := .fixed, fixedRate := value.toNat }) ∧
        (mode = 1 → g = 0 → exec (.setGrate tag n mode value) s = stored fun r => { r with mode := .bed }) ∧
        (mode = 2 → g ≠ 0 → value.toNat ≤ 200 →
          exec (.setGrate tag n mode value) s = stored fun r => { r with mode := .follow, ratio := value.toNat }) ∧
        (¬inside → exec (.setGrate tag n mode value) s = .next (u.replied 0x2A tag .badValue []))) ∧
      (n = 0 ∨ 12 < n.toNat ∨ 1000 < value.toNat →
        exec (.setFanSpeed tag n value) s = .next (u.replied 0x2B tag .badValue [])) ∧
      (∀ k : Fin 12, n.toNat = k.val + 1 → value.toNat ≤ 1000 →
        exec (.setFanSpeed tag n value) s =
          .next ((({ u with
            cooler :=
              { u.cooler with
                chambers := upd u.cooler.chambers k fun r => { r with setSpeed := value.toNat } } } : State).settle).replied
            0x2B tag .done []))) ∧
    (let c := s.cooler
     let formed : Nat :=
      match c.bedMean with
      | some m =>
        min c.cfg.bedMax (max c.cfg.bedMin ((c.cfg.bedBase : Int) + c.cfg.bedGain * (m - c.cfg.bedSetpoint)).toNat)
      | none => c.bed
     s.resetRun = none →
      (∀ t : Nat, c.bedAt = some t → t ≤ s.floorTime →
        exec .bedUpdateTick s =
          .next (({ s with cooler := { c with bed := formed, bedAt := some (t + 2000) } } : State).settle.pump)) ∧
      (∀ t : Nat, c.state = .surge → c.releaseAt = some t → t ≤ s.floorTime →
        ∃ v : State, exec .releaseTimerExpiry s = .next v.settle.pump ∧
          SameBut [.lines, .heat, .cooler, .attention, .shift] s v ∧
          v.cooler =
            { c with state := .running, history := [], pulseCount := 0, bed := formed, releaseAt := none } ∧
          v.heat.surge = none ∧ v.attention = (s.raise .cooler).attention ∧
          v.shift = (s.addEvent .surgeEnd).shift)) ∧
    (let c := s.formCooler.cooler
     let minimum : Fin 12 → Nat := fun k => c.cfg.fanMinSpeed[k]
     let sat := s.ai 1
     let limit : Int := s.envelope.satLowLimit
     SameBut [.cooler] s s.formCooler ∧
     c = { s.cooler with lead := c.lead, grates := c.grates, chambers := c.chambers, satLow := c.satLow } ∧
     (sat.quality ≠ .good → c.satLow = false) ∧
     (sat.quality = .good → (sat.value < limit → c.satLow = true) ∧ (limit + 20 ≤ sat.value → c.satLow = false) ∧
       (limit ≤ sat.value → sat.value < limit + 20 → c.satLow = s.cooler.satLow)) ∧
     (c.lead =
       match c.state with
       | .stopped => 0
       | .surge => c.cfg.surgeRate
       | .starting | .running | .stopping => if c.grates[0].mode = .fixed then c.grates[0].fixedRate else c.bed) ∧
     (∀ g : Fin 4,
       c.grates[g] =
         { s.cooler.grates[g] with commanded := c.grates[g].commanded, watch := c.grates[g].watch } ∧
       (c.grates[g].state ≠ .running → c.grates[g].commanded = 0) ∧
       (c.grates[g].state = .running →
         (g = 0 → c.grates[g].commanded = c.lead) ∧
         (g ≠ 0 → c.grates[g].mode = .fixed → c.grates[g].commanded = c.grates[g].fixedRate) ∧
         (g ≠ 0 → c.grates[g].mode = .follow →
           c.grates[g].commanded =
             if c.grates[0].state = .fault then 0 else min 300 (c.lead * c.grates[g].ratio / 100))) ∧
       (c.grates[g].commanded = 0 → c.grates[g].watch = none) ∧
       (c.grates[g].commanded ≠ 0 →
         c.grates[g].watch =
           if s.cooler.grates[g].commanded = 0 then some s.floorTime else s.cooler.grates[g].watch)) ∧
     ∀ k : Fin 12,
       let old := s.cooler.chambers[k]
       let current := s.ai ⟨k.val + 14, by omega⟩
       let low : Prop :=
         0 < c.chambers[k].commanded ∧ current.quality = .good ∧ current.value < (c.cfg.fanThreshold[k] : Int)
       c.chambers[k] =
         { old with
           commanded := c.chambers[k].commanded, lowAt := c.chambers[k].lowAt
           lowExpired := c.chambers[k].lowExpired } ∧
       (c.chambers[k].commanded =
         match c.state with
         | .stopped => 0
         | .starting => minimum k
         | .running | .stopping => max c.chambers[k].setSpeed (minimum k)
         | .surge =>
           if k.val < 4 then max (max c.chambers[k].setSpeed (minimum k)) c.cfg.boostSpeed
           else max c.chambers[k].setSpeed (minimum k)) ∧
       (¬low → c.chambers[k].lowAt = none ∧ c.chambers[k].lowExpired = false) ∧
       (low →
         c.chambers[k].lowExpired = old.lowExpired ∧
           c.chambers[k].lowAt =
             if old.lowExpired = true ∨ old.lowAt.isSome = true then old.lowAt else some (s.floorTime + 10000)))

/-- BLASTERS ON and OFF, a blaster that is due and the end of its pulse: AB1 to AB8 in order, one interval apart, fired
where the air pressure is there and skipped where it is not; a cycle abandoned counts those that are left. That AB1 of a
new cycle ends a pulse of AB8 that is still on is the model's choice, log entry 45. -/
def Obligations.BlastersFire : Prop :=
  ∀ s : State,
    (∀ tag : Byte, s.Ready →
      let u := s.taken
      exec (.blastersOn tag) s =
        .next (({ u with cooler := { u.cooler with blasters := true } } : State).replied 0x2C tag .done []) ∧
      (u.cooler.cycle = none →
        exec (.blastersOff tag) s =
          .next (({ u with cooler := { u.cooler with blasters := false, pulseCount := 0 } } : State).replied 0x2D tag
            .done [])) ∧
      (∀ next due : Nat, u.cooler.cycle = some (next, due) →
        ∃ v : State, exec (.blastersOff tag) s = .next (v.replied 0x2D tag .done []) ∧ SameBut [.cooler, .shift] u v ∧
          v.cooler = { u.cooler with blasters := false, pulseCount := 0, cycle := none, blasterOut := none } ∧
          v.shift.current.totals =
            { u.shift.current.totals with
              blastersSkipped := min 4294967295 (u.shift.current.totals.blastersSkipped + (9 - next)) })) ∧
    (s.resetRun = none →
      (∀ next due : Nat, s.cooler.cycle = some (next, due) → due ≤ s.floorTime →
        ∃ v : State, exec .blasterDue s = .next v.pump ∧ SameBut [.cooler, .shift] s v ∧
          v.cooler.cycle =
            (if next < 8 then some (next + 1, due + s.cooler.cfg.blasterInterval * 1000) else none) ∧
          (s.di 21 = true →
            v.cooler.blasterOut = some (next, s.floorTime + 500) ∧
              v.shift.current.totals =
                { s.shift.current.totals with
                  blastersFired := min 4294967295 (s.shift.current.totals.blastersFired + 1) }) ∧
          (s.di 21 = false →
            v.cooler.blasterOut = s.cooler.blasterOut ∧
              v.shift.current.totals =
                { s.shift.current.totals with
                  blastersSkipped := min 4294967295 (s.shift.current.totals.blastersSkipped + 1) })) ∧
      (∀ n t : Nat, s.cooler.blasterOut = some (n, t) → t ≤ s.floorTime →
        exec .blasterPulseEnd s =
          .next ({ s with cooler := { s.cooler with blasterOut := none } } : State).pump))

/-! ### Output diagnostics -/

/-- A stroke pulse is counted and starts the running watch again. A watch that fails, a low current that lasts, and a valve
proof that runs out latch their kind on the record where the check applies, with a DIAG request where it is new, and take
the grate into FAULT or flag the chamber; where it does not apply nothing latches. A valve watch follows its limits: a
proof is handed to the line, a limit that leaves a proven position latches, and an UNPROVEN valve shown in place is PROVEN
again. That a motion watch's limit is truncated to whole ms is the model's choice, log entry 9, and so is that a kind
already held still takes the grate or the line into FAULT, log entry 23. -/
def Obligations.WatchesLatch : Prop :=
  ∀ s : State, s.resetRun = none →
    let applies : Fin 23 → Bool → Prop := fun r kindMask => s.field.records[r].checked = true ∧ kindMask = true
    let holds : Fin 23 → (FaultKinds → Bool) → Prop := fun r kind => ∃ ks, s.record r = .fault ks ∧ kind ks = true
    (∀ g : Fin 4,
      ∃ v : State, exec (.strokePulse g) s = .next v.settle.pump ∧ SameBut [.cooler, .field, .shift] s v ∧
        (∃ n : Fin 11, n.val = g.val + 6 ∧
          v.field = { s.field with counters := upd s.field.counters n fun c => (c + 1) % 4294967296 }) ∧
        v.cooler =
          { s.cooler with
            grates := upd s.cooler.grates g fun r => { r with watch := r.watch.map fun _ => s.floorTime } } ∧
        v.shift.current.totals =
          { s.shift.current.totals with
            strokes := upd s.shift.current.totals.strokes g fun n => min 4294967295 (n + 1) }) ∧
    (∀ (g : Fin 4) (t : Nat), s.cooler.grates[g].watch = some t →
      t + max 10000 (1800000 / s.cooler.grates[g].commanded) ≤ s.floorTime →
      ∃ v : State, exec (.grateWatchExpiry g) s = .next v.settle.pump ∧
        SameBut [.cooler, .field, .attention] s v ∧
        (applies (recordOfGrate g) s.field.motionCheck →
          (∃ ks, v.record (recordOfGrate g) = .fault ks ∧ ks.noMotion = true) ∧
          v.cooler.grates[g].state = .fault ∧
          (¬holds (recordOfGrate g) FaultKinds.noMotion → v.attention.request.getLsbD 6 = true) ∧
          (s.cooler.grates[g].state ≠ .fault →
            v.cooler.grates[g].commanded = 0 ∧ v.cooler.grates[g].watch = none ∧
              v.attention.request.getLsbD 4 = true)) ∧
        (¬applies (recordOfGrate g) s.field.motionCheck →
          v.field = s.field ∧ v.attention = s.attention ∧
            v.cooler =
              { s.cooler with grates := upd s.cooler.grates g fun r => { r with watch := some s.floorTime } })) ∧
    (∀ (k : Fin 12) (t : Nat), s.cooler.chambers[k].lowAt = some t → t ≤ s.floorTime →
      ∃ v : State, exec (.lowCurrentExpiry k) s = .next v.settle.pump ∧
        SameBut [.cooler, .field, .attention] s v ∧
        v.cooler.chambers[k].lowAt = none ∧ v.cooler.chambers[k].lowExpired = true ∧
        v.cooler.chambers[k].commanded = s.cooler.chambers[k].commanded ∧
        (applies (recordOfFan k) s.field.motionCheck →
          (∃ ks, v.record (recordOfFan k) = .fault ks ∧ ks.noMotion = true) ∧ v.cooler.chambers[k].fault = true ∧
          (¬holds (recordOfFan k) FaultKinds.noMotion → v.attention.request.getLsbD 6 = true)) ∧
        (¬applies (recordOfFan k) s.field.motionCheck →
          v.field = s.field ∧ v.attention = s.attention ∧
            v.cooler.chambers[k].fault = s.cooler.chambers[k].fault)) ∧
    (∀ (n : Fin 7) (t : Nat), s.field.valves[n].phase = .proving → s.field.valves[n].proofAt = some t →
      t ≤ s.floorTime →
      let toOpen := s.field.valves[n].openCommand
      let mask := if toOpen then s.field.openCheck else s.field.closeCheck
      let kind : FaultKinds → Bool := if toOpen then FaultKinds.failToOpen else FaultKinds.failToClose
      ∃ v : State, exec (.valveProofExpiry n) s = .next v.settle.pump ∧
        (applies (recordOfValve n) mask →
          (∃ ks, v.record (recordOfValve n) = .fault ks ∧ kind ks = true) ∧
          (¬holds (recordOfValve n) kind → v.attention.request.getLsbD 6 = true) ∧
          ∀ l : Fin 6, n = svOf l →
            (s.lines[l].state = .admitting ∧ toOpen = true ∨ s.lines[l].state = .shutting →
              v.lines[l].state = .fault ∧ v.lines[l].requested = 0 ∧ v.valveOpen n = false)) ∧
        (¬applies (recordOfValve n) mask →
          v.field.records = s.field.records ∧
          ∀ l : Fin 6, n = svOf l →
            (s.lines[l].state = .admitting ∧ toOpen = true → v.lines[l].state = .opened) ∧
              (s.lines[l].state = .shutting ∧ toOpen = false → v.lines[l].state = .shut))) ∧
    (∀ n : Fin 7,
      let w := s.field.valves[n]
      let closedIn : Bool := s.di (closedLimit n)
      let openIn : Bool := if h : n.val < 6 then s.di ⟨n.val + 10, by omega⟩ else !closedIn
      let shown : Bool := if w.openCommand then openIn && !closedIn else closedIn
      let lost : Bool := if w.openCommand then !openIn else !closedIn
      let mask := if w.openCommand then s.field.openCheck else s.field.closeCheck
      let kind : FaultKinds → Bool := if w.openCommand then FaultKinds.failToOpen else FaultKinds.failToClose
      let inPhase : WatchPhase → State := fun phase =>
        { s with
          field :=
            { s.field with valves := upd s.field.valves n fun w => { w with phase := phase, proofAt := none } } }
      let awaits : Fin 6 → Prop := fun l =>
        (s.lines[l].state = .admitting ∧ w.openCommand = true) ∨ (s.lines[l].state = .shutting ∧ w.openCommand = false)
      let t := s.watchValve n
      (w.phase = .proving → shown = false → t = s) ∧
      (w.phase = .proving → shown = true →
        t.field = (inPhase .proven).field ∧ ((∀ l : Fin 6, n = svOf l → ¬awaits l) → t = inPhase .proven) ∧
          ∀ l : Fin 6, n = svOf l → awaits l →
            t.lines[l].state = if w.openCommand = true then LineState.opened else LineState.shut) ∧
      (w.phase = .proven → lost = false → t = s) ∧
      (w.phase = .proven → lost = true →
        (¬applies (recordOfValve n) mask → t = inPhase .unproven) ∧
        (applies (recordOfValve n) mask →
          (∃ ks, t.record (recordOfValve n) = .fault ks ∧ kind ks = true) ∧
          (¬holds (recordOfValve n) kind → t.attention.request.getLsbD 6 = true) ∧
          ∀ l : Fin 6, n = svOf l →
            (s.lines[l].state = .shutting ∨
                (w.openCommand = true ∧ (s.lines[l].state = .admitting ∨ s.lines[l].state = .opened)) →
              t.lines[l].state = .fault ∧ t.lines[l].requested = 0 ∧ t.valveOpen n = false))) ∧
      (w.phase = .unproven → t = if shown = true then inPhase .proven else s))

/-- CLEAR DIAGNOSTICS of one record: OK, or the kind whose failing condition holds latched again; a grate in FAULT leaves
it by the cooler state, and a chamber's flag clears where its fan does not latch again. A number that names no record is
refused. That the reply carries one state byte for each record is the model's choice, log entry 12. A record that latches
again leaves its fixed point active: for a fan and point 8 that is R102's, and for a valve and point 10 the model's
reading, log entry 35. With all records named, each becomes what it becomes when named alone. -/
def Obligations.DiagnosticsCleared : Prop :=
  ∀ (s : State) (tag n : Byte), s.Ready →
    let u := s.taken
    (23 < n.toNat → exec (.clearDiagnostics tag n) s = .next (u.replied 0x31 tag .badValue [])) ∧
    (∀ r : Fin 23, n.toNat = r.val + 1 →
      ∃ v : State,
        exec (.clearDiagnostics tag n) s =
          .next (v.settle.replied 0x31 tag .done (b1 (v.record r).code)) ∧
        (u.failing r = none →
          SameBut [.cooler, .field] u v ∧
          v.field = { u.field with records := upd u.field.records r fun d => { d with state := .ok } } ∧
          (∀ g : Fin 4, r = recordOfGrate g → u.cooler.grates[g].state = .fault → (u.record r).isFault = true →
            (u.cooler.state = .running ∨ u.cooler.state = .surge → v.cooler.grates[g].state = .running) ∧
            (u.cooler.state = .starting →
              v.cooler.grates[g].state = if 3 < g.val + u.cooler.started then .running else .still) ∧
            (u.cooler.state = .stopping ∨ u.cooler.state = .stopped → v.cooler.grates[g].state = .still)) ∧
          (∀ k : Fin 12, r = recordOfFan k → (u.record r).isFault = true → v.cooler.chambers[k].fault = false) ∧
          ((u.record r).isFault = false → v.cooler = u.cooler)) ∧
        (∀ kind, u.failing r = some kind →
          (u.checkApplies r kind = true →
            v.record r = .fault (FaultKinds.none.add kind) ∧ v.attention.request.getLsbD 6 = true ∧
              (r.val < 7 → v.fixedCondition 10 = true) ∧
              (11 ≤ r.val →
                SameBut [.cooler, .field, .attention] u v ∧ v.fixedCondition 8 = true ∧
                  ∀ k : Fin 12, r = recordOfFan k → v.cooler.chambers[k].fault = true)) ∧
          (u.checkApplies r kind = false → v.record r = .ok ∧ v.attention = u.attention))) ∧
    (n = 0 →
      ∃ v : State,
        exec (.clearDiagnostics tag n) s =
          .next (v.settle.replied 0x31 tag .done
            (((List.finRange 23).map fun r => b1 (v.record r).code).flatten)) ∧
        ∀ r : Fin 23,
          let latches : Prop := ∃ kind, u.failing r = some kind ∧ u.checkApplies r kind = true
          (¬latches → v.record r = .ok) ∧
          (∀ kind, u.failing r = some kind → u.checkApplies r kind = true →
            v.record r = .fault (FaultKinds.none.add kind) ∧ v.attention.request.getLsbD 6 = true) ∧
          (∀ k : Fin 12, r = recordOfFan k →
            (latches → v.cooler.chambers[k].fault = true) ∧
              (¬latches → (u.record r).isFault = true → v.cooler.chambers[k].fault = false)))

/-! ### Field signals -/

/-- A valid scan gives every channel its value and quality, is counted and starts the scan timer; an ignored scan is
counted and changes no channel; the scan timer's expiry makes every channel STALE and begins the sensor link fault. Each
forms the bed mean: in RUNNING a mean above the surge level, or risen within the window, begins a surge, and in SURGE the
release timer runs while the mean is below the release level. The image takes the owners' values, and a change of one, also
of a commanded rate that is back at its value within the event, is noted for the next frame. A Drive Link frame carries the
image as it stands and counts up. That the bed mean and the surge come before what settles is the model's choice, log entry
22; that a frame can begin at once at a change is log entry 16, that the forming which begins a surge starts no release
timer is log entry 37, and that SCAN_GAP_TIMEOUT counts a frame also where none is held past its gap is log entry 15. -/
def Obligations.ScansAndFrames : Prop :=
  ∀ s : State, s.resetRun = none →
    let meanOfBed : Option Int :=
      let good := [s.ai 2, s.ai 3, s.ai 4, s.ai 5].filter fun ch => ch.quality = .good
      if good = [] then none else some ((good.map Channel.value).sum.tdiv good.length)
    let c := s.cooler
    let history : List (Nat × Int) :=
      match meanOfBed with
      | some m => (c.history ++ [(s.floorTime, m)]).filter fun e => s.floorTime ≤ e.1 + c.cfg.surgeWindow * 1000
      | none => c.history
    let begins : Int → Prop := fun m =>
      (c.cfg.surgeLevel : Int) < m ∨ ∃ e ∈ history, e.2 + (c.cfg.surgeRise : Int) ≤ m
    let formed : State := { s with cooler := { c with bedMean := meanOfBed, history := history } }
    (c.state ∈ [.stopped, .starting, .stopping] → s.formBedMean = formed) ∧
    (c.state = .running → (∀ m, meanOfBed = some m → ¬begins m) → s.formBedMean = formed) ∧
    (∀ m, c.state = .running → meanOfBed = some m → begins m →
      let t := s.formBedMean
      let left := match c.cycle with | some (next, _) => 9 - next | none => 0
      SameBut [.lines, .heat, .cooler, .attention, .shift] s t ∧
        t.cooler =
          { c with
            bedMean := meanOfBed, history := history, state := .surge, releaseAt := none, pulseCount := 0
            cycle := none, blasterOut := if c.cycle.isSome then none else c.blasterOut } ∧
        t.heat.surge = some (s.heat.totalCommanded * (100 - s.envelope.surgeCutback) / 100) ∧
        t.attention = (s.raise .cooler).attention ∧
        t.shift.current.events = (s.addEvent .surgeStart).shift.current.events ∧
        t.shift.current.totals.surges = min 4294967295 (s.shift.current.totals.surges + 1) ∧
        (c.cycle.isSome = true →
          t.shift.current.totals.blastersSkipped = min 4294967295 (s.shift.current.totals.blastersSkipped + left))) ∧
    (c.state = .surge →
      s.formBedMean =
        { s with
          cooler :=
            { c with
              bedMean := meanOfBed, history := history
              releaseAt :=
                match meanOfBed with
                | some m =>
                  if m < (c.cfg.releaseLevel : Int) then
                    some (c.releaseAt.getD (s.floorTime + c.cfg.releaseTime * 1000))
                  else none
                | none => none } }) ∧
    (∀ scan : Vector ScanEntry 32,
      ∃ v : State, exec (.scanFrame scan) s = .next v.formBedMean.settle.pump ∧ SameBut [.field, .attention] s v ∧
        (∀ n : Fin 32,
          v.field.channels[n] =
            { value := scan[n].value.toInt, quality := if scan[n].bad then .bad else .good }) ∧
        v.field =
          { s.field with
            channels := v.field.channels, validScans := (s.field.validScans + 1) % 4294967296
            lastScan := some s.floorTime, scanAt := some (s.floorTime + 3 * s.field.cfg.scanPeriod)
            linkFault := false } ∧
        v.attention = if s.field.linkFault then (s.raise .diag).attention else s.attention) ∧
    (let ignored : State :=
      { s with
        field :=
          { s.field with ignoredScans := (s.field.ignoredScans + 1) % 4294967296, receiver := .hunting } }
     exec .scanIgnored s = .next ignored.pump ∧
       exec .scanGapTimeout s =
         .next ({ ignored with
          field :=
            { ignored.field with
              receiver :=
                match s.field.receiver with
                | .hunting => .hunting
                | .inFrame buffer last =>
                  if last + 5 < s.floorTime then .hunting else .inFrame buffer last } } : State).pump) ∧
    (let formed : State :=
      { s with
        heat := { s.heat with ratesChanged := false }
        field :=
          { s.field with image := s.ownerImage, changedAt := some (s.field.changedAt.getD s.floorTime) } }
     (s.field.image ≠ s.ownerImage ∨ s.heat.ratesChanged = true → s.formImage = formed) ∧
       (s.field.image = s.ownerImage → s.heat.ratesChanged = false → s.formImage = s)) ∧
    (∀ t : Nat, s.field.scanAt = some t → t ≤ s.floorTime →
      ∃ v : State, exec .scanTimeout s = .next v.formBedMean.settle.pump ∧ SameBut [.field, .attention] s v ∧
        (∀ n : Fin 32, v.field.channels[n] = { s.field.channels[n] with quality := .stale }) ∧
        v.field = { s.field with channels := v.field.channels, scanAt := none, linkFault := true } ∧
        v.attention = (s.raise .diag).attention) ∧
    (let begun : State :=
      { s with
        field :=
          { s.field with
            frameCount := (s.field.frameCount + 1) % 256, frameAt := s.floorTime, frameValues := s.field.image
            changedAt := none } }
     (s.field.changedAt ≠ none → exec .driveFrameBegin s = .next begun.pump) ∧
       (s.field.frameAt + 1000 ≤ s.floorTime → exec .driveFrameRefresh s = .next begun.pump))

/-- A raw level that differs from the debounced level starts the debounce timer, or with debounce time 0 is accepted at
once, and one that returns stops it; the timer's expiry accepts the raw level. An accepted flame scanner change is voted
on. The E-stop input that becomes active is counted in LOCKOUT and trips the burner in every other state. The local stop
that becomes active takes a cooler in STARTING, RUNNING or SURGE into STOPPING, which the burner takes as a cooler stop. A
doser ready input that goes inactive in the gate delay ends its slot MISSED, READY_LOST, and the slot is counted. That the
LOCKOUT event of a trip stands before its LINE_SHUT events is the model's choice, log entry 7. -/
def Obligations.InputsDebounced : Prop :=
  ∀ (s : State) (n : Fin 24) (level : Bool), s.resetRun = none →
    let d := s.field.inputs[n]
    let withInput : (Input → Input) → State := fun f =>
      { s with field := { s.field with inputs := upd s.field.inputs n f } }
    let time : Nat := if n = 0 then 5 else s.field.cfg.debounce.toList.getD (n.val - 1) 0
    let accepted : State → Prop := fun v =>
      let t := withInput fun _ => { raw := level, level := level, dueAt := none }
      v.field.inputs = t.field.inputs ∧ (n ∉ [0, 2, 3, 19, 20, 22] → v = t) ∧
      (n = 2 ∨ n = 3 → SameBut [.burner] t v ∧
        v.burner =
          { s.burner with
            flame :=
              match s.burner.cfg.voting with
              | .oneOfTwo => v.di 2 || v.di 3
              | .twoOfTwo => v.di 2 && v.di 3 }) ∧
      (n = 0 ∨ n = 22 → level = false → v = t) ∧
      (n = 0 → level = true →
        (s.burner.state = .lockout →
          v = { t with burner := { s.burner with claims := min 65535 (s.burner.claims + 1) } }) ∧
        (s.burner.state ≠ .lockout → t.LockedOut .estopInput none v)) ∧
      (n = 22 → level = true →
        (s.cooler.state ∈ [.stopped, .stopping] → v = t) ∧
        (s.cooler.state ∈ [.starting, .running, .surge] →
          ∃ w : State, t.CoolerStopping w ∧ w.TripTaken .coolerStopped none v)) ∧
      (∀ b : Fin 2, n = readyOf b →
        let x := s.batches[b]
        let l := lineOfBatch b
        (level = true ∨ (∀ w, x.slot = some w → w.phase ≠ .gateDelay) → v = t) ∧
        (∀ w : Slot, level = false → x.slot = some w → w.phase = .gateDelay →
          s.SlotCounted b
            { x with
              slot := none, missed := x.missed + 1, misses := min 65535 (x.misses + 1)
              batchMissed := x.batchMissed || decide (3 ≤ min 65535 (x.misses + 1)) }
            s.lines[l] v ∧
          v.shift.current.totals.lines[l].missed = min 4294967295 (s.shift.current.totals.lines[l].missed + 1) ∧
          (∃ z : SlotRecord, v.batches[b].last = some z ∧ z.number = w.number ∧ z.outcome = .missed ∧
            z.reason = some .readyLost ∧ z.openedAt = w.openedAt ∧ z.endedAt = s.floorTime ∧ z.credit = w.credit ∧
            z.mass = none ∧
            ∀ o rest slots revs mass, s.lines[l].queue = o :: rest → o.body = .batch slots revs mass → z.tag = o.tag)))
    (d.raw = level → exec (.diRawChange n level) s = .next s.settle.pump) ∧
    (d.raw ≠ level → d.level = level →
      exec (.diRawChange n level) s =
        .next (withInput fun d => { d with raw := level, dueAt := none }).settle.pump) ∧
    (d.raw ≠ level → d.level ≠ level → time ≠ 0 →
      exec (.diRawChange n level) s =
        .next (withInput fun d => { d with raw := level, dueAt := some (s.floorTime + time) }).settle.pump) ∧
    (d.raw ≠ level → d.level ≠ level → time = 0 →
      ∃ v : State, exec (.diRawChange n level) s = .next v.settle.pump ∧ accepted v) ∧
    (∀ t : Nat, d.dueAt = some t → t ≤ s.floorTime → d.raw = level →
      ∃ v : State, exec (.debounceExpiry n) s = .next v.settle.pump ∧ accepted v)

/-- An index pulse is counted and sets the rotation monitor: the first is held, the next makes it TURNING with the time
between them as the period; and with no BATCH order active and the blasters off nothing more but the evaluations. The
period is handed to L5 and to L6, and each has an evaluation of its own: in the first L5 has the new period and L6 the old
one, and in the second both have the new one; so it is when the stop timer ends the period. With the monitor TURNING an
active BATCH order takes it: while a slot is left to open the pulse is counted, and at each multiple of the revolutions per
slot a slot opens; then the gate's idle count, which at 2 closes the gate. The stop timer forgets the pulse, closes both
gates and ends a blaster cycle. That L5 takes the period and the pulse before L6, and both take the pulse before the
blasters, is the model's choice, log entry 41; that AB1 is not decided within the pulse is log entry 27, and that the idle
count runs with the gate CLOSED too is log entry 32. That a second pulse in STOPPED makes the monitor TURNING also at the
instant of the stop timer's expiry is log entry 47. -/
def Obligations.RotationMonitored : Prop :=
  ∀ s : State, s.resetRun = none →
    let handed : State → State := fun u =>
      (u.evaluateAt fun l => if l = 4 then u.field.rotation.period else s.field.rotation.period).evaluate
    (∃ v : State, exec .indexPulse s = .next v.settle.pump ∧
      v.field =
        { s.field with
          counters := upd s.field.counters 10 fun c => (c + 1) % 4294967296
          rotation :=
            match s.field.rotation.last with
            | none =>
              { s.field.rotation with
                last := some s.floorTime, stopAt := some (s.floorTime + s.field.cfg.kilnStopTime * 1000) }
            | some t =>
              { turning := true, last := some s.floorTime
                stopAt := some (s.floorTime + s.field.cfg.kilnStopTime * 1000)
                period := some (max 1 (s.floorTime - t)) } } ∧
      (s.field.rotation.last = none → s.field.rotation.turning = false →
        v = handed { s with field := v.field }) ∧
      ((∀ l : Fin 6, s.lines[l].progress = none) → s.cooler.blasters = false →
        v = handed { s with field := v.field }) ∧
      (s.field.rotation.last ≠ none ∨ s.field.rotation.turning = true →
        v = (((handed { s with field := v.field }).batchPulse 0).batchPulse 1).blasterPulse) ∧
      (s.field.rotation.last ≠ none → s.cooler.blasters = true → s.cooler.state = .running →
        (s.cooler.pulseCount + 1 < s.cooler.cfg.blasterRevs → v.cooler.pulseCount = s.cooler.pulseCount + 1) ∧
        (s.cooler.cfg.blasterRevs ≤ s.cooler.pulseCount + 1 →
          v.cooler.pulseCount = 0 ∧
            v.cooler.cycle = if s.cooler.cycle.isSome then s.cooler.cycle else some (1, s.floorTime)))) ∧
    (∀ b : Fin 2,
      let x := s.batches[b]
      let r := s.lines[lineOfBatch b]
      let withBatch : State → (Batch → Batch) → State := fun u f => { u with batches := upd u.batches b f }
      let served : State → State := fun u =>
        withBatch u fun x =>
          if x.slot.isSome then x
          else if x.idle = 0 then { x with idle := 1 } else { x with gateOpen := false, idle := 0 }
      ((r.state ≠ .opened ∨ r.progress = none ∨
          ∀ o rest slots revs mass, r.queue = o :: rest → o.body ≠ .batch slots revs mass) →
        s.batchPulse b = s) ∧
      (∀ o rest slots revs mass, r.state = .opened → r.progress ≠ none → r.queue = o :: rest →
        o.body = .batch slots revs mass →
        let counted := withBatch s fun x => { x with indexCount := x.indexCount + 1 }
        (slots ≤ x.opened → s.batchPulse b = served s) ∧
        (x.opened < slots → (x.indexCount + 1) % revs ≠ 0 → s.batchPulse b = served counted) ∧
        (x.opened < slots → (x.indexCount + 1) % revs = 0 → s.batchPulse b = served (counted.openSlot b)))) ∧
    (∀ t : Nat, s.field.rotation.stopAt = some t → t ≤ s.floorTime →
      ∃ v : State, exec .kilnStopTimerExpiry s = .next v.settle.pump ∧
        v.field =
          { s.field with rotation := { turning := false, last := none, stopAt := none, period := none } } ∧
        (s.field.rotation.turning = false → v = { s with field := v.field }) ∧
        (s.field.rotation.turning = true →
          (∀ b : Fin 2, v.batches[b] = { s.batches[b] with gateOpen := false, idle := 0 }) ∧
            v.cooler.cycle = none ∧ v.cooler.pulseCount = 0 ∧
              v.lines = (handed { s with field := v.field }).lines ∧ v.heat = (handed { s with field := v.field }).heat ∧
              SameBut [.lines, .batches, .heat, .cooler, .field, .shift] s v))

/-! ### Alarms -/

/-- ACKNOWLEDGE of a point and of a class, SHELVE, UNSHELVE, DISABLE and ENABLE: what each refuses, and the state that the
point enters. ACKNOWLEDGE of a class takes each of its points from RAISED to ACKED and from RETURNED to NORMAL or
SUPPRESSED, and answers how many it changed. The points a request does not name keep their state, but for a flood point
raised with them. That a target byte of 1 in the point's form is refused is the model's choice, log entry 14, and so is
that ENABLE forms the condition of an ANALOG point from the channel's held value, log entry 17. -/
def Obligations.AlarmsAnswered : Prop :=
  ∀ (s : State) (tag : Byte), s.Ready →
    let u := s.taken
    let answer : Nat → Status → List Byte → Host.Outcome State Fault Refusal := fun type st content =>
      .next (u.replied type tag st content)
    let atRest : Prop := u.burner.state = .lockout ∨ u.burner.state = .idle
    let othersKept : Fin 96 → State → Prop := fun i v =>
      ∀ j : Fin 96, j ≠ i → j ≠ 12 → v.alarm.points[j] = u.alarm.points[j]
    (∀ target point : Byte, target ≠ 0 ∨ point = 0 ∨ 96 < point.toNat →
      exec (.acknowledgePoint tag target point) s = answer 0x3A .badValue []) ∧
    (∀ cls : Byte,
      (4 ≤ cls.toNat → exec (.acknowledgeClass tag cls) s = answer 0x3A .badValue []) ∧
      (cls = 3 → exec (.acknowledgeClass tag cls) s = .next (u.settle.replied 0x3A tag .done [0x00#8])) ∧
      (cls.toNat < 4 →
        ∃ (v : State) (n : Nat), exec (.acknowledgeClass tag cls) s = .next (v.settle.replied 0x3A tag .done (b1 n)) ∧
          let changes : Fin 96 → Bool := fun i =>
            u.alarm.points[i].defn.cls.ctorIdx = cls.toNat ∧ cls.toNat < 3 ∧
              (u.alarm.points[i].state = .raised ∨ u.alarm.points[i].state = .returned)
          n = (List.finRange 96).countP changes ∧
          ∀ i : Fin 96,
            let p := u.alarm.points[i]
            v.alarm.points[i] =
              if changes i = true then
                { p with
                  lastChange := some u.floorTime
                  state :=
                    if p.state = .raised then .acked
                    else if u.groupHolds p.defn.group then .suppressed else .normal }
              else p)) ∧
    (∀ point : Byte, point = 0 ∨ 96 < point.toNat →
      (∀ minutes, exec (.shelve tag point minutes) s = answer 0x3B .badValue []) ∧
        exec (.unshelve tag point) s = answer 0x3C .badValue [] ∧
          exec (.disable tag point) s = answer 0x3D .badValue [] ∧
            exec (.enable tag point) s = answer 0x3E .badValue []) ∧
    (∀ (point : Byte) (i : Fin 96), point.toNat = i.val + 1 →
      let p := u.alarm.points[i]
      let suppressed : Prop := u.groupHolds p.defn.group = true
      let entered : State → PointState → Prop := fun v st =>
        v.alarm.points[i].state = st ∧ v.alarm.points[i].lastChange = some u.floorTime ∧
          v.alarm.points[i].defn = p.defn ∧ othersKept i v
      let barred : Prop := p.defn.cls = .trip ∧ ¬atRest
      (p.defn.cls = .record ∨ (p.state ≠ .raised ∧ p.state ≠ .returned) →
        exec (.acknowledgePoint tag 0 point) s = .next (u.settle.replied 0x3A tag .done [0x00#8])) ∧
      (p.defn.cls ≠ .record → p.state = .raised ∨ p.state = .returned →
        ∃ v : State, exec (.acknowledgePoint tag 0 point) s = .next (v.settle.replied 0x3A tag .done [0x01#8]) ∧
          (p.state = .raised → entered v .acked) ∧
          (p.state = .returned → suppressed → entered v .suppressed) ∧
          (p.state = .returned → ¬suppressed → entered v .normal)) ∧
      (∀ minutes : BitVec 16,
        (minutes = 0 ∨ 480 < minutes.toNat → exec (.shelve tag point minutes) s = answer 0x3B .badValue []) ∧
        (1 ≤ minutes.toNat → minutes.toNat ≤ 480 →
          (p.state = .disabled ∨ p.state = .suppressed ∨ barred →
            exec (.shelve tag point minutes) s = answer 0x3B .notPermitted []) ∧
          (p.state ≠ .disabled → p.state ≠ .suppressed → ¬barred →
            (p.state ≠ .shelved → 16 ≤ u.alarm.shelf.length →
              exec (.shelve tag point minutes) s = answer 0x3B .full []) ∧
            (p.state = .shelved ∨ u.alarm.shelf.length < 16 →
              ∃ v : State, exec (.shelve tag point minutes) s = .next (v.settle.replied 0x3B tag .done []) ∧
                v.alarm.points[i].state = .shelved ∧
                v.alarm.points[i].expiry = some (u.floorTime + minutes.toNat * 60000) ∧
                (∀ j e, (j, e) ∈ v.alarm.shelf ↔
                  (j ≠ i ∧ (j, e) ∈ u.alarm.shelf) ∨ (j = i ∧ e = u.floorTime + minutes.toNat * 60000)) ∧
                v.shift.current.totals.shelves = min 4294967295 (u.shift.current.totals.shelves + 1) ∧
                othersKept i v)))) ∧
      (p.state ≠ .shelved → exec (.unshelve tag point) s = answer 0x3C .done []) ∧
      (p.state = .shelved →
        ∃ v : State, exec (.unshelve tag point) s = .next (v.settle.replied 0x3C tag .done []) ∧
          v.alarm.points[i].expiry = none ∧ (∀ e, (i, e) ∉ v.alarm.shelf) ∧
          (suppressed → entered v .suppressed) ∧ (¬suppressed → p.active = true → entered v .raised) ∧
          (¬suppressed → p.active = false → entered v .normal)) ∧
      (p.state = .disabled → exec (.disable tag point) s = answer 0x3D .done []) ∧
      (p.state ≠ .disabled → barred → exec (.disable tag point) s = answer 0x3D .notPermitted []) ∧
      (p.state ≠ .disabled → ¬barred →
        ∃ v : State, exec (.disable tag point) s = .next (v.settle.replied 0x3D tag .done []) ∧
          entered v .disabled ∧ v.alarm.points[i].condition = false ∧ v.alarm.points[i].active = false ∧
          v.alarm.points[i].delayAt = none ∧ v.alarm.points[i].expiry = none ∧ ∀ e, (i, e) ∉ v.alarm.shelf) ∧
      (p.state ≠ .disabled → exec (.enable tag point) s = answer 0x3E .done []) ∧
      (p.state = .disabled →
        ∃ v : State, exec (.enable tag point) s = .next (v.settle.replied 0x3E tag .done []) ∧ othersKept i v ∧
          (suppressed → v.alarm.points[i].state = .suppressed) ∧
          (¬suppressed → u.conditionOf i { p with condition := false } = false → v.alarm.points[i].state = .normal) ∧
          (¬suppressed → u.conditionOf i { p with condition := false } = true →
            v.alarm.points[i].condition = true ∧
            (p.defn.onDelay = 0 → v.alarm.points[i].state = .raised ∧ v.alarm.points[i].active = true) ∧
            (p.defn.onDelay ≠ 0 →
              v.alarm.points[i].state = .normal ∧ v.alarm.points[i].active = false ∧
                v.alarm.points[i].delayAt = some (u.floorTime + p.defn.onDelay * 1000)))))

/-- The conditions of the points and what they set going, and the timers of the alarm unit: the delays of a point, the
shelf, the review of a flood under the threshold that held at the latest raise, and the link silence. A change of the
condition starts or stops a delay, or acts at once with delay 0; a change of the suppression group acts on NORMAL and
SUPPRESSED points; and a condition handed within the event is taken before the points follow the state that the owners
hand. The order of the points is the model's choice, log entry 10, and that the part of an actuator's MISMATCH in fixed
point 9 outlasts the start of new work is its reading of R31, log entry 6. -/
def Obligations.AlarmTimersExpire : Prop :=
  (∀ s : State,
    (s.fixedCondition 3 = true ↔ s.burner.state = .lockout ∧
      ∃ f, s.burner.firstOut = some f ∧ f.cause ≠ .powerRestored ∧ f.cause ≠ .restarted) ∧
    (s.fixedCondition 4 = true ↔
      s.burner.state = .purge ∧ s.burner.purgeStarted = true ∧ s.burner.purgeSince = none) ∧
    (s.fixedCondition 5 = true ↔ s.link.silent = true) ∧ (s.fixedCondition 6 = true ↔ s.heat.heatCut = true) ∧
    (s.fixedCondition 7 = true ↔ s.cooler.state = .surge) ∧
    (s.fixedCondition 8 = true ↔ ∃ r : Fin 23, 7 ≤ r.val ∧ ∃ ks, s.record r = .fault ks) ∧
    (s.fixedCondition 9 = true ↔
      ∃ a : Fin 2,
        s.burner.actuators[a].homeFault = true ∨ s.burner.actuators[a].verify = .mismatch ∨
          s.burner.actuators[a].mismatchHeld = true) ∧
    (s.fixedCondition 10 = true ↔ ∃ r : Fin 23, r.val < 7 ∧ s.record r ≠ .ok) ∧
    (s.fixedCondition 11 = true ↔ ∃ l : Fin 6, s.lines[l].deviation = true) ∧
    (s.fixedCondition 12 = true ↔ ∃ b : Fin 2, s.batches[b].batchMissed = true) ∧
    (s.fixedCondition 13 = true ↔ s.alarm.flood = true) ∧ (s.fixedCondition 15 = true ↔ s.field.linkFault = true) ∧
    (s.fixedCondition 16 = true ↔ ∃ l : Fin 6, s.lines[l].state = .fault) ∧
    s.groupHolds .none = false ∧ (s.groupHolds .kilnStopped = true ↔ s.field.rotation.turning = false) ∧
    (s.groupHolds .coolerAtRest = true ↔ s.cooler.state = .stopped) ∧
    (s.groupHolds .burnerNotFiring = true ↔
      s.burner.state ∉ [.ignition, .pilot, .mainTrial, .mainFiring, .stopping]) ∧
    (∀ l : Fin 6, s.groupHolds (.lineShut l) = true ↔ s.lines[l].state = .shut) ∧
    s.syncAlarms =
      allPoints.foldl (fun t i => t.syncPoint s i)
        ((s.alarm.handed ++ s.heat.cutChanges.map fun c => ((5 : Fin 96), c)).foldl (fun t h => t.handPoint h.1 h.2)
          { s with alarm := { s.alarm with handed := [] }, heat := { s.heat with cutChanges := [] } }) ∧
    s.evaluate.heat.cutChanges =
      (if s.evaluate.heat.heatCut = s.heat.heatCut then s.heat.cutChanges
      else s.heat.cutChanges ++ [s.evaluate.heat.heatCut]) ∧
    ∀ (i : Fin 96) (c : Bool),
      let p := s.alarm.points[i]
      let withPoint : (Point → Point) → State := fun f =>
        { s with alarm := { s.alarm with points := upd s.alarm.points i f } }
      let delay := if c then p.defn.onDelay else p.defn.offDelay
      let t := s.setCondition i c
      (∀ n level, p.defn.source = .discrete n level → s.conditionOf i p = (s.di n == level)) ∧
      (∀ k limit high deadband, p.defn.source = .analog k limit high deadband →
        let ch := s.ai k
        let beyond : Prop := if high = true then limit < ch.value else ch.value < limit
        let back : Prop := if high = true then ch.value < limit - deadband else limit + deadband < ch.value
        (ch.quality ≠ .good → s.conditionOf i p = p.condition) ∧
        (ch.quality = .good → (beyond → s.conditionOf i p = true) ∧ (¬beyond → back → s.conditionOf i p = false) ∧
          (¬beyond → ¬back → s.conditionOf i p = p.condition))) ∧
      (p.defn.source = .internal → s.conditionOf i p = s.fixedCondition (i.val + 1)) ∧
      (p.condition = c → t = s) ∧
      (p.condition ≠ c → p.active = c → t = withPoint fun p => { p with condition := c, delayAt := none }) ∧
      (p.condition ≠ c → p.active ≠ c → delay ≠ 0 →
        t = withPoint fun p => { p with condition := c, delayAt := some (s.floorTime + delay * 1000) }) ∧
      (p.condition ≠ c → p.active ≠ c → delay = 0 →
        t.alarm.points[i].condition = c ∧ t.alarm.points[i].active = c ∧ t.alarm.points[i].delayAt = none ∧
          t.alarm.points[i].state =
            if c = true then (if p.state = .normal ∨ p.state = .returned then .raised else p.state)
            else if p.state = .acked ∨ (p.state = .raised ∧ p.defn.cls = .record) then
              (if s.groupHolds p.defn.group then .suppressed else .normal)
            else if p.state = .raised then .returned else p.state) ∧
      (p.state = .normal →
        (s.syncGroup i true).alarm.points[i] = { p with state := .suppressed, lastChange := some s.floorTime } ∧
          s.syncGroup i false = s) ∧
      (p.state = .suppressed →
        (s.syncGroup i false).alarm.points[i].state = (if p.active then .raised else .normal) ∧
          s.syncGroup i true = s) ∧
      (p.state ≠ .normal → p.state ≠ .suppressed → s.syncGroup i c = s) ∧
      s.handPoint i c = (if p.state = .disabled then s else t) ∧
      ∀ before : State,
        (p.state = .disabled → s.syncPoint before i = s) ∧
        (p.state ≠ .disabled → i ≠ 12 →
          let grouped := s.syncGroup i (before.groupHolds p.defn.group)
          s.syncPoint before i = grouped.setCondition i (before.conditionOf i grouped.alarm.points[i]))) ∧
  ∀ s : State, s.resetRun = none →
    (∀ (i : Fin 96) (t : Nat), s.alarm.points[i].delayAt = some t → t ≤ s.floorTime →
      let p := s.alarm.points[i]
      (p.active = false → p.state ≠ .disabled →
        ∃ v : State, exec (.onDelayExpiry i) s = .next v.settle.pump ∧ v.alarm.points[i].active = true ∧
          v.alarm.points[i].delayAt = none ∧
          (p.state = .normal ∨ p.state = .returned →
            v.alarm.points[i].state = .raised ∧
              (p.defn.cls = .trip → v.attention.request.getLsbD 0 = true ∧
                (s.burner.state ≠ .idle → v.burner.state = .lockout))) ∧
          (p.state ≠ .normal → p.state ≠ .returned → v.alarm.points[i].state = p.state)) ∧
      (p.active = true → p.state ≠ .disabled →
        ∃ v : State, exec (.offDelayExpiry i) s = .next v.settle.pump ∧ v.alarm.points[i].active = false ∧
          v.alarm.points[i].delayAt = none ∧
          (p.state = .raised → p.defn.cls ≠ .record → v.alarm.points[i].state = .returned) ∧
          (p.state = .acked ∨ (p.state = .raised ∧ p.defn.cls = .record) →
            v.alarm.points[i].state = if s.groupHolds p.defn.group then .suppressed else .normal) ∧
          (p.state ≠ .raised → p.state ≠ .acked → v.alarm.points[i].state = p.state))) ∧
    (∀ (i : Fin 96) (e : Nat) (rest : List (Fin 96 × Nat)), s.alarm.shelf = (i, e) :: rest → e ≤ s.floorTime →
      let p := s.alarm.points[i]
      ∃ v : State, exec .shelfExpiry s = .next v.settle.pump ∧ v.alarm.points[i].expiry = none ∧
        (∀ e, (i, e) ∉ v.alarm.shelf) ∧
        v.alarm.points[i].state =
          if s.groupHolds p.defn.group then .suppressed else if p.active then .raised else .normal) ∧
    (∀ t : Nat, s.alarm.reviewAt = some t → t ≤ s.floorTime →
      ∃ v : State, exec .reviewTimerExpiry s = .next v.settle.pump ∧
        (s.alarm.reviewCount < s.alarm.raiseThreshold / 2 →
          v.alarm.flood = false ∧ v.alarm.reviewAt = none ∧
            (s.shift.current.events.length < 48 →
              { time := s.floorTime, kind := .floodEnd } ∈ v.shift.current.events)) ∧
        (s.alarm.raiseThreshold / 2 ≤ s.alarm.reviewCount →
          v = { s with
            alarm :=
              { s.alarm with
                reviewAt := some (s.floorTime + s.alarm.floodWindow * 1000), reviewCount := 0 } })) ∧
    (∀ t : Nat, s.link.silenceAt = some t → t ≤ s.floorTime →
      exec .linkSilenceExpiry s =
        .next (({ s with link := { s.link with silenceAt := none, silent := true } } : State).settle.pump))

/-- A change of a point's state, and a raise. Each change but one that a flood hides is recorded in the change list, where
a full list loses its oldest record, or for a TRIP or URGENT point its oldest of class ROUTINE or RECORD, with an ALARM
request except for a RECORD point and for the raise of a TRIP point; it claims or withdraws the point's cut-back at a
change into or out of RAISED and ACKED, with the evaluation that follows; and the horn and the standing count are formed
again. A raise is counted by class and joins the raise list of the newest F; one of a TRIP point raises TRIP and lists
TRIP_RAISE. The raise that makes the list F raises within W begins a flood, with FLOOD_START, the review timer and the
raise of point 13. A raise of a TRIP point is a trip claim: counted in LOCKOUT, without effect in IDLE, and in every other
state an entry of the burner into LOCKOUT with cause ALARM_TRIP and the point. A point whose active state changes, at once
or at the end of its delay, is raised, returned or brought to rest by these. That the raise which begins a flood is
recorded before it is log entry 38, and that a raise hands its cut-back claim and its events in this order before its trip
claim is log entry 7: both are the model's choice. -/
def Obligations.PointStateChanges : Prop :=
  ∀ (s : State) (i : Fin 96),
    let p := s.alarm.points[i]
    let now := s.floorTime
    let low : PointClass → Bool := fun c => decide (c = .routine ∨ c = .record)
    let withPoint : State → (Point → Point) → State := fun u f =>
      { u with alarm := { u.alarm with points := upd u.alarm.points i f } }
    let turned : State → Bool → State → Prop := fun u c v =>
      let on := withPoint u fun p => { p with active := c, delayAt := none }
      (c = true →
        (p.state = .normal ∨ p.state = .returned → v = on.raisePoint i) ∧
        (p.state ≠ .normal → p.state ≠ .returned → v = on)) ∧
      (c = false →
        (p.state = .acked ∨ (p.state = .raised ∧ p.defn.cls = .record) →
          v = on.enterPoint i (if u.groupHolds p.defn.group then .suppressed else .normal)) ∧
        (p.state = .raised → p.defn.cls ≠ .record → v = on.enterPoint i .returned) ∧
        (p.state ≠ .raised → p.state ≠ .acked → v = on))
    (∀ new : PointState,
      let t := s.enterPoint i new
      let a := s.alarm
      let hidden : Prop :=
        a.flood = true ∧ p.defn.cls = .record ∧
          ((p.state = .normal ∧ new = .raised) ∨ (p.state = .raised ∧ new = .normal))
      let silent : Prop := hidden ∨ p.defn.cls = .record ∨ (p.defn.cls = .trip ∧ new = .raised)
      let change : Change :=
        { sequence := a.nextSequence, time := now, point := i.val + 1, cls := p.defn.cls, old := p.state, new := new
          value :=
            match p.defn.source with
            | .analog k _ _ _ => some (s.ai k).value
            | .discrete _ _ | .internal => none }
      let claiming : PointState → Prop := fun st => st = .raised ∨ st = .acked
      SameBut [.lines, .heat, .alarm, .attention, .shift] s t ∧
      t.alarm =
        { a with
          points := upd a.points i fun p => { p with state := new, lastChange := some now }
          changes := t.alarm.changes, nextSequence := t.alarm.nextSequence, overrun := t.alarm.overrun
          horn := t.alarm.horn, standing := t.alarm.standing } ∧
      (hidden →
        t.alarm.changes = a.changes ∧ t.alarm.nextSequence = a.nextSequence ∧ t.alarm.overrun = a.overrun) ∧
      (¬hidden →
        t.alarm.nextSequence = (a.nextSequence + 1) % 65536 ∧
        (a.changes.length < 128 → t.alarm.changes = a.changes ++ [change] ∧ t.alarm.overrun = a.overrun) ∧
        (128 ≤ a.changes.length → t.alarm.overrun = true ∧
          ∃ older gone newer, a.changes = older ++ gone :: newer ∧ t.alarm.changes = older ++ newer ++ [change] ∧
            (low p.defn.cls = true ∨ (∀ c ∈ a.changes, low c.cls = false) → older = []) ∧
            (low p.defn.cls = false → (∃ c ∈ a.changes, low c.cls = true) →
              low gone.cls = true ∧ ∀ c ∈ older, low c.cls = false))) ∧
      (silent → t.attention = s.attention) ∧ (¬silent → t.attention = (s.raise .alarm).attention) ∧
      (p.defn.cutBack = 0 ∨ (claiming p.state ↔ claiming new) → t.heat = s.heat ∧ t.lines = s.lines) ∧
      (p.defn.cutBack ≠ 0 → ¬(claiming p.state ↔ claiming new) →
        let claimed : State := { s with heat := { s.heat with claims := t.heat.claims } }
        t.heat = claimed.evaluate.heat ∧ t.lines = claimed.evaluate.lines ∧
        (∀ c : Nat × Nat, c.1 ≠ i.val + 1 → (c ∈ t.heat.claims ↔ c ∈ s.heat.claims)) ∧
        (claiming new → (i.val + 1, p.defn.cutBack) ∈ t.heat.claims) ∧
        (¬claiming new → ∀ pct, (i.val + 1, pct) ∉ t.heat.claims) ∧
        ((s.heat.claims.map Prod.fst).Pairwise (· < ·) → (t.heat.claims.map Prod.fst).Pairwise (· < ·))) ∧
      (t.alarm.horn = true ↔
        ∃ j : Fin 96, (t.alarm.points[j].defn.cls = .trip ∨ t.alarm.points[j].defn.cls = .urgent) ∧
          t.alarm.points[j].state = .raised) ∧
      t.alarm.standing =
        (List.finRange 96).countP (fun j : Fin 96 =>
          decide (t.alarm.points[j].defn.cls ≠ .record ∧ t.alarm.points[j].state ∈ [.raised, .acked, .returned])) ∧
      t.shift =
        { s.shift with
          current :=
            { s.shift.current with
              totals :=
                { s.shift.current.totals with
                  maxStanding := max s.shift.current.totals.maxStanding t.alarm.standing } } }) ∧
    (let t := s.raiseOnce i
     let u := s.enterPoint i .raised
     let f := s.alarm.floodThreshold
     let counted : State :=
      { u with
        shift :=
          { u.shift with
            current :=
              { u.shift.current with
                totals :=
                  { u.shift.current.totals with raises := t.shift.current.totals.raises } } } }
     SameBut [.alarm, .attention, .shift] u t ∧
     t.alarm =
      { u.alarm with
        raiseThreshold := f, raises := t.alarm.raises
        reviewCount := if s.alarm.flood = true then s.alarm.reviewCount + 1 else s.alarm.reviewCount } ∧
     t.alarm.raises.length = min f (s.alarm.raises.length + 1) ∧ t.alarm.raises <:+ s.alarm.raises ++ [now] ∧
     (∀ c : Fin 4,
      t.shift.current.totals.raises[c] =
        if c.val = p.defn.cls.ctorIdx then min 4294967295 (s.shift.current.totals.raises[c] + 1)
        else s.shift.current.totals.raises[c]) ∧
     (p.defn.cls ≠ .trip → t.attention = u.attention ∧ t.shift = counted.shift) ∧
     (p.defn.cls = .trip →
      t.attention = (u.raise .trip).attention ∧ t.shift = (counted.addEvent (.tripRaise (i.val + 1))).shift)) ∧
    (let oldest := s.alarm.raises.head?.getD 0
     let newest := s.alarm.raises.getLast?.getD 0
     let begins : Prop :=
      s.alarm.flood = false ∧ s.alarm.raises ≠ [] ∧ s.alarm.raises.length = s.alarm.floodThreshold ∧
        newest - oldest ≤ s.alarm.floodWindow * 1000
     (¬begins → s.watchFlood = s) ∧
     (begins →
      let totals := s.shift.current.totals
      let q := s.alarm.points[(12 : Fin 96)]
      let begun : State :=
        ({ s with
          alarm :=
            { s.alarm with
              flood := true, reviewAt := some (now + s.alarm.floodWindow * 1000), reviewCount := 0 }
          shift :=
            { s.shift with
              current :=
                { s.shift.current with
                  totals := { totals with floods := min 4294967295 (totals.floods + 1) } } } } : State).addEvent
        .floodStart
      let active : State :=
        { begun with
          alarm :=
            { begun.alarm with
              points := upd begun.alarm.points 12 fun p => { p with condition := true, active := true } } }
      (q.state = .disabled → s.watchFlood = begun) ∧
      (q.state ∈ [.normal, .returned] → s.watchFlood = active.raiseOnce 12) ∧
      (q.state ∉ [.disabled, .normal, .returned] → s.watchFlood = active))) ∧
    (let u := (s.raiseOnce i).watchFlood
     (p.defn.cls ≠ .trip → s.raisePoint i = u) ∧
     (p.defn.cls = .trip → u.TripTaken .alarmTrip (some (i.val + 1)) (s.raisePoint i))) ∧
    (∀ c : Bool, p.condition ≠ c → p.active ≠ c → (if c then p.defn.onDelay else p.defn.offDelay) = 0 →
      turned (withPoint s fun p => { p with condition := c }) c (s.setCondition i c)) ∧
    ∀ t : Nat, s.resetRun = none → p.state ≠ .disabled → p.delayAt = some t → t ≤ now →
      (p.active = false → ∃ v : State, exec (.onDelayExpiry i) s = .next v.settle.pump ∧ turned s true v) ∧
      (p.active = true → ∃ v : State, exec (.offDelayExpiry i) s = .next v.settle.pump ∧ turned s false v)

/-! ### Shifts and resets -/

/-- A shift closes at CLOSE SHIFT and at a schedule boundary: the report is frozen and stored, each duration accrued up to
the instant, the oldest removed from a full store, and the next shift opens with the next sequence and every accumulator at
0, a duration going on from the instant where its condition holds and the maximum standing at the present count. A second
of the clock that meets no boundary only advances it. PEEK SHIFT copies the open shift, and RELEASE REPORT marks the report
named and every older one. A duration starts where its condition holds and stops, with what it accrued, where it does not;
the source that is ceiling-active has the duration of its own. A mass that would carry a line's shift mass past its width
closes the shift first, with cause REQUEST, and falls in the new shift; a weigh pulse of a CONTINUOUS line delivers so. -/
def Obligations.ShiftsClosed : Prop :=
  ∀ s : State,
    let frozen : Nat → Duration → Duration := fun now d =>
      { total := match d.since with | some t => min 4294967295 (d.total + (now - t)) | none => d.total, since := none }
    let frozenTotals : Nat → Totals → Totals := fun now t =>
      { t with
        lines := mapAt t.lines fun _ x => { x with deviation := frozen now x.deviation, cut := frozen now x.cut }
        firing := frozen now t.firing, lockout := frozen now t.lockout, surgeTime := frozen now t.surgeTime
        floodTime := frozen now t.floodTime, ceilings := mapAt t.ceilings fun _ d => frozen now d }
    let carried : Nat → Duration → Duration := fun now d => { total := 0, since := d.since.map fun _ => now }
    let closed : State → CloseCause → OpenCause → Nat → State → Prop := fun u cause opens index v =>
      let h := u.shift
      let calendar := h.clock.map Prod.fst
      let lost : Option Nat :=
        if h.store.length < 8 then none
        else (h.store.head?.filter fun r => !r.released).map fun r => r.shift.sequence
      SameBut [.alarm, .attention, .shift] u v ∧ v.attention = (u.raise .shift).attention ∧
      v.shift.clock = h.clock ∧ v.shift.peek = h.peek ∧ v.shift.schedule = h.schedule ∧
      v.shift.store =
        (if h.store.length < 8 then h.store else h.store.tail) ++
          [{ shift := { h.current with totals := frozenTotals u.floorTime h.current.totals }, closeFloor := u.floorTime
             closeCalendar := calendar, cause := cause, released := false, overwrote := lost }] ∧
      v.shift.current.sequence = (if h.current.sequence = 4294967295 then 1 else h.current.sequence + 1) ∧
      v.shift.current.index = index ∧ v.shift.current.cause = opens ∧ v.shift.current.openFloor = u.floorTime ∧
      v.shift.current.openCalendar = calendar ∧ v.shift.current.notListed = 0 ∧
      v.shift.current.totals =
        { lines :=
            mapAt h.current.totals.lines fun _ x =>
              { mass := 0, heat := 0, retired := 0, deviation := carried u.floorTime x.deviation
                cut := carried u.floorTime x.cut, fed := 0, missed := 0, skipped := 0, aborted := 0 }
          firing := carried u.floorTime h.current.totals.firing
          lockout := carried u.floorTime h.current.totals.lockout, trips := 0, purgeStarts := 0
          strokes := #v[0, 0, 0, 0], surges := 0, surgeTime := carried u.floorTime h.current.totals.surgeTime
          blastersFired := 0, blastersSkipped := 0, raises := #v[0, 0, 0, 0], floods := 0
          floodTime := carried u.floorTime h.current.totals.floodTime, maxStanding := u.alarm.standing, shelves := 0
          ceilings := mapAt h.current.totals.ceilings fun _ d => carried u.floorTime d } ∧
      v.shift.current.events =
        (match lost with
        | some q => [{ time := u.floorTime, kind := .reportOverwritten q }]
        | none => []) ∧
      v.alarm =
        { u.alarm with
          handed :=
            match lost with
            | some _ => u.alarm.handed ++ [(13, true), (13, false)]
            | none => u.alarm.handed }
    let handed : Bool → Duration → Duration := fun on d =>
      if on then { d with since := some (d.since.getD s.floorTime) } else frozen s.floorTime d
    let old := s.shift.current.totals
    s.handDurations =
      { s with
        shift :=
          { s.shift with
            current :=
              { s.shift.current with
                totals :=
                  { old with
                    lines :=
                      Vector.ofFn fun l : Fin 6 =>
                        { old.lines[l] with
                          deviation := handed s.lines[l].deviation old.lines[l].deviation
                          cut := handed s.lines[l].cut old.lines[l].cut }
                    firing :=
                      handed (decide (s.burner.state ∈ [.ignition, .pilot, .mainTrial, .mainFiring, .stopping])) old.firing
                    lockout := handed (decide (s.burner.state = .lockout)) old.lockout
                    surgeTime := handed (decide (s.cooler.state = .surge)) old.surgeTime
                    floodTime := handed s.alarm.flood old.floodTime
                    ceilings :=
                      Vector.ofFn fun c : Fin 5 =>
                        handed (decide (s.heat.active.map CeilingSource.ctorIdx = some c.val)) old.ceilings[c] } } } } ∧
    (∀ (l : Fin 6) (grams : Nat),
      let beyond : Prop := 4294967295 < old.lines[l].mass + grams
      ∃ w : State, (¬beyond → w = s) ∧ (beyond → closed s .request .request 0 w) ∧
        (let totals := w.shift.current.totals
         s.deliver l grams =
          { w with
            lines :=
              upd s.lines l fun r =>
                { r with
                  lifetime := r.lifetime + grams
                  progress := r.progress.map fun p => { p with delivered := min 4294967295 (p.delivered + grams) } }
            shift :=
              { w.shift with
                current :=
                  { w.shift.current with
                    totals :=
                      { totals with
                        lines :=
                          upd totals.lines l fun x =>
                            { x with mass := x.mass + grams, heat := x.heat + grams * s.lines[l].cv } } } } }) ∧
        (s.resetRun = none → s.lines[l].cfg.kind = .continuous → grams = s.lines[l].cfg.gramsPerPulse →
          ∃ v : State, exec (.weighPulse l) s = .next v.settle.pump ∧ v.shift = (s.deliver l grams).shift ∧
            v.alarm = (s.deliver l grams).alarm ∧ v.attention = (s.deliver l grams).attention)) ∧
    (∀ tag : Byte, s.Ready →
      let u := s.taken
      (∃ v : State,
        exec (.closeShift tag) s = .next (v.settle.replied 0x52 tag .done (b4 u.shift.current.sequence)) ∧
          closed u .request .request 0 v) ∧
      exec (.peekShift tag) s =
        .next (({ u with
          shift :=
            { u.shift with
              peek :=
                some
                  { shift := { u.shift.current with totals := frozenTotals u.floorTime u.shift.current.totals }
                    floor := u.floorTime
                    calendar := u.shift.clock.map Prod.fst } } } : State).replied 0x53 tag .done
          (b4 u.shift.current.sequence)) ∧
      (∀ sequence : BitVec 32,
        ((∀ r ∈ u.shift.store, r.shift.sequence ≠ sequence.toNat) →
          exec (.releaseReport tag sequence) s = .next (u.replied 0x57 tag .noSuch [])) ∧
        (∀ (older newer : List Report) (r : Report), u.shift.store = older ++ r :: newer →
          r.shift.sequence = sequence.toNat → (∀ q ∈ older, q.shift.sequence ≠ sequence.toNat) →
          exec (.releaseReport tag sequence) s =
            .next (({ u with
              shift :=
                { u.shift with
                  store :=
                    older.map (fun q => { q with released := true }) ++
                      { r with released := true } :: newer } } : State).replied 0x57 tag .done [])))) ∧
    (∀ (d : DateTime) (t : Nat), s.resetRun = none → s.shift.clock = some (d, t) → t ≤ s.floorTime →
      (d.next = none →
        exec .clockSecondTick s =
          .next (({ s with shift := { s.shift with clock := none } } : State).settle.pump)) ∧
      (∀ e : DateTime, d.next = some e →
        let u : State := { s with shift := { s.shift with clock := some (e, t + 1000) } }
        (e.second ≠ 0 ∨ e.hour * 60 + e.minute ∉ s.shift.schedule →
          exec .clockSecondTick s = .next u.settle.pump) ∧
        (∀ k : Nat, e.second = 0 → s.shift.schedule[k]? = some (e.hour * 60 + e.minute) →
          (∀ j < k, s.shift.schedule[j]? ≠ some (e.hour * 60 + e.minute)) →
          ∃ v : State, exec .clockSecondTick s = .next v.settle.pump ∧ closed u .schedule .schedule (k + 1) v)))

/-- RESTART is answered before its reset begins at the end of the reply; a request of an unknown type or a wrong length is
refused. The pin and the supply begin a cold reset and end it unless another cause holds; a RESTART's reset ends with its
event. That a kind byte other than 0 in the cold form is refused, and the two wrong requests whatever their type, is the
model's choice, log entry 14; that the reset of a RESTART ends at an event of its own is log entry 18; and that a warm
reset hands the open shift its RESTART event and no FLOOD_END is log entry 39. -/
def Obligations.ResetsBeginAndEnd : Prop :=
  ∀ s : State,
    let begun : State → ResetKind → RestartCause → State → Prop := fun u kind cause v =>
      (∃ run, v.resetRun = some run ∧ run.kind = kind) ∧ v.restartCause = cause ∧ v.restartPending = none ∧
        v.floorTime = u.floorTime ∧ v.link.sending = none ∧ v.link.waiting = [] ∧ v.link.unanswered = false ∧
        v.attention.owed = false ∧ v.burner.igniter = false ∧ v.burner.firingRelay = false ∧ v.alarm.horn = false ∧
        v.cooler.blasterOut = none ∧ (∀ n : Fin 7, v.valveOpen n = false) ∧
        (∀ b : Fin 2, v.batches[b].gateOpen = false ∧ v.batches[b].slot = none) ∧ v.shift = u.shift ∧
        v.settings = u.settings
    (∀ tag : Byte, s.Ready →
      let u := s.taken
      exec (.restartCold tag 0) s = .next (({ u with restartPending := some .cold } : State).replied 0x64 tag .done []) ∧
      exec (.restartWarm tag) s = .next (({ u with restartPending := some .warm } : State).replied 0x64 tag .done []) ∧
      (∀ kind : Byte, kind ≠ 0 → exec (.restartCold tag kind) s = .next (u.replied 0x64 tag .badValue [])) ∧
      (∀ type : Byte, exec (.unknownTypeRequest type tag) s = .next (u.replied type.toNat tag .unknownType [])) ∧
      (∀ (type : Byte) (length : Nat),
        exec (.badLengthRequest type tag length) s = .next (u.replied type.toNat tag .badLength []))) ∧
    (∀ (f : Frame) (k : ResetKind), s.resetRun = none → s.link.sending = some f → f.reply = true →
      s.restartPending = some k →
      ∃ v : State, exec .frameSendEnd s = .next v ∧
        begun s k (match k with | .cold => .coldRequest | .warm => .warmRequest) v ∧
          ∃ run, v.resetRun = some run ∧ run.restart = true) ∧
    (s.pinLow = false →
      ∃ v : State, exec .resetPinAssert s = .next v ∧ v.pinLow = true ∧ begun s .cold .coldPin v) ∧
    (s.supplyLow = false →
      ∃ v : State, exec .supplyFall s = .next v ∧ v.supplyLow = true ∧ begun s .cold .coldSupply v) ∧
    (∀ run : ResetRun, s.resetRun = some run →
      let ended : State → State := fun u =>
        match run.kind with
        | .cold => ((u.coldValues.raise .link).settle).pump
        | .warm => (((u.warmValues.addEvent (.restart .warmRequest)).raise .link).settle).pump
      (s.pinLow = true → s.supplyLow = false → run.restart = false →
        exec .resetPinRelease s = .next (ended { s with pinLow := false })) ∧
      (s.pinLow = true → s.supplyLow = true ∨ run.restart = true →
        exec .resetPinRelease s = .next { s with pinLow := false }) ∧
      (s.supplyLow = true → s.pinLow = false → run.restart = false →
        exec .supplyRestore s = .next (ended { s with supplyLow := false })) ∧
      (s.supplyLow = true → s.pinLow = true ∨ run.restart = true →
        exec .supplyRestore s = .next { s with supplyLow := false }) ∧
      (run.restart = true → s.pinLow = false → s.supplyLow = false →
        exec .restartResetEnd s = .next (ended { s with resetRun := some { run with restart := false } })) ∧
      (run.restart = true → s.pinLow = true ∨ s.supplyLow = true →
        exec .restartResetEnd s = .next { s with resetRun := some { run with restart := false } })) ∧
    (s.coldValues.floorTime = 0 ∧ s.warmValues.floorTime = s.floorTime ∧
      s.coldValues.link.locks = Vector.replicate 7 false ∧ s.warmValues.settings = s.settings ∧
      s.warmValues.shift = s.shift ∧
      ∀ t ∈ [s.coldValues, s.warmValues],
        t.burner.state = .lockout ∧ t.burner.claims = 0 ∧ t.attention = { request := 0, arm := 0xFF#8, owed := false } ∧
          t.cooler.state = .stopped ∧ t.cooler.blasters = false ∧ t.heat.operator = none ∧
          (∀ l : Fin 6, t.lines[l].state = .shut ∧ t.lines[l].queue = [] ∧ t.lines[l].requested = 0) ∧
          (∀ n : Fin 7, t.valveOpen n = false) ∧ t.link.unanswered = false ∧ t.link.discarded = 0)

/-! ### Laws that every step keeps -/

/-- The laws hold right after reset. -/
def Obligations.LawsHoldAtReset : Prop :=
  ControlLaw State.reset ∧ FlameLaw State.reset ∧ CountLaw State.reset ∧ CapacityLaw State.reset ∧ ShelfLaw State.reset ∧
    HeatLaw State.reset ∧ LinkLaw State.reset ∧ HornLaw State.reset ∧ StoreLaw State.reset

/-- Every step keeps the control law: outputs IG, FR and PV as the burner state gives them, a first-out record exactly in
LOCKOUT, and no fuel shutoff valve commanded open but in a fuel state on a line that is in ADMITTING, OPEN or SHUTTING; and
the flame law: flame present is the vote of the debounced scanner inputs by the voting setting in force. That the vote follows
a change of that setting too is read from R13 by inference, log entry 19. -/
def Obligations.StepKeepsControlAndFlameLaws : Prop :=
  (∀ s t : State, ControlLaw s → step s = .next t → ControlLaw t) ∧
    ∀ s t : State, FlameLaw s → step s = .next t → FlameLaw t

/-- Every step keeps the count law: orders posted are queued, retired or discarded, and a queue holds at most 16. -/
def Obligations.StepKeepsCountLaw : Prop :=
  ∀ s t : State, CountLaw s → step s = .next t → CountLaw t

/-- Every step keeps the completion lists, the change list, the event list, the report store and the slot credit within
their capacities, and the stored reports and the open shift in one contiguous run of sequences. -/
def Obligations.StepKeepsCapacityAndStoreLaws : Prop :=
  (∀ s t : State, CapacityLaw s → step s = .next t → CapacityLaw t) ∧
    ∀ s t : State, StoreLaw s → step s = .next t → StoreLaw t

/-- Every step keeps the shelf list: the SHELVED points, each once, at most 16, the earliest expiry first; and the horn and
the standing count as the points' states give them. -/
def Obligations.StepKeepsShelfAndHornLaws : Prop :=
  (∀ s t : State, ShelfLaw s → step s = .next t → ShelfLaw t) ∧
    ∀ s t : State, HornLaw s → step s = .next t → HornLaw t

/-- Every step keeps the heat law: no more heat allowed than the effective ceiling, nor to any line than it requested; and
the link law: nothing waits or is owed while nothing is being sent. -/
def Obligations.StepKeepsHeatAndLinkLaws : Prop :=
  (∀ s t : State, HeatLaw s → step s = .next t → HeatLaw t) ∧ ∀ s t : State, LinkLaw s → step s = .next t → LinkLaw t

/-! ### What an evaluation is formed from -/

/-- The heats and the ceiling of an evaluation. The requested and the floor heat of each line come from its kind, its
state, its requested rate, its CV, its min rate, its active BATCH order and the period it formed its batch heat from, which
is the reported one unless a change of it is being handed to the lines. The effective ceiling is the least of the five
sources that are present, each formed from its own parts, and the binding source the first that has that value. The
commanded rate and heat of a line, the HEAT_CUT condition, the ceiling-active source and the totals follow from what the
line is allowed; and a commanded rate that changes is noted for the Drive Link. -/
def Obligations.HeatsAndCeilingFormed : Prop :=
  ∀ (s : State) (periods : Nat → Option Nat),
    let t := s.evaluateAt periods
    let e : Fin 6 → HeatEntry := fun l => t.heat.entries[l]
    let sum : (Fin 6 → Nat) → Nat := fun f => f 0 + f 1 + f 2 + f 3 + f 4 + f 5
    let sat : Option Nat :=
      if s.cooler.satLow = true then some (s.envelope.satCeilingPct * s.envelope.nominalHeat / 100) else none
    let source : CeilingSource → Option Nat := fun c =>
      match c with
      | .operator => s.heat.operator
      | .cooler =>
        match s.heat.surge, sat with
        | some a, some b => some (min a b)
        | some a, none => some a
        | none, b => b
      | .alarm => (s.heat.claims.map Prod.snd).min?.map fun pct => pct * s.envelope.nominalHeat / 100
      | .burner => s.burner.ceiling
      | .max => some s.envelope.maxHeat
    (source t.heat.binding = some t.heat.effective ∧
      (∀ c v, source c = some v → t.heat.effective ≤ v) ∧
      ∀ c : CeilingSource, c.ctorIdx < t.heat.binding.ctorIdx → source c ≠ some t.heat.effective) ∧
    (∀ l : Fin 6,
      let r := s.lines[l]
      let live : Prop := r.state = .admitting ∨ r.state = .opened ∨ r.state = .shutting
      let running : Prop := r.state = .opened ∨ r.state = .shutting
      (r.cfg.kind = .continuous →
        (live → (e l).requested = r.requested * r.cv / 3600) ∧ (¬live → (e l).requested = 0) ∧
        (e l).floor = r.cfg.minRate * r.cv / 3600 ∧
        (running →
          t.lines[l].commanded = min r.requested t.lines[l].allowed ∧
            (e l).commanded = min r.requested t.lines[l].allowed * r.cv / 3600) ∧
        (¬running → t.lines[l].commanded = 0 ∧ (e l).commanded = 0)) ∧
      (r.cfg.kind = .batch →
        (e l).floor = 0 ∧ t.lines[l].commanded = 0 ∧
        (∀ o rest slots revs mass, r.state = .opened → r.progress ≠ none → r.queue = o :: rest →
          o.body = .batch slots revs mass →
          (e l).commanded = (e l).allowed ∧
          (∀ period, periods l = some period →
            (e l).requested = min 666666 (mass * r.cv * 1000 / (period * revs))) ∧
          (periods l = none → (e l).requested = 0)) ∧
        ((r.state ≠ .opened ∨ r.progress = none ∨
            ∀ o rest slots revs mass, r.queue = o :: rest → o.body ≠ .batch slots revs mass) →
          (e l).requested = 0 ∧ (e l).commanded = 0))) ∧
    (t.heat.heatCut = true ↔ ∃ l : Fin 6, t.lines[l].cut = true) ∧
    t.heat.active = (if t.heat.heatCut = true then some t.heat.binding else none) ∧
    t.heat.totalRequested = sum (fun l => (e l).requested) ∧ t.heat.totalAllowed = sum (fun l => (e l).allowed) ∧
    t.heat.totalCommanded = sum (fun l => (e l).commanded) ∧
    (t.heat.ratesChanged = true ↔
      s.heat.ratesChanged = true ∨ ∃ l : Fin 6, t.lines[l].commanded ≠ s.lines[l].commanded) ∧
    s.evaluate = s.evaluateAt fun _ => s.field.rotation.period
end

