-- ==== Sys2Proof/Laws/State.lean ====
section
/-! SUPPORT. What each update of one block leaves unchanged: one lemma per update, true by `rfl`, and the lemmas that
carry a frame through a fold. -/

namespace Sys2Proof.Machine

@[simp] theorem State.modLink_frame (s : State) (f : Link → Link) : (s.modLink f).floorTime = s.floorTime ∧
    (s.modLink f).resetRun = s.resetRun ∧ (s.modLink f).pinLow = s.pinLow ∧ (s.modLink f).supplyLow =
    s.supplyLow ∧ (s.modLink f).restartCause = s.restartCause ∧ (s.modLink f).restartPending = s.restartPending
    ∧ (s.modLink f).burner = s.burner ∧ (s.modLink f).lines = s.lines ∧ (s.modLink f).batches = s.batches ∧
    (s.modLink f).envelope = s.envelope ∧ (s.modLink f).heat = s.heat ∧ (s.modLink f).cooler = s.cooler ∧
    (s.modLink f).field = s.field ∧ (s.modLink f).alarm = s.alarm ∧ (s.modLink f).attention = s.attention ∧
    (s.modLink f).shift = s.shift ∧ (s.modLink f).pending = s.pending ∧ (s.modLink f).link = f s.link :=
  by refine ⟨?_, ?_, ?_, ?_, ?_, ?_, ?_, ?_, ?_, ?_, ?_, ?_, ?_, ?_, ?_, ?_, ?_, ?_⟩ <;> rfl

@[simp] theorem State.modBurner_frame (s : State) (f : Burner → Burner) : (s.modBurner f).floorTime =
    s.floorTime ∧ (s.modBurner f).resetRun = s.resetRun ∧ (s.modBurner f).pinLow = s.pinLow ∧ (s.modBurner
    f).supplyLow = s.supplyLow ∧ (s.modBurner f).restartCause = s.restartCause ∧ (s.modBurner f).restartPending
    = s.restartPending ∧ (s.modBurner f).link = s.link ∧ (s.modBurner f).lines = s.lines ∧ (s.modBurner
    f).batches = s.batches ∧ (s.modBurner f).envelope = s.envelope ∧ (s.modBurner f).heat = s.heat ∧
    (s.modBurner f).cooler = s.cooler ∧ (s.modBurner f).field = s.field ∧ (s.modBurner f).alarm = s.alarm ∧
    (s.modBurner f).attention = s.attention ∧ (s.modBurner f).shift = s.shift ∧ (s.modBurner f).pending =
    s.pending ∧ (s.modBurner f).burner = f s.burner :=
  by refine ⟨?_, ?_, ?_, ?_, ?_, ?_, ?_, ?_, ?_, ?_, ?_, ?_, ?_, ?_, ?_, ?_, ?_, ?_⟩ <;> rfl

@[simp] theorem State.modLine_frame (s : State) (l : Fin 6) (f : Line → Line) : (s.modLine l f).floorTime =
    s.floorTime ∧ (s.modLine l f).resetRun = s.resetRun ∧ (s.modLine l f).pinLow = s.pinLow ∧ (s.modLine l
    f).supplyLow = s.supplyLow ∧ (s.modLine l f).restartCause = s.restartCause ∧ (s.modLine l f).restartPending
    = s.restartPending ∧ (s.modLine l f).link = s.link ∧ (s.modLine l f).burner = s.burner ∧ (s.modLine l
    f).batches = s.batches ∧ (s.modLine l f).envelope = s.envelope ∧ (s.modLine l f).heat = s.heat ∧ (s.modLine
    l f).cooler = s.cooler ∧ (s.modLine l f).field = s.field ∧ (s.modLine l f).alarm = s.alarm ∧ (s.modLine l
    f).attention = s.attention ∧ (s.modLine l f).shift = s.shift ∧ (s.modLine l f).pending = s.pending ∧
    (s.modLine l f).lines = upd s.lines l f :=
  by refine ⟨?_, ?_, ?_, ?_, ?_, ?_, ?_, ?_, ?_, ?_, ?_, ?_, ?_, ?_, ?_, ?_, ?_, ?_⟩ <;> rfl

@[simp] theorem State.modBatch_frame (s : State) (b : Fin 2) (f : Batch → Batch) : (s.modBatch b f).floorTime =
    s.floorTime ∧ (s.modBatch b f).resetRun = s.resetRun ∧ (s.modBatch b f).pinLow = s.pinLow ∧ (s.modBatch b
    f).supplyLow = s.supplyLow ∧ (s.modBatch b f).restartCause = s.restartCause ∧ (s.modBatch b
    f).restartPending = s.restartPending ∧ (s.modBatch b f).link = s.link ∧ (s.modBatch b f).burner = s.burner ∧
    (s.modBatch b f).lines = s.lines ∧ (s.modBatch b f).envelope = s.envelope ∧ (s.modBatch b f).heat = s.heat ∧
    (s.modBatch b f).cooler = s.cooler ∧ (s.modBatch b f).field = s.field ∧ (s.modBatch b f).alarm = s.alarm ∧
    (s.modBatch b f).attention = s.attention ∧ (s.modBatch b f).shift = s.shift ∧ (s.modBatch b f).pending =
    s.pending ∧ (s.modBatch b f).batches = upd s.batches b f :=
  by refine ⟨?_, ?_, ?_, ?_, ?_, ?_, ?_, ?_, ?_, ?_, ?_, ?_, ?_, ?_, ?_, ?_, ?_, ?_⟩ <;> rfl

@[simp] theorem State.modHeat_frame (s : State) (f : Heat → Heat) : (s.modHeat f).floorTime = s.floorTime ∧
    (s.modHeat f).resetRun = s.resetRun ∧ (s.modHeat f).pinLow = s.pinLow ∧ (s.modHeat f).supplyLow =
    s.supplyLow ∧ (s.modHeat f).restartCause = s.restartCause ∧ (s.modHeat f).restartPending = s.restartPending
    ∧ (s.modHeat f).link = s.link ∧ (s.modHeat f).burner = s.burner ∧ (s.modHeat f).lines = s.lines ∧ (s.modHeat
    f).batches = s.batches ∧ (s.modHeat f).envelope = s.envelope ∧ (s.modHeat f).cooler = s.cooler ∧ (s.modHeat
    f).field = s.field ∧ (s.modHeat f).alarm = s.alarm ∧ (s.modHeat f).attention = s.attention ∧ (s.modHeat
    f).shift = s.shift ∧ (s.modHeat f).pending = s.pending ∧ (s.modHeat f).heat = f s.heat :=
  by refine ⟨?_, ?_, ?_, ?_, ?_, ?_, ?_, ?_, ?_, ?_, ?_, ?_, ?_, ?_, ?_, ?_, ?_, ?_⟩ <;> rfl

@[simp] theorem State.modCooler_frame (s : State) (f : Cooler → Cooler) : (s.modCooler f).floorTime =
    s.floorTime ∧ (s.modCooler f).resetRun = s.resetRun ∧ (s.modCooler f).pinLow = s.pinLow ∧ (s.modCooler
    f).supplyLow = s.supplyLow ∧ (s.modCooler f).restartCause = s.restartCause ∧ (s.modCooler f).restartPending
    = s.restartPending ∧ (s.modCooler f).link = s.link ∧ (s.modCooler f).burner = s.burner ∧ (s.modCooler
    f).lines = s.lines ∧ (s.modCooler f).batches = s.batches ∧ (s.modCooler f).envelope = s.envelope ∧
    (s.modCooler f).heat = s.heat ∧ (s.modCooler f).field = s.field ∧ (s.modCooler f).alarm = s.alarm ∧
    (s.modCooler f).attention = s.attention ∧ (s.modCooler f).shift = s.shift ∧ (s.modCooler f).pending =
    s.pending ∧ (s.modCooler f).cooler = f s.cooler :=
  by refine ⟨?_, ?_, ?_, ?_, ?_, ?_, ?_, ?_, ?_, ?_, ?_, ?_, ?_, ?_, ?_, ?_, ?_, ?_⟩ <;> rfl

@[simp] theorem State.modField_frame (s : State) (f : Field → Field) : (s.modField f).floorTime = s.floorTime ∧
    (s.modField f).resetRun = s.resetRun ∧ (s.modField f).pinLow = s.pinLow ∧ (s.modField f).supplyLow =
    s.supplyLow ∧ (s.modField f).restartCause = s.restartCause ∧ (s.modField f).restartPending =
    s.restartPending ∧ (s.modField f).link = s.link ∧ (s.modField f).burner = s.burner ∧ (s.modField f).lines =
    s.lines ∧ (s.modField f).batches = s.batches ∧ (s.modField f).envelope = s.envelope ∧ (s.modField f).heat =
    s.heat ∧ (s.modField f).cooler = s.cooler ∧ (s.modField f).alarm = s.alarm ∧ (s.modField f).attention =
    s.attention ∧ (s.modField f).shift = s.shift ∧ (s.modField f).pending = s.pending ∧ (s.modField f).field = f
    s.field :=
  by refine ⟨?_, ?_, ?_, ?_, ?_, ?_, ?_, ?_, ?_, ?_, ?_, ?_, ?_, ?_, ?_, ?_, ?_, ?_⟩ <;> rfl

@[simp] theorem State.modAlarm_frame (s : State) (f : Alarm → Alarm) : (s.modAlarm f).floorTime = s.floorTime ∧
    (s.modAlarm f).resetRun = s.resetRun ∧ (s.modAlarm f).pinLow = s.pinLow ∧ (s.modAlarm f).supplyLow =
    s.supplyLow ∧ (s.modAlarm f).restartCause = s.restartCause ∧ (s.modAlarm f).restartPending =
    s.restartPending ∧ (s.modAlarm f).link = s.link ∧ (s.modAlarm f).burner = s.burner ∧ (s.modAlarm f).lines =
    s.lines ∧ (s.modAlarm f).batches = s.batches ∧ (s.modAlarm f).envelope = s.envelope ∧ (s.modAlarm f).heat =
    s.heat ∧ (s.modAlarm f).cooler = s.cooler ∧ (s.modAlarm f).field = s.field ∧ (s.modAlarm f).attention =
    s.attention ∧ (s.modAlarm f).shift = s.shift ∧ (s.modAlarm f).pending = s.pending ∧ (s.modAlarm f).alarm = f
    s.alarm :=
  by refine ⟨?_, ?_, ?_, ?_, ?_, ?_, ?_, ?_, ?_, ?_, ?_, ?_, ?_, ?_, ?_, ?_, ?_, ?_⟩ <;> rfl

@[simp] theorem State.modAttention_frame (s : State) (f : Attention → Attention) : (s.modAttention f).floorTime
    = s.floorTime ∧ (s.modAttention f).resetRun = s.resetRun ∧ (s.modAttention f).pinLow = s.pinLow ∧
    (s.modAttention f).supplyLow = s.supplyLow ∧ (s.modAttention f).restartCause = s.restartCause ∧
    (s.modAttention f).restartPending = s.restartPending ∧ (s.modAttention f).link = s.link ∧ (s.modAttention
    f).burner = s.burner ∧ (s.modAttention f).lines = s.lines ∧ (s.modAttention f).batches = s.batches ∧
    (s.modAttention f).envelope = s.envelope ∧ (s.modAttention f).heat = s.heat ∧ (s.modAttention f).cooler =
    s.cooler ∧ (s.modAttention f).field = s.field ∧ (s.modAttention f).alarm = s.alarm ∧ (s.modAttention
    f).shift = s.shift ∧ (s.modAttention f).pending = s.pending ∧ (s.modAttention f).attention = f s.attention
    :=
  by refine ⟨?_, ?_, ?_, ?_, ?_, ?_, ?_, ?_, ?_, ?_, ?_, ?_, ?_, ?_, ?_, ?_, ?_, ?_⟩ <;> rfl

@[simp] theorem State.modShift_frame (s : State) (f : Shift → Shift) : (s.modShift f).floorTime = s.floorTime ∧
    (s.modShift f).resetRun = s.resetRun ∧ (s.modShift f).pinLow = s.pinLow ∧ (s.modShift f).supplyLow =
    s.supplyLow ∧ (s.modShift f).restartCause = s.restartCause ∧ (s.modShift f).restartPending =
    s.restartPending ∧ (s.modShift f).link = s.link ∧ (s.modShift f).burner = s.burner ∧ (s.modShift f).lines =
    s.lines ∧ (s.modShift f).batches = s.batches ∧ (s.modShift f).envelope = s.envelope ∧ (s.modShift f).heat =
    s.heat ∧ (s.modShift f).cooler = s.cooler ∧ (s.modShift f).field = s.field ∧ (s.modShift f).alarm = s.alarm
    ∧ (s.modShift f).attention = s.attention ∧ (s.modShift f).pending = s.pending ∧ (s.modShift f).shift = f
    s.shift :=
  by refine ⟨?_, ?_, ?_, ?_, ?_, ?_, ?_, ?_, ?_, ?_, ?_, ?_, ?_, ?_, ?_, ?_, ?_, ?_⟩ <;> rfl

@[simp] theorem State.modActuator_frame (s : State) (a : Fin 2) (f : Actuator → Actuator) : (s.modActuator a
    f).floorTime = s.floorTime ∧ (s.modActuator a f).resetRun = s.resetRun ∧ (s.modActuator a f).pinLow =
    s.pinLow ∧ (s.modActuator a f).supplyLow = s.supplyLow ∧ (s.modActuator a f).restartCause = s.restartCause ∧
    (s.modActuator a f).restartPending = s.restartPending ∧ (s.modActuator a f).link = s.link ∧ (s.modActuator a
    f).lines = s.lines ∧ (s.modActuator a f).batches = s.batches ∧ (s.modActuator a f).envelope = s.envelope ∧
    (s.modActuator a f).heat = s.heat ∧ (s.modActuator a f).cooler = s.cooler ∧ (s.modActuator a f).field =
    s.field ∧ (s.modActuator a f).alarm = s.alarm ∧ (s.modActuator a f).attention = s.attention ∧ (s.modActuator
    a f).shift = s.shift ∧ (s.modActuator a f).pending = s.pending :=
  by refine ⟨?_, ?_, ?_, ?_, ?_, ?_, ?_, ?_, ?_, ?_, ?_, ?_, ?_, ?_, ?_, ?_, ?_⟩ <;> rfl

@[simp] theorem State.modGrate_frame (s : State) (g : Fin 4) (f : Grate → Grate) : (s.modGrate g f).floorTime =
    s.floorTime ∧ (s.modGrate g f).resetRun = s.resetRun ∧ (s.modGrate g f).pinLow = s.pinLow ∧ (s.modGrate g
    f).supplyLow = s.supplyLow ∧ (s.modGrate g f).restartCause = s.restartCause ∧ (s.modGrate g
    f).restartPending = s.restartPending ∧ (s.modGrate g f).link = s.link ∧ (s.modGrate g f).burner = s.burner ∧
    (s.modGrate g f).lines = s.lines ∧ (s.modGrate g f).batches = s.batches ∧ (s.modGrate g f).envelope =
    s.envelope ∧ (s.modGrate g f).heat = s.heat ∧ (s.modGrate g f).field = s.field ∧ (s.modGrate g f).alarm =
    s.alarm ∧ (s.modGrate g f).attention = s.attention ∧ (s.modGrate g f).shift = s.shift ∧ (s.modGrate g
    f).pending = s.pending :=
  by refine ⟨?_, ?_, ?_, ?_, ?_, ?_, ?_, ?_, ?_, ?_, ?_, ?_, ?_, ?_, ?_, ?_, ?_⟩ <;> rfl

@[simp] theorem State.modChamber_frame (s : State) (k : Fin 12) (f : Chamber → Chamber) : (s.modChamber k
    f).floorTime = s.floorTime ∧ (s.modChamber k f).resetRun = s.resetRun ∧ (s.modChamber k f).pinLow = s.pinLow
    ∧ (s.modChamber k f).supplyLow = s.supplyLow ∧ (s.modChamber k f).restartCause = s.restartCause ∧
    (s.modChamber k f).restartPending = s.restartPending ∧ (s.modChamber k f).link = s.link ∧ (s.modChamber k
    f).burner = s.burner ∧ (s.modChamber k f).lines = s.lines ∧ (s.modChamber k f).batches = s.batches ∧
    (s.modChamber k f).envelope = s.envelope ∧ (s.modChamber k f).heat = s.heat ∧ (s.modChamber k f).field =
    s.field ∧ (s.modChamber k f).alarm = s.alarm ∧ (s.modChamber k f).attention = s.attention ∧ (s.modChamber k
    f).shift = s.shift ∧ (s.modChamber k f).pending = s.pending :=
  by refine ⟨?_, ?_, ?_, ?_, ?_, ?_, ?_, ?_, ?_, ?_, ?_, ?_, ?_, ?_, ?_, ?_, ?_⟩ <;> rfl

@[simp] theorem State.modPoint_frame (s : State) (p : Fin 96) (f : Point → Point) : (s.modPoint p f).floorTime =
    s.floorTime ∧ (s.modPoint p f).resetRun = s.resetRun ∧ (s.modPoint p f).pinLow = s.pinLow ∧ (s.modPoint p
    f).supplyLow = s.supplyLow ∧ (s.modPoint p f).restartCause = s.restartCause ∧ (s.modPoint p
    f).restartPending = s.restartPending ∧ (s.modPoint p f).link = s.link ∧ (s.modPoint p f).burner = s.burner ∧
    (s.modPoint p f).lines = s.lines ∧ (s.modPoint p f).batches = s.batches ∧ (s.modPoint p f).envelope =
    s.envelope ∧ (s.modPoint p f).heat = s.heat ∧ (s.modPoint p f).cooler = s.cooler ∧ (s.modPoint p f).field =
    s.field ∧ (s.modPoint p f).attention = s.attention ∧ (s.modPoint p f).shift = s.shift ∧ (s.modPoint p
    f).pending = s.pending :=
  by refine ⟨?_, ?_, ?_, ?_, ?_, ?_, ?_, ?_, ?_, ?_, ?_, ?_, ?_, ?_, ?_, ?_, ?_⟩ <;> rfl

@[simp] theorem State.modTotals_frame (s : State) (f : Totals → Totals) : (s.modTotals f).floorTime =
    s.floorTime ∧ (s.modTotals f).resetRun = s.resetRun ∧ (s.modTotals f).pinLow = s.pinLow ∧ (s.modTotals
    f).supplyLow = s.supplyLow ∧ (s.modTotals f).restartCause = s.restartCause ∧ (s.modTotals f).restartPending
    = s.restartPending ∧ (s.modTotals f).link = s.link ∧ (s.modTotals f).burner = s.burner ∧ (s.modTotals
    f).lines = s.lines ∧ (s.modTotals f).batches = s.batches ∧ (s.modTotals f).envelope = s.envelope ∧
    (s.modTotals f).heat = s.heat ∧ (s.modTotals f).cooler = s.cooler ∧ (s.modTotals f).field = s.field ∧
    (s.modTotals f).alarm = s.alarm ∧ (s.modTotals f).attention = s.attention ∧ (s.modTotals f).pending =
    s.pending :=
  by refine ⟨?_, ?_, ?_, ?_, ?_, ?_, ?_, ?_, ?_, ?_, ?_, ?_, ?_, ?_, ?_, ?_, ?_⟩ <;> rfl

@[simp] theorem State.modLineTotals_frame (s : State) (l : Fin 6) (f : LineTotals → LineTotals) :
    (s.modLineTotals l f).floorTime = s.floorTime ∧ (s.modLineTotals l f).resetRun = s.resetRun ∧
    (s.modLineTotals l f).pinLow = s.pinLow ∧ (s.modLineTotals l f).supplyLow = s.supplyLow ∧ (s.modLineTotals l
    f).restartCause = s.restartCause ∧ (s.modLineTotals l f).restartPending = s.restartPending ∧
    (s.modLineTotals l f).link = s.link ∧ (s.modLineTotals l f).burner = s.burner ∧ (s.modLineTotals l f).lines
    = s.lines ∧ (s.modLineTotals l f).batches = s.batches ∧ (s.modLineTotals l f).envelope = s.envelope ∧
    (s.modLineTotals l f).heat = s.heat ∧ (s.modLineTotals l f).cooler = s.cooler ∧ (s.modLineTotals l f).field
    = s.field ∧ (s.modLineTotals l f).alarm = s.alarm ∧ (s.modLineTotals l f).attention = s.attention ∧
    (s.modLineTotals l f).pending = s.pending :=
  by refine ⟨?_, ?_, ?_, ?_, ?_, ?_, ?_, ?_, ?_, ?_, ?_, ?_, ?_, ?_, ?_, ?_, ?_⟩ <;> rfl

/-! ### Folds -/

theorem foldl_floorTime {α : Type} (f : State → α → State) (h : ∀ s a, (f s a).floorTime = s.floorTime) (l : List α) (s : State) :
    (l.foldl f s).floorTime = s.floorTime := by
  induction l generalizing s with
  | nil => rfl
  | cons a l ih => rw [List.foldl_cons, ih, h]

theorem foldl_resetRun {α : Type} (f : State → α → State) (h : ∀ s a, (f s a).resetRun = s.resetRun) (l : List α) (s : State) :
    (l.foldl f s).resetRun = s.resetRun := by
  induction l generalizing s with
  | nil => rfl
  | cons a l ih => rw [List.foldl_cons, ih, h]

theorem foldl_pinLow {α : Type} (f : State → α → State) (h : ∀ s a, (f s a).pinLow = s.pinLow) (l : List α) (s : State) :
    (l.foldl f s).pinLow = s.pinLow := by
  induction l generalizing s with
  | nil => rfl
  | cons a l ih => rw [List.foldl_cons, ih, h]

theorem foldl_supplyLow {α : Type} (f : State → α → State) (h : ∀ s a, (f s a).supplyLow = s.supplyLow) (l : List α) (s : State) :
    (l.foldl f s).supplyLow = s.supplyLow := by
  induction l generalizing s with
  | nil => rfl
  | cons a l ih => rw [List.foldl_cons, ih, h]

theorem foldl_restartCause {α : Type} (f : State → α → State) (h : ∀ s a, (f s a).restartCause = s.restartCause) (l : List α) (s : State) :
    (l.foldl f s).restartCause = s.restartCause := by
  induction l generalizing s with
  | nil => rfl
  | cons a l ih => rw [List.foldl_cons, ih, h]

theorem foldl_restartPending {α : Type} (f : State → α → State) (h : ∀ s a, (f s a).restartPending = s.restartPending) (l : List α) (s : State) :
    (l.foldl f s).restartPending = s.restartPending := by
  induction l generalizing s with
  | nil => rfl
  | cons a l ih => rw [List.foldl_cons, ih, h]

theorem foldl_link {α : Type} (f : State → α → State) (h : ∀ s a, (f s a).link = s.link) (l : List α) (s : State) :
    (l.foldl f s).link = s.link := by
  induction l generalizing s with
  | nil => rfl
  | cons a l ih => rw [List.foldl_cons, ih, h]

theorem foldl_burner {α : Type} (f : State → α → State) (h : ∀ s a, (f s a).burner = s.burner) (l : List α) (s : State) :
    (l.foldl f s).burner = s.burner := by
  induction l generalizing s with
  | nil => rfl
  | cons a l ih => rw [List.foldl_cons, ih, h]

theorem foldl_lines {α : Type} (f : State → α → State) (h : ∀ s a, (f s a).lines = s.lines) (l : List α) (s : State) :
    (l.foldl f s).lines = s.lines := by
  induction l generalizing s with
  | nil => rfl
  | cons a l ih => rw [List.foldl_cons, ih, h]

theorem foldl_batches {α : Type} (f : State → α → State) (h : ∀ s a, (f s a).batches = s.batches) (l : List α) (s : State) :
    (l.foldl f s).batches = s.batches := by
  induction l generalizing s with
  | nil => rfl
  | cons a l ih => rw [List.foldl_cons, ih, h]

theorem foldl_envelope {α : Type} (f : State → α → State) (h : ∀ s a, (f s a).envelope = s.envelope) (l : List α) (s : State) :
    (l.foldl f s).envelope = s.envelope := by
  induction l generalizing s with
  | nil => rfl
  | cons a l ih => rw [List.foldl_cons, ih, h]

theorem foldl_heat {α : Type} (f : State → α → State) (h : ∀ s a, (f s a).heat = s.heat) (l : List α) (s : State) :
    (l.foldl f s).heat = s.heat := by
  induction l generalizing s with
  | nil => rfl
  | cons a l ih => rw [List.foldl_cons, ih, h]

theorem foldl_cooler {α : Type} (f : State → α → State) (h : ∀ s a, (f s a).cooler = s.cooler) (l : List α) (s : State) :
    (l.foldl f s).cooler = s.cooler := by
  induction l generalizing s with
  | nil => rfl
  | cons a l ih => rw [List.foldl_cons, ih, h]

theorem foldl_field {α : Type} (f : State → α → State) (h : ∀ s a, (f s a).field = s.field) (l : List α) (s : State) :
    (l.foldl f s).field = s.field := by
  induction l generalizing s with
  | nil => rfl
  | cons a l ih => rw [List.foldl_cons, ih, h]

theorem foldl_alarm {α : Type} (f : State → α → State) (h : ∀ s a, (f s a).alarm = s.alarm) (l : List α) (s : State) :
    (l.foldl f s).alarm = s.alarm := by
  induction l generalizing s with
  | nil => rfl
  | cons a l ih => rw [List.foldl_cons, ih, h]

theorem foldl_attention {α : Type} (f : State → α → State) (h : ∀ s a, (f s a).attention = s.attention) (l : List α) (s : State) :
    (l.foldl f s).attention = s.attention := by
  induction l generalizing s with
  | nil => rfl
  | cons a l ih => rw [List.foldl_cons, ih, h]

theorem foldl_shift {α : Type} (f : State → α → State) (h : ∀ s a, (f s a).shift = s.shift) (l : List α) (s : State) :
    (l.foldl f s).shift = s.shift := by
  induction l generalizing s with
  | nil => rfl
  | cons a l ih => rw [List.foldl_cons, ih, h]

theorem foldl_pending {α : Type} (f : State → α → State) (h : ∀ s a, (f s a).pending = s.pending) (l : List α) (s : State) :
    (l.foldl f s).pending = s.pending := by
  induction l generalizing s with
  | nil => rfl
  | cons a l ih => rw [List.foldl_cons, ih, h]

theorem foldl_fst {α β γ : Type} (g : State → γ) (f : State × β → α → State × β) (h : ∀ p a, g (f p a).1 = g p.1)
    (l : List α) (p : State × β) : g (l.foldl f p).1 = g p.1 := by
  induction l generalizing p with
  | nil => rfl
  | cons a l ih => rw [List.foldl_cons, ih, h]

end Sys2Proof.Machine
end

