-- ==== Sys2Proof/Laws/Frame.lean ====
section
/-! SUPPORT. What each operation leaves unchanged, block by block (the blocks of Table 1 and the part's own fields): one
lemma per operation, which a proof cites instead of unfolding the operation. -/

namespace Sys2Proof.Machine

-- One closing tactic for many operations: for some of them a part of it has nothing to do.
set_option linter.unreachableTactic false
set_option linter.unusedTactic false
set_option linter.unnecessarySeqFocus false
set_option linter.unusedSimpArgs false

@[simp] theorem State.raise_frame (s : State) (c : AttentionClass) : (s.raise c).floorTime = s.floorTime ∧
    (s.raise c).resetRun = s.resetRun ∧ (s.raise c).pinLow = s.pinLow ∧ (s.raise c).supplyLow = s.supplyLow ∧
    (s.raise c).restartCause = s.restartCause ∧ (s.raise c).restartPending = s.restartPending ∧ (s.raise c).link
    = s.link ∧ (s.raise c).burner = s.burner ∧ (s.raise c).lines = s.lines ∧ (s.raise c).batches = s.batches ∧
    (s.raise c).envelope = s.envelope ∧ (s.raise c).heat = s.heat ∧ (s.raise c).cooler = s.cooler ∧ (s.raise
    c).field = s.field ∧ (s.raise c).alarm = s.alarm ∧ (s.raise c).shift = s.shift ∧ (s.raise c).pending =
    s.pending := by
  unfold State.raise
  simp -failIfUnchanged <;> (repeat' split) <;> simp

@[simp] theorem State.addEvent_frame (s : State) (k : EventKind) : (s.addEvent k).floorTime = s.floorTime ∧
    (s.addEvent k).resetRun = s.resetRun ∧ (s.addEvent k).pinLow = s.pinLow ∧ (s.addEvent k).supplyLow =
    s.supplyLow ∧ (s.addEvent k).restartCause = s.restartCause ∧ (s.addEvent k).restartPending =
    s.restartPending ∧ (s.addEvent k).link = s.link ∧ (s.addEvent k).burner = s.burner ∧ (s.addEvent k).lines =
    s.lines ∧ (s.addEvent k).batches = s.batches ∧ (s.addEvent k).envelope = s.envelope ∧ (s.addEvent k).heat =
    s.heat ∧ (s.addEvent k).cooler = s.cooler ∧ (s.addEvent k).field = s.field ∧ (s.addEvent k).alarm = s.alarm
    ∧ (s.addEvent k).attention = s.attention ∧ (s.addEvent k).pending = s.pending := by
  unfold State.addEvent
  simp -failIfUnchanged <;> (repeat' split) <;> simp

@[simp] theorem State.commandValve_frame (s : State) (v : Fin 7) (toOpen : Bool) : (s.commandValve v
    toOpen).floorTime = s.floorTime ∧ (s.commandValve v toOpen).resetRun = s.resetRun ∧ (s.commandValve v
    toOpen).pinLow = s.pinLow ∧ (s.commandValve v toOpen).supplyLow = s.supplyLow ∧ (s.commandValve v
    toOpen).restartCause = s.restartCause ∧ (s.commandValve v toOpen).restartPending = s.restartPending ∧
    (s.commandValve v toOpen).link = s.link ∧ (s.commandValve v toOpen).burner = s.burner ∧ (s.commandValve v
    toOpen).lines = s.lines ∧ (s.commandValve v toOpen).batches = s.batches ∧ (s.commandValve v toOpen).envelope
    = s.envelope ∧ (s.commandValve v toOpen).heat = s.heat ∧ (s.commandValve v toOpen).cooler = s.cooler ∧
    (s.commandValve v toOpen).alarm = s.alarm ∧ (s.commandValve v toOpen).attention = s.attention ∧
    (s.commandValve v toOpen).shift = s.shift ∧ (s.commandValve v toOpen).pending = s.pending := by
  unfold State.commandValve
  simp -failIfUnchanged <;> (repeat' split) <;> simp

@[simp] theorem State.handDurations_frame (s : State) : (s.handDurations).floorTime = s.floorTime ∧
    (s.handDurations).resetRun = s.resetRun ∧ (s.handDurations).pinLow = s.pinLow ∧ (s.handDurations).supplyLow
    = s.supplyLow ∧ (s.handDurations).restartCause = s.restartCause ∧ (s.handDurations).restartPending =
    s.restartPending ∧ (s.handDurations).link = s.link ∧ (s.handDurations).burner = s.burner ∧
    (s.handDurations).lines = s.lines ∧ (s.handDurations).batches = s.batches ∧ (s.handDurations).envelope =
    s.envelope ∧ (s.handDurations).heat = s.heat ∧ (s.handDurations).cooler = s.cooler ∧ (s.handDurations).field
    = s.field ∧ (s.handDurations).alarm = s.alarm ∧ (s.handDurations).attention = s.attention ∧
    (s.handDurations).pending = s.pending := by
  unfold State.handDurations
  simp -failIfUnchanged <;> (repeat' split) <;> simp

@[simp] theorem State.closeShift_frame (s : State) (cause : CloseCause) (opens : OpenCause) (index : Nat) :
    (s.closeShift cause opens index).floorTime = s.floorTime ∧ (s.closeShift cause opens index).resetRun =
    s.resetRun ∧ (s.closeShift cause opens index).pinLow = s.pinLow ∧ (s.closeShift cause opens index).supplyLow
    = s.supplyLow ∧ (s.closeShift cause opens index).restartCause = s.restartCause ∧ (s.closeShift cause opens
    index).restartPending = s.restartPending ∧ (s.closeShift cause opens index).link = s.link ∧ (s.closeShift
    cause opens index).burner = s.burner ∧ (s.closeShift cause opens index).lines = s.lines ∧ (s.closeShift
    cause opens index).batches = s.batches ∧ (s.closeShift cause opens index).envelope = s.envelope ∧
    (s.closeShift cause opens index).heat = s.heat ∧ (s.closeShift cause opens index).cooler = s.cooler ∧
    (s.closeShift cause opens index).field = s.field ∧ (s.closeShift cause opens index).pending = s.pending :=
    by
  unfold State.closeShift
  simp -failIfUnchanged <;> (repeat' split) <;> simp

@[simp] theorem State.deliver_frame (s : State) (l : Fin 6) (grams : Nat) : (s.deliver l grams).floorTime =
    s.floorTime ∧ (s.deliver l grams).resetRun = s.resetRun ∧ (s.deliver l grams).pinLow = s.pinLow ∧ (s.deliver
    l grams).supplyLow = s.supplyLow ∧ (s.deliver l grams).restartCause = s.restartCause ∧ (s.deliver l
    grams).restartPending = s.restartPending ∧ (s.deliver l grams).link = s.link ∧ (s.deliver l grams).burner =
    s.burner ∧ (s.deliver l grams).batches = s.batches ∧ (s.deliver l grams).envelope = s.envelope ∧ (s.deliver
    l grams).heat = s.heat ∧ (s.deliver l grams).cooler = s.cooler ∧ (s.deliver l grams).field = s.field ∧
    (s.deliver l grams).pending = s.pending := by
  unfold State.deliver
  simp -failIfUnchanged <;> (repeat' split) <;> simp

@[simp] theorem State.evaluateAt_frame (s : State) (p : Nat → Option Nat) : (s.evaluateAt p).floorTime = s.floorTime ∧
    (s.evaluateAt p).resetRun = s.resetRun ∧ (s.evaluateAt p).pinLow = s.pinLow ∧
    (s.evaluateAt p).supplyLow = s.supplyLow ∧ (s.evaluateAt p).restartCause = s.restartCause ∧
    (s.evaluateAt p).restartPending = s.restartPending ∧ (s.evaluateAt p).link = s.link ∧
    (s.evaluateAt p).burner = s.burner ∧ (s.evaluateAt p).batches = s.batches ∧
    (s.evaluateAt p).envelope = s.envelope ∧ (s.evaluateAt p).cooler = s.cooler ∧ (s.evaluateAt p).field = s.field ∧
    (s.evaluateAt p).alarm = s.alarm ∧ (s.evaluateAt p).attention = s.attention ∧ (s.evaluateAt p).shift = s.shift ∧
    (s.evaluateAt p).pending = s.pending := by
  refine ⟨?_, ?_, ?_, ?_, ?_, ?_, ?_, ?_, ?_, ?_, ?_, ?_, ?_, ?_, ?_, ?_⟩ <;> rfl

@[simp] theorem State.evaluate_frame (s : State) : (s.evaluate).floorTime = s.floorTime ∧ (s.evaluate).resetRun
    = s.resetRun ∧ (s.evaluate).pinLow = s.pinLow ∧ (s.evaluate).supplyLow = s.supplyLow ∧
    (s.evaluate).restartCause = s.restartCause ∧ (s.evaluate).restartPending = s.restartPending ∧
    (s.evaluate).link = s.link ∧ (s.evaluate).burner = s.burner ∧ (s.evaluate).batches = s.batches ∧
    (s.evaluate).envelope = s.envelope ∧ (s.evaluate).cooler = s.cooler ∧ (s.evaluate).field = s.field ∧
    (s.evaluate).alarm = s.alarm ∧ (s.evaluate).attention = s.attention ∧ (s.evaluate).shift = s.shift ∧
    (s.evaluate).pending = s.pending := s.evaluateAt_frame _

/-- What an evaluation reads: the lines, the heat table, the envelope, the floor time, the SAT-low condition and the BURNER
ceiling. -/
theorem State.evaluateAt_reads {s t : State} (p : Nat → Option Nat) (hl : t.lines = s.lines) (hh : t.heat = s.heat)
    (he : t.envelope = s.envelope) (hf : t.floorTime = s.floorTime) (hc : t.cooler.satLow = s.cooler.satLow)
    (hb : t.burner.ceiling = s.burner.ceiling) :
    (t.evaluateAt p).lines = (s.evaluateAt p).lines ∧ (t.evaluateAt p).heat = (s.evaluateAt p).heat := by
  have hs : t.presentCeilings = s.presentCeilings := by
    simp [State.presentCeilings, State.ceiling, State.satValue, hh, he, hc, hb]
  simp only [State.evaluateAt, hl, hh, he, hf, hs, and_self]

theorem State.handPeriod_reads {s t : State} (b : Option Nat) (hl : t.lines = s.lines) (hh : t.heat = s.heat)
    (he : t.envelope = s.envelope) (hf : t.floorTime = s.floorTime) (hc : t.cooler.satLow = s.cooler.satLow)
    (hb : t.burner.ceiling = s.burner.ceiling) (hr : t.field.rotation = s.field.rotation) :
    (t.handPeriod b).lines = (s.handPeriod b).lines ∧ (t.handPeriod b).heat = (s.handPeriod b).heat := by
  have h := State.evaluateAt_reads (fun l => if l = 4 then s.field.rotation.period else b) hl hh he hf hc hb
  simp only [State.handPeriod, State.evaluate, hr, evaluateAt_frame]
  exact State.evaluateAt_reads _ h.1 h.2 (by simp [he]) (by simp [hf]) (by simp [hc]) (by simp [hb])

@[simp] theorem State.handPeriod_frame (s : State) (b : Option Nat) : (s.handPeriod b).floorTime = s.floorTime ∧
    (s.handPeriod b).resetRun = s.resetRun ∧ (s.handPeriod b).pinLow = s.pinLow ∧
    (s.handPeriod b).supplyLow = s.supplyLow ∧ (s.handPeriod b).restartCause = s.restartCause ∧
    (s.handPeriod b).restartPending = s.restartPending ∧ (s.handPeriod b).link = s.link ∧
    (s.handPeriod b).burner = s.burner ∧ (s.handPeriod b).batches = s.batches ∧
    (s.handPeriod b).envelope = s.envelope ∧ (s.handPeriod b).cooler = s.cooler ∧ (s.handPeriod b).field = s.field ∧
    (s.handPeriod b).alarm = s.alarm ∧ (s.handPeriod b).attention = s.attention ∧ (s.handPeriod b).shift = s.shift ∧
    (s.handPeriod b).pending = s.pending := by
  simp [State.handPeriod]

@[simp] theorem State.setReason_frame (s : State) (l : Fin 6) (r : Reason) : (s.setReason l r).floorTime =
    s.floorTime ∧ (s.setReason l r).resetRun = s.resetRun ∧ (s.setReason l r).pinLow = s.pinLow ∧ (s.setReason l
    r).supplyLow = s.supplyLow ∧ (s.setReason l r).restartCause = s.restartCause ∧ (s.setReason l
    r).restartPending = s.restartPending ∧ (s.setReason l r).link = s.link ∧ (s.setReason l r).burner = s.burner
    ∧ (s.setReason l r).batches = s.batches ∧ (s.setReason l r).envelope = s.envelope ∧ (s.setReason l r).heat =
    s.heat ∧ (s.setReason l r).cooler = s.cooler ∧ (s.setReason l r).field = s.field ∧ (s.setReason l r).alarm =
    s.alarm ∧ (s.setReason l r).shift = s.shift ∧ (s.setReason l r).pending = s.pending := by
  unfold State.setReason
  simp -failIfUnchanged <;> (repeat' split) <;> simp

@[simp] theorem State.notice_frame (s : State) (l : Fin 6) (o : Order) : (s.notice l o).floorTime = s.floorTime
    ∧ (s.notice l o).resetRun = s.resetRun ∧ (s.notice l o).pinLow = s.pinLow ∧ (s.notice l o).supplyLow =
    s.supplyLow ∧ (s.notice l o).restartCause = s.restartCause ∧ (s.notice l o).restartPending =
    s.restartPending ∧ (s.notice l o).link = s.link ∧ (s.notice l o).burner = s.burner ∧ (s.notice l o).batches
    = s.batches ∧ (s.notice l o).envelope = s.envelope ∧ (s.notice l o).heat = s.heat ∧ (s.notice l o).cooler =
    s.cooler ∧ (s.notice l o).field = s.field ∧ (s.notice l o).alarm = s.alarm ∧ (s.notice l o).shift = s.shift
    ∧ (s.notice l o).pending = s.pending := by
  unfold State.notice
  simp -failIfUnchanged <;> (repeat' split) <;> simp

@[simp] theorem State.closeGate_frame (s : State) (l : Fin 6) : (s.closeGate l).floorTime = s.floorTime ∧
    (s.closeGate l).resetRun = s.resetRun ∧ (s.closeGate l).pinLow = s.pinLow ∧ (s.closeGate l).supplyLow =
    s.supplyLow ∧ (s.closeGate l).restartCause = s.restartCause ∧ (s.closeGate l).restartPending =
    s.restartPending ∧ (s.closeGate l).link = s.link ∧ (s.closeGate l).burner = s.burner ∧ (s.closeGate l).lines
    = s.lines ∧ (s.closeGate l).envelope = s.envelope ∧ (s.closeGate l).heat = s.heat ∧ (s.closeGate l).cooler =
    s.cooler ∧ (s.closeGate l).field = s.field ∧ (s.closeGate l).alarm = s.alarm ∧ (s.closeGate l).attention =
    s.attention ∧ (s.closeGate l).shift = s.shift ∧ (s.closeGate l).pending = s.pending := by
  unfold State.closeGate
  simp -failIfUnchanged <;> (repeat' split) <;> simp

@[simp] theorem State.recordSlot_frame (s : State) (b : Fin 2) (sr : SlotRecord) : (s.recordSlot b sr).floorTime
    = s.floorTime ∧ (s.recordSlot b sr).resetRun = s.resetRun ∧ (s.recordSlot b sr).pinLow = s.pinLow ∧
    (s.recordSlot b sr).supplyLow = s.supplyLow ∧ (s.recordSlot b sr).restartCause = s.restartCause ∧
    (s.recordSlot b sr).restartPending = s.restartPending ∧ (s.recordSlot b sr).link = s.link ∧ (s.recordSlot b
    sr).burner = s.burner ∧ (s.recordSlot b sr).lines = s.lines ∧ (s.recordSlot b sr).envelope = s.envelope ∧
    (s.recordSlot b sr).heat = s.heat ∧ (s.recordSlot b sr).cooler = s.cooler ∧ (s.recordSlot b sr).field =
    s.field ∧ (s.recordSlot b sr).alarm = s.alarm ∧ (s.recordSlot b sr).attention = s.attention ∧ (s.recordSlot
    b sr).pending = s.pending := by
  unfold State.recordSlot
  simp -failIfUnchanged <;> (repeat' split) <;> simp

@[simp] theorem State.abortSlot_frame (s : State) (l : Fin 6) : (s.abortSlot l).floorTime = s.floorTime ∧
    (s.abortSlot l).resetRun = s.resetRun ∧ (s.abortSlot l).pinLow = s.pinLow ∧ (s.abortSlot l).supplyLow =
    s.supplyLow ∧ (s.abortSlot l).restartCause = s.restartCause ∧ (s.abortSlot l).restartPending =
    s.restartPending ∧ (s.abortSlot l).link = s.link ∧ (s.abortSlot l).burner = s.burner ∧ (s.abortSlot
    l).envelope = s.envelope ∧ (s.abortSlot l).heat = s.heat ∧ (s.abortSlot l).cooler = s.cooler ∧ (s.abortSlot
    l).field = s.field ∧ (s.abortSlot l).pending = s.pending := by
  unfold State.abortSlot
  simp -failIfUnchanged <;> (repeat' split) <;> simp

@[simp] theorem State.queueReasons_frame (s : State) (l : Fin 6) : (s.queueReasons l).floorTime = s.floorTime ∧
    (s.queueReasons l).resetRun = s.resetRun ∧ (s.queueReasons l).pinLow = s.pinLow ∧ (s.queueReasons
    l).supplyLow = s.supplyLow ∧ (s.queueReasons l).restartCause = s.restartCause ∧ (s.queueReasons
    l).restartPending = s.restartPending ∧ (s.queueReasons l).link = s.link ∧ (s.queueReasons l).burner =
    s.burner ∧ (s.queueReasons l).batches = s.batches ∧ (s.queueReasons l).envelope = s.envelope ∧
    (s.queueReasons l).heat = s.heat ∧ (s.queueReasons l).cooler = s.cooler ∧ (s.queueReasons l).field = s.field
    ∧ (s.queueReasons l).alarm = s.alarm ∧ (s.queueReasons l).shift = s.shift ∧ (s.queueReasons l).pending =
    s.pending := by
  unfold State.queueReasons
  simp -failIfUnchanged <;> (repeat' split) <;> simp

@[simp] theorem State.endHead_frame (s : State) (l : Fin 6) (outcome : OrderOutcome) : (s.endHead l
    outcome).floorTime = s.floorTime ∧ (s.endHead l outcome).resetRun = s.resetRun ∧ (s.endHead l
    outcome).pinLow = s.pinLow ∧ (s.endHead l outcome).supplyLow = s.supplyLow ∧ (s.endHead l
    outcome).restartCause = s.restartCause ∧ (s.endHead l outcome).restartPending = s.restartPending ∧
    (s.endHead l outcome).link = s.link ∧ (s.endHead l outcome).burner = s.burner ∧ (s.endHead l
    outcome).envelope = s.envelope ∧ (s.endHead l outcome).heat = s.heat ∧ (s.endHead l outcome).cooler =
    s.cooler ∧ (s.endHead l outcome).field = s.field ∧ (s.endHead l outcome).alarm = s.alarm ∧ (s.endHead l
    outcome).attention = s.attention ∧ (s.endHead l outcome).pending = s.pending := by
  unfold State.endHead
  simp -failIfUnchanged <;> (repeat' split) <;> simp

@[simp] theorem State.retireHead_frame (s : State) (l : Fin 6) (outcome : OrderOutcome) : (s.retireHead l
    outcome).floorTime = s.floorTime ∧ (s.retireHead l outcome).resetRun = s.resetRun ∧ (s.retireHead l
    outcome).pinLow = s.pinLow ∧ (s.retireHead l outcome).supplyLow = s.supplyLow ∧ (s.retireHead l
    outcome).restartCause = s.restartCause ∧ (s.retireHead l outcome).restartPending = s.restartPending ∧
    (s.retireHead l outcome).link = s.link ∧ (s.retireHead l outcome).burner = s.burner ∧ (s.retireHead l
    outcome).envelope = s.envelope ∧ (s.retireHead l outcome).heat = s.heat ∧ (s.retireHead l outcome).cooler =
    s.cooler ∧ (s.retireHead l outcome).field = s.field ∧ (s.retireHead l outcome).alarm = s.alarm ∧
    (s.retireHead l outcome).pending = s.pending := by
  unfold State.retireHead
  simp -failIfUnchanged <;> (repeat' split) <;> simp

@[simp] theorem State.discardQueue_frame (s : State) (l : Fin 6) (notices : Bool) (q : List Order) :
    (s.discardQueue l notices q).floorTime = s.floorTime ∧ (s.discardQueue l notices q).resetRun = s.resetRun ∧
    (s.discardQueue l notices q).pinLow = s.pinLow ∧ (s.discardQueue l notices q).supplyLow = s.supplyLow ∧
    (s.discardQueue l notices q).restartCause = s.restartCause ∧ (s.discardQueue l notices q).restartPending =
    s.restartPending ∧ (s.discardQueue l notices q).link = s.link ∧ (s.discardQueue l notices q).burner =
    s.burner ∧ (s.discardQueue l notices q).batches = s.batches ∧ (s.discardQueue l notices q).envelope =
    s.envelope ∧ (s.discardQueue l notices q).heat = s.heat ∧ (s.discardQueue l notices q).cooler = s.cooler ∧
    (s.discardQueue l notices q).field = s.field ∧ (s.discardQueue l notices q).alarm = s.alarm ∧
    (s.discardQueue l notices q).shift = s.shift ∧ (s.discardQueue l notices q).pending = s.pending := by
  induction q generalizing s with
  | nil => simp [State.discardQueue]
  | cons o rest ih =>
    unfold State.discardQueue
    simp -failIfUnchanged [ih] <;> (repeat' split) <;> simp [ih]

@[simp] theorem State.takeUp_frame (s : State) (l : Fin 6) (q : List Order) : (s.takeUp l q).floorTime =
    s.floorTime ∧ (s.takeUp l q).resetRun = s.resetRun ∧ (s.takeUp l q).pinLow = s.pinLow ∧ (s.takeUp l
    q).supplyLow = s.supplyLow ∧ (s.takeUp l q).restartCause = s.restartCause ∧ (s.takeUp l q).restartPending =
    s.restartPending ∧ (s.takeUp l q).link = s.link ∧ (s.takeUp l q).burner = s.burner ∧ (s.takeUp l q).envelope
    = s.envelope ∧ (s.takeUp l q).cooler = s.cooler ∧ (s.takeUp l q).field = s.field ∧ (s.takeUp l q).alarm =
    s.alarm ∧ (s.takeUp l q).pending = s.pending := by
  induction q generalizing s with
  | nil => simp [State.takeUp]
  | cons o rest ih =>
    unfold State.takeUp
    simp -failIfUnchanged [ih] <;> (repeat' split) <;> simp [ih]

@[simp] theorem State.completeHead_frame (s : State) (l : Fin 6) : (s.completeHead l).floorTime = s.floorTime ∧
    (s.completeHead l).resetRun = s.resetRun ∧ (s.completeHead l).pinLow = s.pinLow ∧ (s.completeHead
    l).supplyLow = s.supplyLow ∧ (s.completeHead l).restartCause = s.restartCause ∧ (s.completeHead
    l).restartPending = s.restartPending ∧ (s.completeHead l).link = s.link ∧ (s.completeHead l).burner =
    s.burner ∧ (s.completeHead l).envelope = s.envelope ∧ (s.completeHead l).cooler = s.cooler ∧ (s.completeHead
    l).field = s.field ∧ (s.completeHead l).alarm = s.alarm ∧ (s.completeHead l).pending = s.pending := by
  unfold State.completeHead
  simp -failIfUnchanged <;> (repeat' split) <;> simp

@[simp] theorem State.admitLine_frame (s : State) (l : Fin 6) : (s.admitLine l).floorTime = s.floorTime ∧ (s.admitLine
    l).resetRun = s.resetRun ∧ (s.admitLine l).pinLow = s.pinLow ∧ (s.admitLine l).supplyLow = s.supplyLow ∧ (s.admitLine
    l).restartCause = s.restartCause ∧ (s.admitLine l).restartPending = s.restartPending ∧ (s.admitLine l).link = s.link
    ∧ (s.admitLine l).burner = s.burner ∧ (s.admitLine l).batches = s.batches ∧ (s.admitLine l).envelope = s.envelope ∧
    (s.admitLine l).cooler = s.cooler ∧ (s.admitLine l).alarm = s.alarm ∧ (s.admitLine l).attention = s.attention ∧ (s.admitLine
    l).shift = s.shift ∧ (s.admitLine l).pending = s.pending := by
  unfold State.admitLine
  simp -failIfUnchanged <;> (repeat' split) <;> simp

@[simp] theorem State.openLine_frame (s : State) (l : Fin 6) : (s.openLine l).floorTime = s.floorTime ∧
    (s.openLine l).resetRun = s.resetRun ∧ (s.openLine l).pinLow = s.pinLow ∧ (s.openLine l).supplyLow =
    s.supplyLow ∧ (s.openLine l).restartCause = s.restartCause ∧ (s.openLine l).restartPending =
    s.restartPending ∧ (s.openLine l).link = s.link ∧ (s.openLine l).burner = s.burner ∧ (s.openLine l).envelope
    = s.envelope ∧ (s.openLine l).cooler = s.cooler ∧ (s.openLine l).field = s.field ∧ (s.openLine l).alarm =
    s.alarm ∧ (s.openLine l).pending = s.pending := by
  unfold State.openLine
  simp -failIfUnchanged <;> (repeat' split) <;> simp

@[simp] theorem State.rampEnd_frame (s : State) (l : Fin 6) : (s.rampEnd l).floorTime = s.floorTime ∧ (s.rampEnd
    l).resetRun = s.resetRun ∧ (s.rampEnd l).pinLow = s.pinLow ∧ (s.rampEnd l).supplyLow = s.supplyLow ∧
    (s.rampEnd l).restartCause = s.restartCause ∧ (s.rampEnd l).restartPending = s.restartPending ∧ (s.rampEnd
    l).link = s.link ∧ (s.rampEnd l).burner = s.burner ∧ (s.rampEnd l).batches = s.batches ∧ (s.rampEnd
    l).envelope = s.envelope ∧ (s.rampEnd l).heat = s.heat ∧ (s.rampEnd l).cooler = s.cooler ∧ (s.rampEnd
    l).alarm = s.alarm ∧ (s.rampEnd l).attention = s.attention ∧ (s.rampEnd l).shift = s.shift ∧ (s.rampEnd
    l).pending = s.pending := by
  unfold State.rampEnd
  simp -failIfUnchanged <;> (repeat' split) <;> simp

@[simp] theorem State.beginShut_frame (s : State) (l : Fin 6) : (s.beginShut l).floorTime = s.floorTime ∧
    (s.beginShut l).resetRun = s.resetRun ∧ (s.beginShut l).pinLow = s.pinLow ∧ (s.beginShut l).supplyLow =
    s.supplyLow ∧ (s.beginShut l).restartCause = s.restartCause ∧ (s.beginShut l).restartPending =
    s.restartPending ∧ (s.beginShut l).link = s.link ∧ (s.beginShut l).burner = s.burner ∧ (s.beginShut
    l).envelope = s.envelope ∧ (s.beginShut l).cooler = s.cooler ∧ (s.beginShut l).pending = s.pending := by
  unfold State.beginShut
  simp -failIfUnchanged <;> (repeat' split) <;> simp

@[simp] theorem State.enterShut_frame (s : State) (l : Fin 6) : (s.enterShut l).floorTime = s.floorTime ∧
    (s.enterShut l).resetRun = s.resetRun ∧ (s.enterShut l).pinLow = s.pinLow ∧ (s.enterShut l).supplyLow =
    s.supplyLow ∧ (s.enterShut l).restartCause = s.restartCause ∧ (s.enterShut l).restartPending =
    s.restartPending ∧ (s.enterShut l).link = s.link ∧ (s.enterShut l).burner = s.burner ∧ (s.enterShut
    l).batches = s.batches ∧ (s.enterShut l).envelope = s.envelope ∧ (s.enterShut l).cooler = s.cooler ∧
    (s.enterShut l).field = s.field ∧ (s.enterShut l).alarm = s.alarm ∧ (s.enterShut l).attention = s.attention
    ∧ (s.enterShut l).pending = s.pending := by
  unfold State.enterShut
  simp -failIfUnchanged <;> (repeat' split) <;> simp

@[simp] theorem State.faultLine_frame (s : State) (l : Fin 6) : (s.faultLine l).floorTime = s.floorTime ∧
    (s.faultLine l).resetRun = s.resetRun ∧ (s.faultLine l).pinLow = s.pinLow ∧ (s.faultLine l).supplyLow =
    s.supplyLow ∧ (s.faultLine l).restartCause = s.restartCause ∧ (s.faultLine l).restartPending =
    s.restartPending ∧ (s.faultLine l).link = s.link ∧ (s.faultLine l).burner = s.burner ∧ (s.faultLine
    l).envelope = s.envelope ∧ (s.faultLine l).cooler = s.cooler ∧ (s.faultLine l).pending = s.pending := by
  unfold State.faultLine
  simp -failIfUnchanged <;> (repeat' split) <;> simp

@[simp] theorem State.tripLine_frame (s : State) (l : Fin 6) : (s.tripLine l).floorTime = s.floorTime ∧
    (s.tripLine l).resetRun = s.resetRun ∧ (s.tripLine l).pinLow = s.pinLow ∧ (s.tripLine l).supplyLow =
    s.supplyLow ∧ (s.tripLine l).restartCause = s.restartCause ∧ (s.tripLine l).restartPending =
    s.restartPending ∧ (s.tripLine l).link = s.link ∧ (s.tripLine l).burner = s.burner ∧ (s.tripLine l).envelope
    = s.envelope ∧ (s.tripLine l).heat = s.heat ∧ (s.tripLine l).cooler = s.cooler ∧ (s.tripLine l).pending =
    s.pending := by
  unfold State.tripLine
  simp -failIfUnchanged <;> (repeat' split) <;> simp

@[simp] theorem State.clearQueue_frame (s : State) (l : Fin 6) : (s.clearQueue l).floorTime = s.floorTime ∧
    (s.clearQueue l).resetRun = s.resetRun ∧ (s.clearQueue l).pinLow = s.pinLow ∧ (s.clearQueue l).supplyLow =
    s.supplyLow ∧ (s.clearQueue l).restartCause = s.restartCause ∧ (s.clearQueue l).restartPending =
    s.restartPending ∧ (s.clearQueue l).link = s.link ∧ (s.clearQueue l).burner = s.burner ∧ (s.clearQueue
    l).envelope = s.envelope ∧ (s.clearQueue l).cooler = s.cooler ∧ (s.clearQueue l).field = s.field ∧
    (s.clearQueue l).pending = s.pending := by
  unfold State.clearQueue
  simp -failIfUnchanged <;> (repeat' split) <;> simp

@[simp] theorem State.lineProof_frame (s : State) (l : Fin 6) (toOpen : Bool) : (s.lineProof l toOpen).floorTime
    = s.floorTime ∧ (s.lineProof l toOpen).resetRun = s.resetRun ∧ (s.lineProof l toOpen).pinLow = s.pinLow ∧
    (s.lineProof l toOpen).supplyLow = s.supplyLow ∧ (s.lineProof l toOpen).restartCause = s.restartCause ∧
    (s.lineProof l toOpen).restartPending = s.restartPending ∧ (s.lineProof l toOpen).link = s.link ∧
    (s.lineProof l toOpen).burner = s.burner ∧ (s.lineProof l toOpen).envelope = s.envelope ∧ (s.lineProof l
    toOpen).cooler = s.cooler ∧ (s.lineProof l toOpen).field = s.field ∧ (s.lineProof l toOpen).alarm = s.alarm
    ∧ (s.lineProof l toOpen).pending = s.pending := by
  unfold State.lineProof
  simp -failIfUnchanged <;> (repeat' split) <;> simp

@[simp] theorem State.lineLatch_frame (s : State) (l : Fin 6) (k : FaultKind) : (s.lineLatch l k).floorTime =
    s.floorTime ∧ (s.lineLatch l k).resetRun = s.resetRun ∧ (s.lineLatch l k).pinLow = s.pinLow ∧ (s.lineLatch l
    k).supplyLow = s.supplyLow ∧ (s.lineLatch l k).restartCause = s.restartCause ∧ (s.lineLatch l
    k).restartPending = s.restartPending ∧ (s.lineLatch l k).link = s.link ∧ (s.lineLatch l k).burner = s.burner
    ∧ (s.lineLatch l k).envelope = s.envelope ∧ (s.lineLatch l k).cooler = s.cooler ∧ (s.lineLatch l k).pending
    = s.pending := by
  unfold State.lineLatch
  simp -failIfUnchanged <;> (repeat' split) <;> simp

@[simp] theorem State.endSlot_frame (s : State) (b : Fin 2) (sr : SlotRecord) : (s.endSlot b sr).floorTime =
    s.floorTime ∧ (s.endSlot b sr).resetRun = s.resetRun ∧ (s.endSlot b sr).pinLow = s.pinLow ∧ (s.endSlot b
    sr).supplyLow = s.supplyLow ∧ (s.endSlot b sr).restartCause = s.restartCause ∧ (s.endSlot b
    sr).restartPending = s.restartPending ∧ (s.endSlot b sr).link = s.link ∧ (s.endSlot b sr).burner = s.burner
    ∧ (s.endSlot b sr).envelope = s.envelope ∧ (s.endSlot b sr).cooler = s.cooler ∧ (s.endSlot b sr).field =
    s.field ∧ (s.endSlot b sr).alarm = s.alarm ∧ (s.endSlot b sr).pending = s.pending := by
  unfold State.endSlot
  simp -failIfUnchanged <;> (repeat' split) <;> simp

@[simp] theorem State.beginDrop_frame (s : State) (b : Fin 2) (slot : Slot) : (s.beginDrop b slot).floorTime =
    s.floorTime ∧ (s.beginDrop b slot).resetRun = s.resetRun ∧ (s.beginDrop b slot).pinLow = s.pinLow ∧
    (s.beginDrop b slot).supplyLow = s.supplyLow ∧ (s.beginDrop b slot).restartCause = s.restartCause ∧
    (s.beginDrop b slot).restartPending = s.restartPending ∧ (s.beginDrop b slot).link = s.link ∧ (s.beginDrop b
    slot).burner = s.burner ∧ (s.beginDrop b slot).lines = s.lines ∧ (s.beginDrop b slot).envelope = s.envelope
    ∧ (s.beginDrop b slot).heat = s.heat ∧ (s.beginDrop b slot).cooler = s.cooler ∧ (s.beginDrop b slot).field =
    s.field ∧ (s.beginDrop b slot).alarm = s.alarm ∧ (s.beginDrop b slot).attention = s.attention ∧ (s.beginDrop
    b slot).shift = s.shift ∧ (s.beginDrop b slot).pending = s.pending := by
  unfold State.beginDrop
  simp -failIfUnchanged <;> (repeat' split) <;> simp

@[simp] theorem State.openSlot_frame (s : State) (b : Fin 2) : (s.openSlot b).floorTime = s.floorTime ∧
    (s.openSlot b).resetRun = s.resetRun ∧ (s.openSlot b).pinLow = s.pinLow ∧ (s.openSlot b).supplyLow =
    s.supplyLow ∧ (s.openSlot b).restartCause = s.restartCause ∧ (s.openSlot b).restartPending =
    s.restartPending ∧ (s.openSlot b).link = s.link ∧ (s.openSlot b).burner = s.burner ∧ (s.openSlot b).envelope
    = s.envelope ∧ (s.openSlot b).cooler = s.cooler ∧ (s.openSlot b).field = s.field ∧ (s.openSlot b).alarm =
    s.alarm ∧ (s.openSlot b).pending = s.pending := by
  unfold State.openSlot
  simp -failIfUnchanged <;> (repeat' split) <;> simp

@[simp] theorem State.gateIdle_frame (s : State) (b : Fin 2) : (s.gateIdle b).floorTime = s.floorTime ∧
    (s.gateIdle b).resetRun = s.resetRun ∧ (s.gateIdle b).pinLow = s.pinLow ∧ (s.gateIdle b).supplyLow =
    s.supplyLow ∧ (s.gateIdle b).restartCause = s.restartCause ∧ (s.gateIdle b).restartPending =
    s.restartPending ∧ (s.gateIdle b).link = s.link ∧ (s.gateIdle b).burner = s.burner ∧ (s.gateIdle b).lines =
    s.lines ∧ (s.gateIdle b).envelope = s.envelope ∧ (s.gateIdle b).heat = s.heat ∧ (s.gateIdle b).cooler =
    s.cooler ∧ (s.gateIdle b).field = s.field ∧ (s.gateIdle b).alarm = s.alarm ∧ (s.gateIdle b).attention =
    s.attention ∧ (s.gateIdle b).shift = s.shift ∧ (s.gateIdle b).pending = s.pending := by
  unfold State.gateIdle
  simp -failIfUnchanged <;> (repeat' split) <;> simp

@[simp] theorem State.batchPulse_frame (s : State) (b : Fin 2) : (s.batchPulse b).floorTime = s.floorTime ∧
    (s.batchPulse b).resetRun = s.resetRun ∧ (s.batchPulse b).pinLow = s.pinLow ∧ (s.batchPulse b).supplyLow =
    s.supplyLow ∧ (s.batchPulse b).restartCause = s.restartCause ∧ (s.batchPulse b).restartPending =
    s.restartPending ∧ (s.batchPulse b).link = s.link ∧ (s.batchPulse b).burner = s.burner ∧ (s.batchPulse
    b).envelope = s.envelope ∧ (s.batchPulse b).cooler = s.cooler ∧ (s.batchPulse b).field = s.field ∧
    (s.batchPulse b).alarm = s.alarm ∧ (s.batchPulse b).pending = s.pending := by
  unfold State.batchPulse
  simp -failIfUnchanged <;> (repeat' split) <;> simp

@[simp] theorem State.readyLost_frame (s : State) (b : Fin 2) : (s.readyLost b).floorTime = s.floorTime ∧
    (s.readyLost b).resetRun = s.resetRun ∧ (s.readyLost b).pinLow = s.pinLow ∧ (s.readyLost b).supplyLow =
    s.supplyLow ∧ (s.readyLost b).restartCause = s.restartCause ∧ (s.readyLost b).restartPending =
    s.restartPending ∧ (s.readyLost b).link = s.link ∧ (s.readyLost b).burner = s.burner ∧ (s.readyLost
    b).envelope = s.envelope ∧ (s.readyLost b).cooler = s.cooler ∧ (s.readyLost b).field = s.field ∧
    (s.readyLost b).alarm = s.alarm ∧ (s.readyLost b).pending = s.pending := by
  unfold State.readyLost
  simp -failIfUnchanged <;> (repeat' split) <;> simp

@[simp] theorem State.weighSlot_frame (s : State) (b : Fin 2) (slot : Slot) : (s.weighSlot b slot).floorTime =
    s.floorTime ∧ (s.weighSlot b slot).resetRun = s.resetRun ∧ (s.weighSlot b slot).pinLow = s.pinLow ∧
    (s.weighSlot b slot).supplyLow = s.supplyLow ∧ (s.weighSlot b slot).restartCause = s.restartCause ∧
    (s.weighSlot b slot).restartPending = s.restartPending ∧ (s.weighSlot b slot).link = s.link ∧ (s.weighSlot b
    slot).burner = s.burner ∧ (s.weighSlot b slot).envelope = s.envelope ∧ (s.weighSlot b slot).cooler =
    s.cooler ∧ (s.weighSlot b slot).field = s.field ∧ (s.weighSlot b slot).pending = s.pending := by
  unfold State.weighSlot
  simp -failIfUnchanged <;> (repeat' split) <;> simp

@[simp] theorem State.burnerTo_frame (s : State) (st : BurnerState) : (s.burnerTo st).floorTime = s.floorTime ∧
    (s.burnerTo st).resetRun = s.resetRun ∧ (s.burnerTo st).pinLow = s.pinLow ∧ (s.burnerTo st).supplyLow =
    s.supplyLow ∧ (s.burnerTo st).restartCause = s.restartCause ∧ (s.burnerTo st).restartPending =
    s.restartPending ∧ (s.burnerTo st).link = s.link ∧ (s.burnerTo st).lines = s.lines ∧ (s.burnerTo st).batches
    = s.batches ∧ (s.burnerTo st).envelope = s.envelope ∧ (s.burnerTo st).heat = s.heat ∧ (s.burnerTo st).cooler
    = s.cooler ∧ (s.burnerTo st).alarm = s.alarm ∧ (s.burnerTo st).attention = s.attention ∧ (s.burnerTo
    st).shift = s.shift ∧ (s.burnerTo st).pending = s.pending := by
  unfold State.burnerTo
  simp -failIfUnchanged <;> (repeat' split) <;> simp

@[simp] theorem State.toIdle_frame (s : State) (reason : StopReason) : (s.toIdle reason).floorTime = s.floorTime
    ∧ (s.toIdle reason).resetRun = s.resetRun ∧ (s.toIdle reason).pinLow = s.pinLow ∧ (s.toIdle
    reason).supplyLow = s.supplyLow ∧ (s.toIdle reason).restartCause = s.restartCause ∧ (s.toIdle
    reason).restartPending = s.restartPending ∧ (s.toIdle reason).link = s.link ∧ (s.toIdle reason).lines =
    s.lines ∧ (s.toIdle reason).batches = s.batches ∧ (s.toIdle reason).envelope = s.envelope ∧ (s.toIdle
    reason).heat = s.heat ∧ (s.toIdle reason).cooler = s.cooler ∧ (s.toIdle reason).alarm = s.alarm ∧ (s.toIdle
    reason).pending = s.pending := by
  unfold State.toIdle
  simp -failIfUnchanged <;> (repeat' split) <;> simp

@[simp] theorem State.setOwners_frame (s : State) (o : Owner) : (s.setOwners o).floorTime = s.floorTime ∧
    (s.setOwners o).resetRun = s.resetRun ∧ (s.setOwners o).pinLow = s.pinLow ∧ (s.setOwners o).supplyLow =
    s.supplyLow ∧ (s.setOwners o).restartCause = s.restartCause ∧ (s.setOwners o).restartPending =
    s.restartPending ∧ (s.setOwners o).link = s.link ∧ (s.setOwners o).lines = s.lines ∧ (s.setOwners o).batches
    = s.batches ∧ (s.setOwners o).envelope = s.envelope ∧ (s.setOwners o).heat = s.heat ∧ (s.setOwners o).cooler
    = s.cooler ∧ (s.setOwners o).field = s.field ∧ (s.setOwners o).alarm = s.alarm ∧ (s.setOwners o).attention =
    s.attention ∧ (s.setOwners o).shift = s.shift ∧ (s.setOwners o).pending = s.pending := by
  unfold State.setOwners
  simp -failIfUnchanged <;> (repeat' split) <;> simp

@[simp] theorem State.completeWork_frame (s : State) (a : Fin 2) (o : WorkOutcome) : (s.completeWork a
    o).floorTime = s.floorTime ∧ (s.completeWork a o).resetRun = s.resetRun ∧ (s.completeWork a o).pinLow =
    s.pinLow ∧ (s.completeWork a o).supplyLow = s.supplyLow ∧ (s.completeWork a o).restartCause = s.restartCause
    ∧ (s.completeWork a o).restartPending = s.restartPending ∧ (s.completeWork a o).link = s.link ∧
    (s.completeWork a o).lines = s.lines ∧ (s.completeWork a o).batches = s.batches ∧ (s.completeWork a
    o).envelope = s.envelope ∧ (s.completeWork a o).heat = s.heat ∧ (s.completeWork a o).cooler = s.cooler ∧
    (s.completeWork a o).field = s.field ∧ (s.completeWork a o).alarm = s.alarm ∧ (s.completeWork a o).shift =
    s.shift ∧ (s.completeWork a o).pending = s.pending := by
  unfold State.completeWork
  simp -failIfUnchanged <;> (repeat' split) <;> simp

@[simp] theorem State.endWork_frame (s : State) (a : Fin 2) (o : WorkOutcome) : (s.endWork a o).floorTime =
    s.floorTime ∧ (s.endWork a o).resetRun = s.resetRun ∧ (s.endWork a o).pinLow = s.pinLow ∧ (s.endWork a
    o).supplyLow = s.supplyLow ∧ (s.endWork a o).restartCause = s.restartCause ∧ (s.endWork a o).restartPending
    = s.restartPending ∧ (s.endWork a o).link = s.link ∧ (s.endWork a o).lines = s.lines ∧ (s.endWork a
    o).batches = s.batches ∧ (s.endWork a o).envelope = s.envelope ∧ (s.endWork a o).heat = s.heat ∧ (s.endWork
    a o).cooler = s.cooler ∧ (s.endWork a o).field = s.field ∧ (s.endWork a o).alarm = s.alarm ∧ (s.endWork a
    o).shift = s.shift ∧ (s.endWork a o).pending = s.pending := by
  unfold State.endWork
  simp -failIfUnchanged <;> (repeat' split) <;> simp

@[simp] theorem State.abortWork_frame (s : State) : (s.abortWork).floorTime = s.floorTime ∧
    (s.abortWork).resetRun = s.resetRun ∧ (s.abortWork).pinLow = s.pinLow ∧ (s.abortWork).supplyLow =
    s.supplyLow ∧ (s.abortWork).restartCause = s.restartCause ∧ (s.abortWork).restartPending = s.restartPending
    ∧ (s.abortWork).link = s.link ∧ (s.abortWork).lines = s.lines ∧ (s.abortWork).batches = s.batches ∧
    (s.abortWork).envelope = s.envelope ∧ (s.abortWork).heat = s.heat ∧ (s.abortWork).cooler = s.cooler ∧
    (s.abortWork).field = s.field ∧ (s.abortWork).alarm = s.alarm ∧ (s.abortWork).shift = s.shift ∧
    (s.abortWork).pending = s.pending := by
  unfold State.abortWork
  simp -failIfUnchanged [foldl_floorTime, foldl_resetRun, foldl_pinLow, foldl_supplyLow, foldl_restartCause, foldl_restartPending, foldl_link, foldl_lines, foldl_batches, foldl_envelope, foldl_heat, foldl_cooler, foldl_field, foldl_alarm, foldl_shift, foldl_pending] <;> (repeat' split) <;> simp

@[simp] theorem State.startMove_frame (s : State) (a : Fin 2) (target : Nat) : (s.startMove a target).floorTime
    = s.floorTime ∧ (s.startMove a target).resetRun = s.resetRun ∧ (s.startMove a target).pinLow = s.pinLow ∧
    (s.startMove a target).supplyLow = s.supplyLow ∧ (s.startMove a target).restartCause = s.restartCause ∧
    (s.startMove a target).restartPending = s.restartPending ∧ (s.startMove a target).link = s.link ∧
    (s.startMove a target).lines = s.lines ∧ (s.startMove a target).batches = s.batches ∧ (s.startMove a
    target).envelope = s.envelope ∧ (s.startMove a target).heat = s.heat ∧ (s.startMove a target).cooler =
    s.cooler ∧ (s.startMove a target).field = s.field ∧ (s.startMove a target).alarm = s.alarm ∧ (s.startMove a
    target).attention = s.attention ∧ (s.startMove a target).shift = s.shift ∧ (s.startMove a target).pending =
    s.pending := by
  unfold State.startMove
  simp -failIfUnchanged <;> (repeat' split) <;> simp

@[simp] theorem State.homeDone_frame (s : State) (a : Fin 2) : (s.homeDone a).floorTime = s.floorTime ∧
    (s.homeDone a).resetRun = s.resetRun ∧ (s.homeDone a).pinLow = s.pinLow ∧ (s.homeDone a).supplyLow =
    s.supplyLow ∧ (s.homeDone a).restartCause = s.restartCause ∧ (s.homeDone a).restartPending =
    s.restartPending ∧ (s.homeDone a).link = s.link ∧ (s.homeDone a).lines = s.lines ∧ (s.homeDone a).batches =
    s.batches ∧ (s.homeDone a).envelope = s.envelope ∧ (s.homeDone a).heat = s.heat ∧ (s.homeDone a).cooler =
    s.cooler ∧ (s.homeDone a).field = s.field ∧ (s.homeDone a).alarm = s.alarm ∧ (s.homeDone a).shift = s.shift
    ∧ (s.homeDone a).pending = s.pending := by
  unfold State.homeDone
  simp -failIfUnchanged <;> (repeat' split) <;> simp

@[simp] theorem State.startHome_frame (s : State) (a : Fin 2) : (s.startHome a).floorTime = s.floorTime ∧
    (s.startHome a).resetRun = s.resetRun ∧ (s.startHome a).pinLow = s.pinLow ∧ (s.startHome a).supplyLow =
    s.supplyLow ∧ (s.startHome a).restartCause = s.restartCause ∧ (s.startHome a).restartPending =
    s.restartPending ∧ (s.startHome a).link = s.link ∧ (s.startHome a).lines = s.lines ∧ (s.startHome a).batches
    = s.batches ∧ (s.startHome a).envelope = s.envelope ∧ (s.startHome a).heat = s.heat ∧ (s.startHome a).cooler
    = s.cooler ∧ (s.startHome a).field = s.field ∧ (s.startHome a).alarm = s.alarm ∧ (s.startHome a).shift =
    s.shift ∧ (s.startHome a).pending = s.pending := by
  unfold State.startHome
  simp -failIfUnchanged <;> (repeat' split) <;> simp

@[simp] theorem State.sequenceEnd_frame (s : State) (reason : StopReason) : (s.sequenceEnd reason).floorTime =
    s.floorTime ∧ (s.sequenceEnd reason).resetRun = s.resetRun ∧ (s.sequenceEnd reason).pinLow = s.pinLow ∧
    (s.sequenceEnd reason).supplyLow = s.supplyLow ∧ (s.sequenceEnd reason).restartCause = s.restartCause ∧
    (s.sequenceEnd reason).restartPending = s.restartPending ∧ (s.sequenceEnd reason).link = s.link ∧
    (s.sequenceEnd reason).lines = s.lines ∧ (s.sequenceEnd reason).batches = s.batches ∧ (s.sequenceEnd
    reason).envelope = s.envelope ∧ (s.sequenceEnd reason).heat = s.heat ∧ (s.sequenceEnd reason).cooler =
    s.cooler ∧ (s.sequenceEnd reason).alarm = s.alarm ∧ (s.sequenceEnd reason).pending = s.pending := by
  unfold State.sequenceEnd
  simp -failIfUnchanged <;> (repeat' split) <;> simp

@[simp] theorem State.sequenceFault_frame (s : State) : (s.sequenceFault).floorTime = s.floorTime ∧
    (s.sequenceFault).resetRun = s.resetRun ∧ (s.sequenceFault).pinLow = s.pinLow ∧ (s.sequenceFault).supplyLow
    = s.supplyLow ∧ (s.sequenceFault).restartCause = s.restartCause ∧ (s.sequenceFault).restartPending =
    s.restartPending ∧ (s.sequenceFault).link = s.link ∧ (s.sequenceFault).lines = s.lines ∧
    (s.sequenceFault).batches = s.batches ∧ (s.sequenceFault).envelope = s.envelope ∧ (s.sequenceFault).heat =
    s.heat ∧ (s.sequenceFault).cooler = s.cooler ∧ (s.sequenceFault).alarm = s.alarm ∧ (s.sequenceFault).pending
    = s.pending := by
  unfold State.sequenceFault
  simp -failIfUnchanged <;> (repeat' split) <;> simp

@[simp] theorem State.toIgnition_frame (s : State) : (s.toIgnition).floorTime = s.floorTime ∧
    (s.toIgnition).resetRun = s.resetRun ∧ (s.toIgnition).pinLow = s.pinLow ∧ (s.toIgnition).supplyLow =
    s.supplyLow ∧ (s.toIgnition).restartCause = s.restartCause ∧ (s.toIgnition).restartPending =
    s.restartPending ∧ (s.toIgnition).link = s.link ∧ (s.toIgnition).lines = s.lines ∧ (s.toIgnition).batches =
    s.batches ∧ (s.toIgnition).envelope = s.envelope ∧ (s.toIgnition).heat = s.heat ∧ (s.toIgnition).cooler =
    s.cooler ∧ (s.toIgnition).alarm = s.alarm ∧ (s.toIgnition).pending = s.pending := by
  unfold State.toIgnition
  simp -failIfUnchanged <;> (repeat' split) <;> simp

@[simp] theorem State.homeFailed_frame (s : State) (a : Fin 2) : (s.homeFailed a).floorTime = s.floorTime ∧
    (s.homeFailed a).resetRun = s.resetRun ∧ (s.homeFailed a).pinLow = s.pinLow ∧ (s.homeFailed a).supplyLow =
    s.supplyLow ∧ (s.homeFailed a).restartCause = s.restartCause ∧ (s.homeFailed a).restartPending =
    s.restartPending ∧ (s.homeFailed a).link = s.link ∧ (s.homeFailed a).lines = s.lines ∧ (s.homeFailed
    a).batches = s.batches ∧ (s.homeFailed a).envelope = s.envelope ∧ (s.homeFailed a).heat = s.heat ∧
    (s.homeFailed a).cooler = s.cooler ∧ (s.homeFailed a).alarm = s.alarm ∧ (s.homeFailed a).pending = s.pending
    := by
  unfold State.homeFailed
  simp -failIfUnchanged <;> (repeat' split) <;> simp

@[simp] theorem State.settled_frame (s : State) (a : Fin 2) : (s.settled a).floorTime = s.floorTime ∧ (s.settled
    a).resetRun = s.resetRun ∧ (s.settled a).pinLow = s.pinLow ∧ (s.settled a).supplyLow = s.supplyLow ∧
    (s.settled a).restartCause = s.restartCause ∧ (s.settled a).restartPending = s.restartPending ∧ (s.settled
    a).link = s.link ∧ (s.settled a).lines = s.lines ∧ (s.settled a).batches = s.batches ∧ (s.settled
    a).envelope = s.envelope ∧ (s.settled a).heat = s.heat ∧ (s.settled a).cooler = s.cooler ∧ (s.settled
    a).alarm = s.alarm ∧ (s.settled a).pending = s.pending := by
  unfold State.settled
  simp -failIfUnchanged <;> (repeat' split) <;> simp

@[simp] theorem State.enterLockout_frame (s : State) (cause : Cause) (point : Option Nat) : (s.enterLockout
    cause point).floorTime = s.floorTime ∧ (s.enterLockout cause point).resetRun = s.resetRun ∧ (s.enterLockout
    cause point).pinLow = s.pinLow ∧ (s.enterLockout cause point).supplyLow = s.supplyLow ∧ (s.enterLockout
    cause point).restartCause = s.restartCause ∧ (s.enterLockout cause point).restartPending = s.restartPending
    ∧ (s.enterLockout cause point).link = s.link ∧ (s.enterLockout cause point).envelope = s.envelope ∧
    (s.enterLockout cause point).cooler = s.cooler ∧ (s.enterLockout cause point).pending = s.pending := by
  unfold State.enterLockout
  simp -failIfUnchanged [foldl_floorTime, foldl_resetRun, foldl_pinLow, foldl_supplyLow, foldl_restartCause, foldl_restartPending, foldl_link, foldl_envelope, foldl_cooler, foldl_pending] <;> (repeat' split) <;> simp

@[simp] theorem State.countClaim_frame (s : State) : (s.countClaim).floorTime = s.floorTime ∧
    (s.countClaim).resetRun = s.resetRun ∧ (s.countClaim).pinLow = s.pinLow ∧ (s.countClaim).supplyLow =
    s.supplyLow ∧ (s.countClaim).restartCause = s.restartCause ∧ (s.countClaim).restartPending =
    s.restartPending ∧ (s.countClaim).link = s.link ∧ (s.countClaim).lines = s.lines ∧ (s.countClaim).batches =
    s.batches ∧ (s.countClaim).envelope = s.envelope ∧ (s.countClaim).heat = s.heat ∧ (s.countClaim).cooler =
    s.cooler ∧ (s.countClaim).field = s.field ∧ (s.countClaim).alarm = s.alarm ∧ (s.countClaim).attention =
    s.attention ∧ (s.countClaim).shift = s.shift ∧ (s.countClaim).pending = s.pending := by
  unfold State.countClaim
  simp -failIfUnchanged <;> (repeat' split) <;> simp

@[simp] theorem State.tripClaim_frame (s : State) (point : Nat) : (s.tripClaim point).floorTime = s.floorTime ∧
    (s.tripClaim point).resetRun = s.resetRun ∧ (s.tripClaim point).pinLow = s.pinLow ∧ (s.tripClaim
    point).supplyLow = s.supplyLow ∧ (s.tripClaim point).restartCause = s.restartCause ∧ (s.tripClaim
    point).restartPending = s.restartPending ∧ (s.tripClaim point).link = s.link ∧ (s.tripClaim point).envelope
    = s.envelope ∧ (s.tripClaim point).cooler = s.cooler ∧ (s.tripClaim point).pending = s.pending := by
  unfold State.tripClaim
  simp -failIfUnchanged <;> (repeat' split) <;> simp

@[simp] theorem State.emergency_frame (s : State) (cause : Cause) : (s.emergency cause).floorTime = s.floorTime
    ∧ (s.emergency cause).resetRun = s.resetRun ∧ (s.emergency cause).pinLow = s.pinLow ∧ (s.emergency
    cause).supplyLow = s.supplyLow ∧ (s.emergency cause).restartCause = s.restartCause ∧ (s.emergency
    cause).restartPending = s.restartPending ∧ (s.emergency cause).link = s.link ∧ (s.emergency cause).envelope
    = s.envelope ∧ (s.emergency cause).cooler = s.cooler ∧ (s.emergency cause).pending = s.pending := by
  unfold State.emergency
  simp -failIfUnchanged <;> (repeat' split) <;> simp

@[simp] theorem State.coolerStop_frame (s : State) : (s.coolerStop).floorTime = s.floorTime ∧
    (s.coolerStop).resetRun = s.resetRun ∧ (s.coolerStop).pinLow = s.pinLow ∧ (s.coolerStop).supplyLow =
    s.supplyLow ∧ (s.coolerStop).restartCause = s.restartCause ∧ (s.coolerStop).restartPending =
    s.restartPending ∧ (s.coolerStop).link = s.link ∧ (s.coolerStop).envelope = s.envelope ∧
    (s.coolerStop).cooler = s.cooler ∧ (s.coolerStop).pending = s.pending := by
  unfold State.coolerStop
  simp -failIfUnchanged <;> (repeat' split) <;> simp

@[simp] theorem State.claimForPurge_frame (s : State) (a : Fin 2) : (s.claimForPurge a).floorTime = s.floorTime
    ∧ (s.claimForPurge a).resetRun = s.resetRun ∧ (s.claimForPurge a).pinLow = s.pinLow ∧ (s.claimForPurge
    a).supplyLow = s.supplyLow ∧ (s.claimForPurge a).restartCause = s.restartCause ∧ (s.claimForPurge
    a).restartPending = s.restartPending ∧ (s.claimForPurge a).link = s.link ∧ (s.claimForPurge a).lines =
    s.lines ∧ (s.claimForPurge a).batches = s.batches ∧ (s.claimForPurge a).envelope = s.envelope ∧
    (s.claimForPurge a).heat = s.heat ∧ (s.claimForPurge a).cooler = s.cooler ∧ (s.claimForPurge a).field =
    s.field ∧ (s.claimForPurge a).alarm = s.alarm ∧ (s.claimForPurge a).shift = s.shift ∧ (s.claimForPurge
    a).pending = s.pending := by
  unfold State.claimForPurge
  simp -failIfUnchanged <;> (repeat' split) <;> simp

@[simp] theorem State.toPurge_frame (s : State) : (s.toPurge).floorTime = s.floorTime ∧ (s.toPurge).resetRun =
    s.resetRun ∧ (s.toPurge).pinLow = s.pinLow ∧ (s.toPurge).supplyLow = s.supplyLow ∧ (s.toPurge).restartCause
    = s.restartCause ∧ (s.toPurge).restartPending = s.restartPending ∧ (s.toPurge).link = s.link ∧
    (s.toPurge).lines = s.lines ∧ (s.toPurge).batches = s.batches ∧ (s.toPurge).envelope = s.envelope ∧
    (s.toPurge).heat = s.heat ∧ (s.toPurge).cooler = s.cooler ∧ (s.toPurge).alarm = s.alarm ∧
    (s.toPurge).pending = s.pending := by
  unfold State.toPurge
  simp -failIfUnchanged [foldl_floorTime, foldl_resetRun, foldl_pinLow, foldl_supplyLow, foldl_restartCause, foldl_restartPending, foldl_link, foldl_lines, foldl_batches, foldl_envelope, foldl_heat, foldl_cooler, foldl_alarm, foldl_pending] <;> (repeat' split) <;> simp

@[simp] theorem State.toPrepare_frame (s : State) : (s.toPrepare).floorTime = s.floorTime ∧
    (s.toPrepare).resetRun = s.resetRun ∧ (s.toPrepare).pinLow = s.pinLow ∧ (s.toPrepare).supplyLow =
    s.supplyLow ∧ (s.toPrepare).restartCause = s.restartCause ∧ (s.toPrepare).restartPending = s.restartPending
    ∧ (s.toPrepare).link = s.link ∧ (s.toPrepare).lines = s.lines ∧ (s.toPrepare).batches = s.batches ∧
    (s.toPrepare).envelope = s.envelope ∧ (s.toPrepare).heat = s.heat ∧ (s.toPrepare).cooler = s.cooler ∧
    (s.toPrepare).alarm = s.alarm ∧ (s.toPrepare).shift = s.shift ∧ (s.toPrepare).pending = s.pending := by
  unfold State.toPrepare
  simp -failIfUnchanged [foldl_floorTime, foldl_resetRun, foldl_pinLow, foldl_supplyLow, foldl_restartCause, foldl_restartPending, foldl_link, foldl_lines, foldl_batches, foldl_envelope, foldl_heat, foldl_cooler, foldl_alarm, foldl_shift, foldl_pending] <;> (repeat' split) <;> simp

@[simp] theorem State.toPilot_frame (s : State) : (s.toPilot).floorTime = s.floorTime ∧ (s.toPilot).resetRun =
    s.resetRun ∧ (s.toPilot).pinLow = s.pinLow ∧ (s.toPilot).supplyLow = s.supplyLow ∧ (s.toPilot).restartCause
    = s.restartCause ∧ (s.toPilot).restartPending = s.restartPending ∧ (s.toPilot).link = s.link ∧
    (s.toPilot).lines = s.lines ∧ (s.toPilot).batches = s.batches ∧ (s.toPilot).envelope = s.envelope ∧
    (s.toPilot).heat = s.heat ∧ (s.toPilot).cooler = s.cooler ∧ (s.toPilot).alarm = s.alarm ∧ (s.toPilot).shift
    = s.shift ∧ (s.toPilot).pending = s.pending := by
  unfold State.toPilot
  simp -failIfUnchanged <;> (repeat' split) <;> simp

@[simp] theorem State.toMainTrial_frame (s : State) (named : List (Fin 6)) : (s.toMainTrial named).floorTime =
    s.floorTime ∧ (s.toMainTrial named).resetRun = s.resetRun ∧ (s.toMainTrial named).pinLow = s.pinLow ∧
    (s.toMainTrial named).supplyLow = s.supplyLow ∧ (s.toMainTrial named).restartCause = s.restartCause ∧
    (s.toMainTrial named).restartPending = s.restartPending ∧ (s.toMainTrial named).link = s.link ∧
    (s.toMainTrial named).batches = s.batches ∧ (s.toMainTrial named).envelope = s.envelope ∧ (s.toMainTrial
    named).cooler = s.cooler ∧ (s.toMainTrial named).alarm = s.alarm ∧ (s.toMainTrial named).shift = s.shift ∧
    (s.toMainTrial named).pending = s.pending := by
  unfold State.toMainTrial
  simp -failIfUnchanged [foldl_floorTime, foldl_resetRun, foldl_pinLow, foldl_supplyLow, foldl_restartCause, foldl_restartPending, foldl_link, foldl_batches, foldl_envelope, foldl_cooler, foldl_alarm, foldl_shift, foldl_pending] <;> (repeat' split) <;> simp

@[simp] theorem State.toMainFiring_frame (s : State) : (s.toMainFiring).floorTime = s.floorTime ∧
    (s.toMainFiring).resetRun = s.resetRun ∧ (s.toMainFiring).pinLow = s.pinLow ∧ (s.toMainFiring).supplyLow =
    s.supplyLow ∧ (s.toMainFiring).restartCause = s.restartCause ∧ (s.toMainFiring).restartPending =
    s.restartPending ∧ (s.toMainFiring).link = s.link ∧ (s.toMainFiring).batches = s.batches ∧
    (s.toMainFiring).envelope = s.envelope ∧ (s.toMainFiring).cooler = s.cooler ∧ (s.toMainFiring).alarm =
    s.alarm ∧ (s.toMainFiring).pending = s.pending := by
  unfold State.toMainFiring
  simp -failIfUnchanged <;> (repeat' split) <;> simp

@[simp] theorem State.rampCeiling_frame (s : State) (k : Nat) : (s.rampCeiling k).floorTime = s.floorTime ∧
    (s.rampCeiling k).resetRun = s.resetRun ∧ (s.rampCeiling k).pinLow = s.pinLow ∧ (s.rampCeiling k).supplyLow
    = s.supplyLow ∧ (s.rampCeiling k).restartCause = s.restartCause ∧ (s.rampCeiling k).restartPending =
    s.restartPending ∧ (s.rampCeiling k).link = s.link ∧ (s.rampCeiling k).batches = s.batches ∧ (s.rampCeiling
    k).envelope = s.envelope ∧ (s.rampCeiling k).cooler = s.cooler ∧ (s.rampCeiling k).field = s.field ∧
    (s.rampCeiling k).alarm = s.alarm ∧ (s.rampCeiling k).attention = s.attention ∧ (s.rampCeiling k).shift =
    s.shift ∧ (s.rampCeiling k).pending = s.pending := by
  unfold State.rampCeiling
  simp -failIfUnchanged <;> (repeat' split) <;> simp

@[simp] theorem State.toStopping_frame (s : State) : (s.toStopping).floorTime = s.floorTime ∧
    (s.toStopping).resetRun = s.resetRun ∧ (s.toStopping).pinLow = s.pinLow ∧ (s.toStopping).supplyLow =
    s.supplyLow ∧ (s.toStopping).restartCause = s.restartCause ∧ (s.toStopping).restartPending =
    s.restartPending ∧ (s.toStopping).link = s.link ∧ (s.toStopping).envelope = s.envelope ∧
    (s.toStopping).cooler = s.cooler ∧ (s.toStopping).pending = s.pending := by
  unfold State.toStopping
  refine ⟨?_, ?_, ?_, ?_, ?_, ?_, ?_, ?_, ?_, ?_⟩
  · rw [foldl_floorTime _ (by intro s l; split <;> simp)]; simp
  · rw [foldl_resetRun _ (by intro s l; split <;> simp)]; simp
  · rw [foldl_pinLow _ (by intro s l; split <;> simp)]; simp
  · rw [foldl_supplyLow _ (by intro s l; split <;> simp)]; simp
  · rw [foldl_restartCause _ (by intro s l; split <;> simp)]; simp
  · rw [foldl_restartPending _ (by intro s l; split <;> simp)]; simp
  · rw [foldl_link _ (by intro s l; split <;> simp)]; simp
  · rw [foldl_envelope _ (by intro s l; split <;> simp)]; simp
  · rw [foldl_cooler _ (by intro s l; split <;> simp)]; simp
  · rw [foldl_pending _ (by intro s l; split <;> simp)]; simp

@[simp] theorem State.watchLines_frame (s : State) : (s.watchLines).floorTime = s.floorTime ∧
    (s.watchLines).resetRun = s.resetRun ∧ (s.watchLines).pinLow = s.pinLow ∧ (s.watchLines).supplyLow =
    s.supplyLow ∧ (s.watchLines).restartCause = s.restartCause ∧ (s.watchLines).restartPending =
    s.restartPending ∧ (s.watchLines).link = s.link ∧ (s.watchLines).lines = s.lines ∧ (s.watchLines).batches =
    s.batches ∧ (s.watchLines).envelope = s.envelope ∧ (s.watchLines).heat = s.heat ∧ (s.watchLines).cooler =
    s.cooler ∧ (s.watchLines).alarm = s.alarm ∧ (s.watchLines).pending = s.pending := by
  unfold State.watchLines
  simp -failIfUnchanged <;> (repeat' split) <;> simp

@[simp] theorem State.watchBurner_frame (s : State) : (s.watchBurner).floorTime = s.floorTime ∧
    (s.watchBurner).resetRun = s.resetRun ∧ (s.watchBurner).pinLow = s.pinLow ∧ (s.watchBurner).supplyLow =
    s.supplyLow ∧ (s.watchBurner).restartCause = s.restartCause ∧ (s.watchBurner).restartPending =
    s.restartPending ∧ (s.watchBurner).link = s.link ∧ (s.watchBurner).lines = s.lines ∧ (s.watchBurner).batches
    = s.batches ∧ (s.watchBurner).envelope = s.envelope ∧ (s.watchBurner).heat = s.heat ∧ (s.watchBurner).cooler
    = s.cooler ∧ (s.watchBurner).field = s.field ∧ (s.watchBurner).alarm = s.alarm ∧ (s.watchBurner).attention =
    s.attention ∧ (s.watchBurner).shift = s.shift ∧ (s.watchBurner).pending = s.pending := by
  unfold State.watchBurner
  simp -failIfUnchanged <;> (repeat' split) <;> simp

@[simp] theorem State.listChange_frame (s : State) (i : Fin 96) (new : PointState) : (s.listChange i
    new).floorTime = s.floorTime ∧ (s.listChange i new).resetRun = s.resetRun ∧ (s.listChange i new).pinLow =
    s.pinLow ∧ (s.listChange i new).supplyLow = s.supplyLow ∧ (s.listChange i new).restartCause = s.restartCause
    ∧ (s.listChange i new).restartPending = s.restartPending ∧ (s.listChange i new).link = s.link ∧
    (s.listChange i new).burner = s.burner ∧ (s.listChange i new).lines = s.lines ∧ (s.listChange i new).batches
    = s.batches ∧ (s.listChange i new).envelope = s.envelope ∧ (s.listChange i new).heat = s.heat ∧
    (s.listChange i new).cooler = s.cooler ∧ (s.listChange i new).field = s.field ∧ (s.listChange i new).shift =
    s.shift ∧ (s.listChange i new).pending = s.pending := by
  unfold State.listChange
  simp -failIfUnchanged <;> (repeat' split) <;> simp

@[simp] theorem State.claimCutBack_frame (s : State) (i : Fin 96) (cutBack : Nat) (old new : PointState) :
    (s.claimCutBack i cutBack old new).floorTime = s.floorTime ∧ (s.claimCutBack i cutBack old new).resetRun =
    s.resetRun ∧ (s.claimCutBack i cutBack old new).pinLow = s.pinLow ∧ (s.claimCutBack i cutBack old
    new).supplyLow = s.supplyLow ∧ (s.claimCutBack i cutBack old new).restartCause = s.restartCause ∧
    (s.claimCutBack i cutBack old new).restartPending = s.restartPending ∧ (s.claimCutBack i cutBack old
    new).link = s.link ∧ (s.claimCutBack i cutBack old new).burner = s.burner ∧ (s.claimCutBack i cutBack old
    new).batches = s.batches ∧ (s.claimCutBack i cutBack old new).envelope = s.envelope ∧ (s.claimCutBack i
    cutBack old new).cooler = s.cooler ∧ (s.claimCutBack i cutBack old new).field = s.field ∧ (s.claimCutBack i
    cutBack old new).alarm = s.alarm ∧ (s.claimCutBack i cutBack old new).attention = s.attention ∧
    (s.claimCutBack i cutBack old new).shift = s.shift ∧ (s.claimCutBack i cutBack old new).pending = s.pending
    := by
  unfold State.claimCutBack
  simp -failIfUnchanged <;> (repeat' split) <;> simp

@[simp] theorem State.formHorn_frame (s : State) : (s.formHorn).floorTime = s.floorTime ∧ (s.formHorn).resetRun
    = s.resetRun ∧ (s.formHorn).pinLow = s.pinLow ∧ (s.formHorn).supplyLow = s.supplyLow ∧
    (s.formHorn).restartCause = s.restartCause ∧ (s.formHorn).restartPending = s.restartPending ∧
    (s.formHorn).link = s.link ∧ (s.formHorn).burner = s.burner ∧ (s.formHorn).lines = s.lines ∧
    (s.formHorn).batches = s.batches ∧ (s.formHorn).envelope = s.envelope ∧ (s.formHorn).heat = s.heat ∧
    (s.formHorn).cooler = s.cooler ∧ (s.formHorn).field = s.field ∧ (s.formHorn).attention = s.attention ∧
    (s.formHorn).pending = s.pending := by
  unfold State.formHorn
  simp -failIfUnchanged <;> (repeat' split) <;> simp

@[simp] theorem State.enterPoint_frame (s : State) (i : Fin 96) (new : PointState) : (s.enterPoint i
    new).floorTime = s.floorTime ∧ (s.enterPoint i new).resetRun = s.resetRun ∧ (s.enterPoint i new).pinLow =
    s.pinLow ∧ (s.enterPoint i new).supplyLow = s.supplyLow ∧ (s.enterPoint i new).restartCause = s.restartCause
    ∧ (s.enterPoint i new).restartPending = s.restartPending ∧ (s.enterPoint i new).link = s.link ∧
    (s.enterPoint i new).burner = s.burner ∧ (s.enterPoint i new).batches = s.batches ∧ (s.enterPoint i
    new).envelope = s.envelope ∧ (s.enterPoint i new).cooler = s.cooler ∧ (s.enterPoint i new).field = s.field ∧
    (s.enterPoint i new).pending = s.pending := by
  unfold State.enterPoint
  simp -failIfUnchanged <;> (repeat' split) <;> simp

@[simp] theorem State.restPoint_frame (s : State) (i : Fin 96) : (s.restPoint i).floorTime = s.floorTime ∧
    (s.restPoint i).resetRun = s.resetRun ∧ (s.restPoint i).pinLow = s.pinLow ∧ (s.restPoint i).supplyLow =
    s.supplyLow ∧ (s.restPoint i).restartCause = s.restartCause ∧ (s.restPoint i).restartPending =
    s.restartPending ∧ (s.restPoint i).link = s.link ∧ (s.restPoint i).burner = s.burner ∧ (s.restPoint
    i).batches = s.batches ∧ (s.restPoint i).envelope = s.envelope ∧ (s.restPoint i).cooler = s.cooler ∧
    (s.restPoint i).field = s.field ∧ (s.restPoint i).pending = s.pending := by
  unfold State.restPoint
  simp -failIfUnchanged <;> (repeat' split) <;> simp

@[simp] theorem State.raiseOnce_frame (s : State) (i : Fin 96) : (s.raiseOnce i).floorTime = s.floorTime ∧
    (s.raiseOnce i).resetRun = s.resetRun ∧ (s.raiseOnce i).pinLow = s.pinLow ∧ (s.raiseOnce i).supplyLow =
    s.supplyLow ∧ (s.raiseOnce i).restartCause = s.restartCause ∧ (s.raiseOnce i).restartPending =
    s.restartPending ∧ (s.raiseOnce i).link = s.link ∧ (s.raiseOnce i).burner = s.burner ∧ (s.raiseOnce
    i).batches = s.batches ∧ (s.raiseOnce i).envelope = s.envelope ∧ (s.raiseOnce i).cooler = s.cooler ∧
    (s.raiseOnce i).field = s.field ∧ (s.raiseOnce i).pending = s.pending := by
  unfold State.raiseOnce
  simp -failIfUnchanged <;> (repeat' split) <;> simp

@[simp] theorem State.raiseFlood_frame (s : State) : (s.raiseFlood).floorTime = s.floorTime ∧
    (s.raiseFlood).resetRun = s.resetRun ∧ (s.raiseFlood).pinLow = s.pinLow ∧ (s.raiseFlood).supplyLow =
    s.supplyLow ∧ (s.raiseFlood).restartCause = s.restartCause ∧ (s.raiseFlood).restartPending =
    s.restartPending ∧ (s.raiseFlood).link = s.link ∧ (s.raiseFlood).burner = s.burner ∧ (s.raiseFlood).batches
    = s.batches ∧ (s.raiseFlood).envelope = s.envelope ∧ (s.raiseFlood).cooler = s.cooler ∧ (s.raiseFlood).field
    = s.field ∧ (s.raiseFlood).pending = s.pending := by
  unfold State.raiseFlood
  simp -failIfUnchanged <;> (repeat' split) <;> simp

@[simp] theorem State.watchFlood_frame (s : State) : (s.watchFlood).floorTime = s.floorTime ∧
    (s.watchFlood).resetRun = s.resetRun ∧ (s.watchFlood).pinLow = s.pinLow ∧ (s.watchFlood).supplyLow =
    s.supplyLow ∧ (s.watchFlood).restartCause = s.restartCause ∧ (s.watchFlood).restartPending =
    s.restartPending ∧ (s.watchFlood).link = s.link ∧ (s.watchFlood).burner = s.burner ∧ (s.watchFlood).batches
    = s.batches ∧ (s.watchFlood).envelope = s.envelope ∧ (s.watchFlood).cooler = s.cooler ∧ (s.watchFlood).field
    = s.field ∧ (s.watchFlood).pending = s.pending := by
  unfold State.watchFlood
  simp -failIfUnchanged <;> (repeat' split) <;> simp

@[simp] theorem State.raisePoint_frame (s : State) (i : Fin 96) : (s.raisePoint i).floorTime = s.floorTime ∧
    (s.raisePoint i).resetRun = s.resetRun ∧ (s.raisePoint i).pinLow = s.pinLow ∧ (s.raisePoint i).supplyLow =
    s.supplyLow ∧ (s.raisePoint i).restartCause = s.restartCause ∧ (s.raisePoint i).restartPending =
    s.restartPending ∧ (s.raisePoint i).link = s.link ∧ (s.raisePoint i).envelope = s.envelope ∧ (s.raisePoint
    i).cooler = s.cooler ∧ (s.raisePoint i).pending = s.pending := by
  unfold State.raisePoint
  simp -failIfUnchanged <;> (repeat' split) <;> simp

@[simp] theorem State.becomeActive_frame (s : State) (i : Fin 96) : (s.becomeActive i).floorTime = s.floorTime ∧
    (s.becomeActive i).resetRun = s.resetRun ∧ (s.becomeActive i).pinLow = s.pinLow ∧ (s.becomeActive
    i).supplyLow = s.supplyLow ∧ (s.becomeActive i).restartCause = s.restartCause ∧ (s.becomeActive
    i).restartPending = s.restartPending ∧ (s.becomeActive i).link = s.link ∧ (s.becomeActive i).envelope =
    s.envelope ∧ (s.becomeActive i).cooler = s.cooler ∧ (s.becomeActive i).pending = s.pending := by
  unfold State.becomeActive
  simp -failIfUnchanged <;> (repeat' split) <;> simp

@[simp] theorem State.becomeInactive_frame (s : State) (i : Fin 96) : (s.becomeInactive i).floorTime =
    s.floorTime ∧ (s.becomeInactive i).resetRun = s.resetRun ∧ (s.becomeInactive i).pinLow = s.pinLow ∧
    (s.becomeInactive i).supplyLow = s.supplyLow ∧ (s.becomeInactive i).restartCause = s.restartCause ∧
    (s.becomeInactive i).restartPending = s.restartPending ∧ (s.becomeInactive i).link = s.link ∧
    (s.becomeInactive i).burner = s.burner ∧ (s.becomeInactive i).batches = s.batches ∧ (s.becomeInactive
    i).envelope = s.envelope ∧ (s.becomeInactive i).cooler = s.cooler ∧ (s.becomeInactive i).field = s.field ∧
    (s.becomeInactive i).pending = s.pending := by
  unfold State.becomeInactive
  simp -failIfUnchanged <;> (repeat' split) <;> simp

@[simp] theorem State.setCondition_frame (s : State) (i : Fin 96) (c : Bool) : (s.setCondition i c).floorTime =
    s.floorTime ∧ (s.setCondition i c).resetRun = s.resetRun ∧ (s.setCondition i c).pinLow = s.pinLow ∧
    (s.setCondition i c).supplyLow = s.supplyLow ∧ (s.setCondition i c).restartCause = s.restartCause ∧
    (s.setCondition i c).restartPending = s.restartPending ∧ (s.setCondition i c).link = s.link ∧
    (s.setCondition i c).envelope = s.envelope ∧ (s.setCondition i c).cooler = s.cooler ∧ (s.setCondition i
    c).pending = s.pending := by
  unfold State.setCondition
  simp -failIfUnchanged <;> (repeat' split) <;> simp

@[simp] theorem State.syncGroup_frame (s : State) (i : Fin 96) (holds : Bool) : (s.syncGroup i
    holds).floorTime = s.floorTime ∧ (s.syncGroup i holds).resetRun = s.resetRun ∧ (s.syncGroup i holds).pinLow
    = s.pinLow ∧ (s.syncGroup i holds).supplyLow = s.supplyLow ∧ (s.syncGroup i holds).restartCause =
    s.restartCause ∧ (s.syncGroup i holds).restartPending = s.restartPending ∧ (s.syncGroup i holds).link =
    s.link ∧ (s.syncGroup i holds).envelope = s.envelope ∧ (s.syncGroup i holds).cooler = s.cooler ∧
    (s.syncGroup i holds).pending = s.pending := by
  unfold State.syncGroup
  simp -failIfUnchanged <;> (repeat' split) <;> simp

@[simp] theorem State.syncPoint_frame (s before : State) (i : Fin 96) : (s.syncPoint before i).floorTime =
    s.floorTime ∧ (s.syncPoint before i).resetRun = s.resetRun ∧ (s.syncPoint before i).pinLow = s.pinLow ∧
    (s.syncPoint before i).supplyLow = s.supplyLow ∧ (s.syncPoint before i).restartCause = s.restartCause ∧
    (s.syncPoint before i).restartPending = s.restartPending ∧ (s.syncPoint before i).link = s.link ∧
    (s.syncPoint before i).envelope = s.envelope ∧ (s.syncPoint before i).cooler = s.cooler ∧ (s.syncPoint
    before i).pending = s.pending := by
  unfold State.syncPoint
  simp -failIfUnchanged <;> (repeat' split) <;> simp

@[simp] theorem State.handPoint_frame (s : State) (i : Fin 96) (c : Bool) : (s.handPoint i c).floorTime =
    s.floorTime ∧ (s.handPoint i c).resetRun = s.resetRun ∧ (s.handPoint i c).pinLow = s.pinLow ∧ (s.handPoint i
    c).supplyLow = s.supplyLow ∧ (s.handPoint i c).restartCause = s.restartCause ∧ (s.handPoint i
    c).restartPending = s.restartPending ∧ (s.handPoint i c).link = s.link ∧ (s.handPoint i c).envelope =
    s.envelope ∧ (s.handPoint i c).cooler = s.cooler ∧ (s.handPoint i c).pending = s.pending := by
  unfold State.handPoint
  simp -failIfUnchanged <;> (repeat' split) <;> simp

@[simp] theorem State.clearHanded_frame (s : State) : (s.clearHanded).floorTime = s.floorTime ∧
    (s.clearHanded).resetRun = s.resetRun ∧ (s.clearHanded).pinLow = s.pinLow ∧ (s.clearHanded).supplyLow =
    s.supplyLow ∧ (s.clearHanded).restartCause = s.restartCause ∧ (s.clearHanded).restartPending =
    s.restartPending ∧ (s.clearHanded).link = s.link ∧ (s.clearHanded).burner = s.burner ∧ (s.clearHanded).lines
    = s.lines ∧ (s.clearHanded).batches = s.batches ∧ (s.clearHanded).envelope = s.envelope ∧
    (s.clearHanded).cooler = s.cooler ∧ (s.clearHanded).field = s.field ∧ (s.clearHanded).attention =
    s.attention ∧ (s.clearHanded).shift = s.shift ∧ (s.clearHanded).pending = s.pending := by
  simp [State.clearHanded]

@[simp] theorem State.syncAlarms_frame (s : State) : (s.syncAlarms).floorTime = s.floorTime ∧
    (s.syncAlarms).resetRun = s.resetRun ∧ (s.syncAlarms).pinLow = s.pinLow ∧ (s.syncAlarms).supplyLow =
    s.supplyLow ∧ (s.syncAlarms).restartCause = s.restartCause ∧ (s.syncAlarms).restartPending =
    s.restartPending ∧ (s.syncAlarms).link = s.link ∧ (s.syncAlarms).envelope = s.envelope ∧
    (s.syncAlarms).cooler = s.cooler ∧ (s.syncAlarms).pending = s.pending := by
  unfold State.syncAlarms
  simp -failIfUnchanged [foldl_floorTime, foldl_resetRun, foldl_pinLow, foldl_supplyLow, foldl_restartCause, foldl_restartPending, foldl_link, foldl_envelope, foldl_cooler, foldl_pending] <;> (repeat' split) <;> simp

@[simp] theorem State.acknowledge_frame (s : State) (i : Fin 96) : (s.acknowledge i).1.floorTime = s.floorTime ∧
    (s.acknowledge i).1.resetRun = s.resetRun ∧ (s.acknowledge i).1.pinLow = s.pinLow ∧ (s.acknowledge
    i).1.supplyLow = s.supplyLow ∧ (s.acknowledge i).1.restartCause = s.restartCause ∧ (s.acknowledge
    i).1.restartPending = s.restartPending ∧ (s.acknowledge i).1.link = s.link ∧ (s.acknowledge i).1.burner =
    s.burner ∧ (s.acknowledge i).1.batches = s.batches ∧ (s.acknowledge i).1.envelope = s.envelope ∧
    (s.acknowledge i).1.cooler = s.cooler ∧ (s.acknowledge i).1.field = s.field ∧ (s.acknowledge i).1.pending =
    s.pending := by
  unfold State.acknowledge
  simp -failIfUnchanged <;> (repeat' split) <;> simp

@[simp] theorem State.shelvePoint_frame (s : State) (i : Fin 96) (expiry : Nat) : (s.shelvePoint i
    expiry).floorTime = s.floorTime ∧ (s.shelvePoint i expiry).resetRun = s.resetRun ∧ (s.shelvePoint i
    expiry).pinLow = s.pinLow ∧ (s.shelvePoint i expiry).supplyLow = s.supplyLow ∧ (s.shelvePoint i
    expiry).restartCause = s.restartCause ∧ (s.shelvePoint i expiry).restartPending = s.restartPending ∧
    (s.shelvePoint i expiry).link = s.link ∧ (s.shelvePoint i expiry).burner = s.burner ∧ (s.shelvePoint i
    expiry).batches = s.batches ∧ (s.shelvePoint i expiry).envelope = s.envelope ∧ (s.shelvePoint i
    expiry).cooler = s.cooler ∧ (s.shelvePoint i expiry).field = s.field ∧ (s.shelvePoint i expiry).pending =
    s.pending := by
  unfold State.shelvePoint
  simp -failIfUnchanged <;> (repeat' split) <;> simp

@[simp] theorem State.unshelvePoint_frame (s : State) (i : Fin 96) : (s.unshelvePoint i).floorTime = s.floorTime
    ∧ (s.unshelvePoint i).resetRun = s.resetRun ∧ (s.unshelvePoint i).pinLow = s.pinLow ∧ (s.unshelvePoint
    i).supplyLow = s.supplyLow ∧ (s.unshelvePoint i).restartCause = s.restartCause ∧ (s.unshelvePoint
    i).restartPending = s.restartPending ∧ (s.unshelvePoint i).link = s.link ∧ (s.unshelvePoint i).envelope =
    s.envelope ∧ (s.unshelvePoint i).cooler = s.cooler ∧ (s.unshelvePoint i).pending = s.pending := by
  unfold State.unshelvePoint
  simp -failIfUnchanged <;> (repeat' split) <;> simp

@[simp] theorem State.disablePoint_frame (s : State) (i : Fin 96) : (s.disablePoint i).floorTime = s.floorTime ∧
    (s.disablePoint i).resetRun = s.resetRun ∧ (s.disablePoint i).pinLow = s.pinLow ∧ (s.disablePoint
    i).supplyLow = s.supplyLow ∧ (s.disablePoint i).restartCause = s.restartCause ∧ (s.disablePoint
    i).restartPending = s.restartPending ∧ (s.disablePoint i).link = s.link ∧ (s.disablePoint i).burner =
    s.burner ∧ (s.disablePoint i).batches = s.batches ∧ (s.disablePoint i).envelope = s.envelope ∧
    (s.disablePoint i).cooler = s.cooler ∧ (s.disablePoint i).field = s.field ∧ (s.disablePoint i).pending =
    s.pending := by
  unfold State.disablePoint
  simp -failIfUnchanged <;> (repeat' split) <;> simp

@[simp] theorem State.enablePoint_frame (s : State) (i : Fin 96) : (s.enablePoint i).floorTime = s.floorTime ∧
    (s.enablePoint i).resetRun = s.resetRun ∧ (s.enablePoint i).pinLow = s.pinLow ∧ (s.enablePoint i).supplyLow
    = s.supplyLow ∧ (s.enablePoint i).restartCause = s.restartCause ∧ (s.enablePoint i).restartPending =
    s.restartPending ∧ (s.enablePoint i).link = s.link ∧ (s.enablePoint i).envelope = s.envelope ∧
    (s.enablePoint i).cooler = s.cooler ∧ (s.enablePoint i).pending = s.pending := by
  unfold State.enablePoint
  simp -failIfUnchanged <;> (repeat' split) <;> simp

@[simp] theorem State.reviewFlood_frame (s : State) : (s.reviewFlood).floorTime = s.floorTime ∧
    (s.reviewFlood).resetRun = s.resetRun ∧ (s.reviewFlood).pinLow = s.pinLow ∧ (s.reviewFlood).supplyLow =
    s.supplyLow ∧ (s.reviewFlood).restartCause = s.restartCause ∧ (s.reviewFlood).restartPending =
    s.restartPending ∧ (s.reviewFlood).link = s.link ∧ (s.reviewFlood).envelope = s.envelope ∧
    (s.reviewFlood).cooler = s.cooler ∧ (s.reviewFlood).pending = s.pending := by
  unfold State.reviewFlood
  simp -failIfUnchanged <;> (repeat' split) <;> simp

@[simp] theorem State.formCooler_frame (s : State) : (s.formCooler).floorTime = s.floorTime ∧
    (s.formCooler).resetRun = s.resetRun ∧ (s.formCooler).pinLow = s.pinLow ∧ (s.formCooler).supplyLow =
    s.supplyLow ∧ (s.formCooler).restartCause = s.restartCause ∧ (s.formCooler).restartPending =
    s.restartPending ∧ (s.formCooler).link = s.link ∧ (s.formCooler).burner = s.burner ∧ (s.formCooler).lines =
    s.lines ∧ (s.formCooler).batches = s.batches ∧ (s.formCooler).envelope = s.envelope ∧ (s.formCooler).heat =
    s.heat ∧ (s.formCooler).field = s.field ∧ (s.formCooler).alarm = s.alarm ∧ (s.formCooler).attention =
    s.attention ∧ (s.formCooler).shift = s.shift ∧ (s.formCooler).pending = s.pending := by
  unfold State.formCooler
  simp -failIfUnchanged <;> (repeat' split) <;> simp

@[simp] theorem State.countFired_frame (s : State) : (s.countFired).floorTime = s.floorTime ∧
    (s.countFired).resetRun = s.resetRun ∧ (s.countFired).pinLow = s.pinLow ∧ (s.countFired).supplyLow =
    s.supplyLow ∧ (s.countFired).restartCause = s.restartCause ∧ (s.countFired).restartPending =
    s.restartPending ∧ (s.countFired).link = s.link ∧ (s.countFired).burner = s.burner ∧ (s.countFired).lines =
    s.lines ∧ (s.countFired).batches = s.batches ∧ (s.countFired).envelope = s.envelope ∧ (s.countFired).heat =
    s.heat ∧ (s.countFired).cooler = s.cooler ∧ (s.countFired).field = s.field ∧ (s.countFired).alarm = s.alarm
    ∧ (s.countFired).attention = s.attention ∧ (s.countFired).pending = s.pending := by
  unfold State.countFired
  simp -failIfUnchanged <;> (repeat' split) <;> simp

@[simp] theorem State.countSkipped_frame (s : State) (n : Nat) : (s.countSkipped n).floorTime = s.floorTime ∧
    (s.countSkipped n).resetRun = s.resetRun ∧ (s.countSkipped n).pinLow = s.pinLow ∧ (s.countSkipped
    n).supplyLow = s.supplyLow ∧ (s.countSkipped n).restartCause = s.restartCause ∧ (s.countSkipped
    n).restartPending = s.restartPending ∧ (s.countSkipped n).link = s.link ∧ (s.countSkipped n).burner =
    s.burner ∧ (s.countSkipped n).lines = s.lines ∧ (s.countSkipped n).batches = s.batches ∧ (s.countSkipped
    n).envelope = s.envelope ∧ (s.countSkipped n).heat = s.heat ∧ (s.countSkipped n).cooler = s.cooler ∧
    (s.countSkipped n).field = s.field ∧ (s.countSkipped n).alarm = s.alarm ∧ (s.countSkipped n).attention =
    s.attention ∧ (s.countSkipped n).pending = s.pending := by
  unfold State.countSkipped
  simp -failIfUnchanged <;> (repeat' split) <;> simp

@[simp] theorem State.abandonCycle_frame (s : State) : (s.abandonCycle).floorTime = s.floorTime ∧
    (s.abandonCycle).resetRun = s.resetRun ∧ (s.abandonCycle).pinLow = s.pinLow ∧ (s.abandonCycle).supplyLow =
    s.supplyLow ∧ (s.abandonCycle).restartCause = s.restartCause ∧ (s.abandonCycle).restartPending =
    s.restartPending ∧ (s.abandonCycle).link = s.link ∧ (s.abandonCycle).burner = s.burner ∧
    (s.abandonCycle).lines = s.lines ∧ (s.abandonCycle).batches = s.batches ∧ (s.abandonCycle).envelope =
    s.envelope ∧ (s.abandonCycle).heat = s.heat ∧ (s.abandonCycle).field = s.field ∧ (s.abandonCycle).alarm =
    s.alarm ∧ (s.abandonCycle).attention = s.attention ∧ (s.abandonCycle).pending = s.pending := by
  unfold State.abandonCycle
  simp -failIfUnchanged <;> (repeat' split) <;> simp

@[simp] theorem State.endBlasting_frame (s : State) : (s.endBlasting).floorTime = s.floorTime ∧
    (s.endBlasting).resetRun = s.resetRun ∧ (s.endBlasting).pinLow = s.pinLow ∧ (s.endBlasting).supplyLow =
    s.supplyLow ∧ (s.endBlasting).restartCause = s.restartCause ∧ (s.endBlasting).restartPending =
    s.restartPending ∧ (s.endBlasting).link = s.link ∧ (s.endBlasting).burner = s.burner ∧ (s.endBlasting).lines
    = s.lines ∧ (s.endBlasting).batches = s.batches ∧ (s.endBlasting).envelope = s.envelope ∧
    (s.endBlasting).heat = s.heat ∧ (s.endBlasting).field = s.field ∧ (s.endBlasting).alarm = s.alarm ∧
    (s.endBlasting).attention = s.attention ∧ (s.endBlasting).pending = s.pending := by
  unfold State.endBlasting
  simp -failIfUnchanged <;> (repeat' split) <;> simp

@[simp] theorem State.blasterPulse_frame (s : State) : (s.blasterPulse).floorTime = s.floorTime ∧
    (s.blasterPulse).resetRun = s.resetRun ∧ (s.blasterPulse).pinLow = s.pinLow ∧ (s.blasterPulse).supplyLow =
    s.supplyLow ∧ (s.blasterPulse).restartCause = s.restartCause ∧ (s.blasterPulse).restartPending =
    s.restartPending ∧ (s.blasterPulse).link = s.link ∧ (s.blasterPulse).burner = s.burner ∧
    (s.blasterPulse).lines = s.lines ∧ (s.blasterPulse).batches = s.batches ∧ (s.blasterPulse).envelope =
    s.envelope ∧ (s.blasterPulse).heat = s.heat ∧ (s.blasterPulse).field = s.field ∧ (s.blasterPulse).alarm =
    s.alarm ∧ (s.blasterPulse).attention = s.attention ∧ (s.blasterPulse).shift = s.shift ∧
    (s.blasterPulse).pending = s.pending := by
  unfold State.blasterPulse
  simp -failIfUnchanged <;> (repeat' split) <;> simp

@[simp] theorem State.decideBlaster_frame (s : State) (next due : Nat) : (s.decideBlaster next due).floorTime =
    s.floorTime ∧ (s.decideBlaster next due).resetRun = s.resetRun ∧ (s.decideBlaster next due).pinLow =
    s.pinLow ∧ (s.decideBlaster next due).supplyLow = s.supplyLow ∧ (s.decideBlaster next due).restartCause =
    s.restartCause ∧ (s.decideBlaster next due).restartPending = s.restartPending ∧ (s.decideBlaster next
    due).link = s.link ∧ (s.decideBlaster next due).burner = s.burner ∧ (s.decideBlaster next due).lines =
    s.lines ∧ (s.decideBlaster next due).batches = s.batches ∧ (s.decideBlaster next due).envelope = s.envelope
    ∧ (s.decideBlaster next due).heat = s.heat ∧ (s.decideBlaster next due).field = s.field ∧ (s.decideBlaster
    next due).alarm = s.alarm ∧ (s.decideBlaster next due).attention = s.attention ∧ (s.decideBlaster next
    due).pending = s.pending := by
  unfold State.decideBlaster
  simp -failIfUnchanged <;> (repeat' split) <;> simp

@[simp] theorem State.coolerTo_frame (s : State) (st : CoolerState) : (s.coolerTo st).floorTime = s.floorTime ∧
    (s.coolerTo st).resetRun = s.resetRun ∧ (s.coolerTo st).pinLow = s.pinLow ∧ (s.coolerTo st).supplyLow =
    s.supplyLow ∧ (s.coolerTo st).restartCause = s.restartCause ∧ (s.coolerTo st).restartPending =
    s.restartPending ∧ (s.coolerTo st).link = s.link ∧ (s.coolerTo st).burner = s.burner ∧ (s.coolerTo st).lines
    = s.lines ∧ (s.coolerTo st).batches = s.batches ∧ (s.coolerTo st).envelope = s.envelope ∧ (s.coolerTo
    st).heat = s.heat ∧ (s.coolerTo st).field = s.field ∧ (s.coolerTo st).alarm = s.alarm ∧ (s.coolerTo
    st).pending = s.pending := by
  unfold State.coolerTo
  simp -failIfUnchanged <;> (repeat' split) <;> simp

@[simp] theorem State.beginStart_frame (s : State) : (s.beginStart).floorTime = s.floorTime ∧
    (s.beginStart).resetRun = s.resetRun ∧ (s.beginStart).pinLow = s.pinLow ∧ (s.beginStart).supplyLow =
    s.supplyLow ∧ (s.beginStart).restartCause = s.restartCause ∧ (s.beginStart).restartPending =
    s.restartPending ∧ (s.beginStart).link = s.link ∧ (s.beginStart).burner = s.burner ∧ (s.beginStart).lines =
    s.lines ∧ (s.beginStart).batches = s.batches ∧ (s.beginStart).envelope = s.envelope ∧ (s.beginStart).heat =
    s.heat ∧ (s.beginStart).field = s.field ∧ (s.beginStart).alarm = s.alarm ∧ (s.beginStart).pending =
    s.pending := by
  unfold State.beginStart
  simp -failIfUnchanged <;> (repeat' split) <;> simp

@[simp] theorem State.startNext_frame (s : State) : (s.startNext).floorTime = s.floorTime ∧
    (s.startNext).resetRun = s.resetRun ∧ (s.startNext).pinLow = s.pinLow ∧ (s.startNext).supplyLow =
    s.supplyLow ∧ (s.startNext).restartCause = s.restartCause ∧ (s.startNext).restartPending = s.restartPending
    ∧ (s.startNext).link = s.link ∧ (s.startNext).burner = s.burner ∧ (s.startNext).lines = s.lines ∧
    (s.startNext).batches = s.batches ∧ (s.startNext).envelope = s.envelope ∧ (s.startNext).heat = s.heat ∧
    (s.startNext).field = s.field ∧ (s.startNext).alarm = s.alarm ∧ (s.startNext).pending = s.pending := by
  unfold State.startNext
  simp -failIfUnchanged <;> (repeat' split) <;> simp

@[simp] theorem State.stopNext_frame (s : State) : (s.stopNext).floorTime = s.floorTime ∧ (s.stopNext).resetRun
    = s.resetRun ∧ (s.stopNext).pinLow = s.pinLow ∧ (s.stopNext).supplyLow = s.supplyLow ∧
    (s.stopNext).restartCause = s.restartCause ∧ (s.stopNext).restartPending = s.restartPending ∧
    (s.stopNext).link = s.link ∧ (s.stopNext).burner = s.burner ∧ (s.stopNext).lines = s.lines ∧
    (s.stopNext).batches = s.batches ∧ (s.stopNext).envelope = s.envelope ∧ (s.stopNext).heat = s.heat ∧
    (s.stopNext).field = s.field ∧ (s.stopNext).alarm = s.alarm ∧ (s.stopNext).attention = s.attention ∧
    (s.stopNext).shift = s.shift ∧ (s.stopNext).pending = s.pending := by
  unfold State.stopNext
  simp -failIfUnchanged <;> (repeat' split) <;> simp

@[simp] theorem State.endSurge_frame (s : State) : (s.endSurge).floorTime = s.floorTime ∧ (s.endSurge).resetRun
    = s.resetRun ∧ (s.endSurge).pinLow = s.pinLow ∧ (s.endSurge).supplyLow = s.supplyLow ∧
    (s.endSurge).restartCause = s.restartCause ∧ (s.endSurge).restartPending = s.restartPending ∧
    (s.endSurge).link = s.link ∧ (s.endSurge).burner = s.burner ∧ (s.endSurge).batches = s.batches ∧
    (s.endSurge).envelope = s.envelope ∧ (s.endSurge).field = s.field ∧ (s.endSurge).alarm = s.alarm ∧
    (s.endSurge).attention = s.attention ∧ (s.endSurge).pending = s.pending := by
  unfold State.endSurge
  simp -failIfUnchanged <;> (repeat' split) <;> simp

@[simp] theorem State.beginStop_frame (s : State) : (s.beginStop).floorTime = s.floorTime ∧
    (s.beginStop).resetRun = s.resetRun ∧ (s.beginStop).pinLow = s.pinLow ∧ (s.beginStop).supplyLow =
    s.supplyLow ∧ (s.beginStop).restartCause = s.restartCause ∧ (s.beginStop).restartPending = s.restartPending
    ∧ (s.beginStop).link = s.link ∧ (s.beginStop).envelope = s.envelope ∧ (s.beginStop).pending = s.pending :=
    by
  unfold State.beginStop
  simp -failIfUnchanged <;> (repeat' split) <;> simp

@[simp] theorem State.stopCooler_frame (s : State) : (s.stopCooler).floorTime = s.floorTime ∧
    (s.stopCooler).resetRun = s.resetRun ∧ (s.stopCooler).pinLow = s.pinLow ∧ (s.stopCooler).supplyLow =
    s.supplyLow ∧ (s.stopCooler).restartCause = s.restartCause ∧ (s.stopCooler).restartPending =
    s.restartPending ∧ (s.stopCooler).link = s.link ∧ (s.stopCooler).envelope = s.envelope ∧
    (s.stopCooler).pending = s.pending := by
  unfold State.stopCooler
  simp -failIfUnchanged <;> (repeat' split) <;> simp

@[simp] theorem State.endRunOn_frame (s : State) : (s.endRunOn).floorTime = s.floorTime ∧ (s.endRunOn).resetRun
    = s.resetRun ∧ (s.endRunOn).pinLow = s.pinLow ∧ (s.endRunOn).supplyLow = s.supplyLow ∧
    (s.endRunOn).restartCause = s.restartCause ∧ (s.endRunOn).restartPending = s.restartPending ∧
    (s.endRunOn).link = s.link ∧ (s.endRunOn).envelope = s.envelope ∧ (s.endRunOn).pending = s.pending := by
  unfold State.endRunOn
  simp -failIfUnchanged <;> (repeat' split) <;> simp

@[simp] theorem State.beginSurge_frame (s : State) : (s.beginSurge).floorTime = s.floorTime ∧
    (s.beginSurge).resetRun = s.resetRun ∧ (s.beginSurge).pinLow = s.pinLow ∧ (s.beginSurge).supplyLow =
    s.supplyLow ∧ (s.beginSurge).restartCause = s.restartCause ∧ (s.beginSurge).restartPending =
    s.restartPending ∧ (s.beginSurge).link = s.link ∧ (s.beginSurge).burner = s.burner ∧ (s.beginSurge).batches
    = s.batches ∧ (s.beginSurge).envelope = s.envelope ∧ (s.beginSurge).field = s.field ∧ (s.beginSurge).alarm =
    s.alarm ∧ (s.beginSurge).pending = s.pending := by
  unfold State.beginSurge
  simp -failIfUnchanged <;> (repeat' split) <;> simp

@[simp] theorem State.formBedMean_frame (s : State) : (s.formBedMean).floorTime = s.floorTime ∧
    (s.formBedMean).resetRun = s.resetRun ∧ (s.formBedMean).pinLow = s.pinLow ∧ (s.formBedMean).supplyLow =
    s.supplyLow ∧ (s.formBedMean).restartCause = s.restartCause ∧ (s.formBedMean).restartPending =
    s.restartPending ∧ (s.formBedMean).link = s.link ∧ (s.formBedMean).burner = s.burner ∧
    (s.formBedMean).batches = s.batches ∧ (s.formBedMean).envelope = s.envelope ∧ (s.formBedMean).field =
    s.field ∧ (s.formBedMean).alarm = s.alarm ∧ (s.formBedMean).pending = s.pending := by
  unfold State.formBedMean
  simp -failIfUnchanged <;> (repeat' split) <;> simp

@[simp] theorem State.release_frame (s : State) : (s.release).floorTime = s.floorTime ∧ (s.release).resetRun =
    s.resetRun ∧ (s.release).pinLow = s.pinLow ∧ (s.release).supplyLow = s.supplyLow ∧ (s.release).restartCause
    = s.restartCause ∧ (s.release).restartPending = s.restartPending ∧ (s.release).link = s.link ∧
    (s.release).burner = s.burner ∧ (s.release).batches = s.batches ∧ (s.release).envelope = s.envelope ∧
    (s.release).field = s.field ∧ (s.release).alarm = s.alarm ∧ (s.release).pending = s.pending := by
  unfold State.release
  simp -failIfUnchanged <;> (repeat' split) <;> simp

@[simp] theorem State.faultGrate_frame (s : State) (g : Fin 4) : (s.faultGrate g).floorTime = s.floorTime ∧
    (s.faultGrate g).resetRun = s.resetRun ∧ (s.faultGrate g).pinLow = s.pinLow ∧ (s.faultGrate g).supplyLow =
    s.supplyLow ∧ (s.faultGrate g).restartCause = s.restartCause ∧ (s.faultGrate g).restartPending =
    s.restartPending ∧ (s.faultGrate g).link = s.link ∧ (s.faultGrate g).burner = s.burner ∧ (s.faultGrate
    g).lines = s.lines ∧ (s.faultGrate g).batches = s.batches ∧ (s.faultGrate g).envelope = s.envelope ∧
    (s.faultGrate g).heat = s.heat ∧ (s.faultGrate g).field = s.field ∧ (s.faultGrate g).alarm = s.alarm ∧
    (s.faultGrate g).shift = s.shift ∧ (s.faultGrate g).pending = s.pending := by
  unfold State.faultGrate
  simp -failIfUnchanged <;> (repeat' split) <;> simp

@[simp] theorem State.clearGrate_frame (s : State) (g : Fin 4) : (s.clearGrate g).floorTime = s.floorTime ∧
    (s.clearGrate g).resetRun = s.resetRun ∧ (s.clearGrate g).pinLow = s.pinLow ∧ (s.clearGrate g).supplyLow =
    s.supplyLow ∧ (s.clearGrate g).restartCause = s.restartCause ∧ (s.clearGrate g).restartPending =
    s.restartPending ∧ (s.clearGrate g).link = s.link ∧ (s.clearGrate g).burner = s.burner ∧ (s.clearGrate
    g).lines = s.lines ∧ (s.clearGrate g).batches = s.batches ∧ (s.clearGrate g).envelope = s.envelope ∧
    (s.clearGrate g).heat = s.heat ∧ (s.clearGrate g).field = s.field ∧ (s.clearGrate g).alarm = s.alarm ∧
    (s.clearGrate g).attention = s.attention ∧ (s.clearGrate g).shift = s.shift ∧ (s.clearGrate g).pending =
    s.pending := by
  unfold State.clearGrate
  simp -failIfUnchanged <;> (repeat' split) <;> simp

@[simp] theorem State.handLatch_frame (s : State) (r : Fin 23) (k : FaultKind) : (s.handLatch r k).floorTime =
    s.floorTime ∧ (s.handLatch r k).resetRun = s.resetRun ∧ (s.handLatch r k).pinLow = s.pinLow ∧ (s.handLatch r
    k).supplyLow = s.supplyLow ∧ (s.handLatch r k).restartCause = s.restartCause ∧ (s.handLatch r
    k).restartPending = s.restartPending ∧ (s.handLatch r k).link = s.link ∧ (s.handLatch r k).burner = s.burner
    ∧ (s.handLatch r k).envelope = s.envelope ∧ (s.handLatch r k).pending = s.pending := by
  unfold State.handLatch
  simp -failIfUnchanged <;> (repeat' split) <;> simp

@[simp] theorem State.latch_frame (s : State) (r : Fin 23) (k : FaultKind) : (s.latch r k).floorTime =
    s.floorTime ∧ (s.latch r k).resetRun = s.resetRun ∧ (s.latch r k).pinLow = s.pinLow ∧ (s.latch r
    k).supplyLow = s.supplyLow ∧ (s.latch r k).restartCause = s.restartCause ∧ (s.latch r k).restartPending =
    s.restartPending ∧ (s.latch r k).link = s.link ∧ (s.latch r k).burner = s.burner ∧ (s.latch r k).envelope =
    s.envelope ∧ (s.latch r k).pending = s.pending := by
  unfold State.latch
  simp -failIfUnchanged <;> (repeat' split) <;> simp

@[simp] theorem State.testRecord_frame (s : State) (r : Fin 23) : (s.testRecord r).floorTime = s.floorTime ∧
    (s.testRecord r).resetRun = s.resetRun ∧ (s.testRecord r).pinLow = s.pinLow ∧ (s.testRecord r).supplyLow =
    s.supplyLow ∧ (s.testRecord r).restartCause = s.restartCause ∧ (s.testRecord r).restartPending =
    s.restartPending ∧ (s.testRecord r).link = s.link ∧ (s.testRecord r).burner = s.burner ∧ (s.testRecord
    r).envelope = s.envelope ∧ (s.testRecord r).pending = s.pending := by
  unfold State.testRecord
  simp -failIfUnchanged <;> (repeat' split) <;> simp

@[simp] theorem State.handClear_frame (s : State) (r : Fin 23) : (s.handClear r).floorTime = s.floorTime ∧
    (s.handClear r).resetRun = s.resetRun ∧ (s.handClear r).pinLow = s.pinLow ∧ (s.handClear r).supplyLow =
    s.supplyLow ∧ (s.handClear r).restartCause = s.restartCause ∧ (s.handClear r).restartPending =
    s.restartPending ∧ (s.handClear r).link = s.link ∧ (s.handClear r).burner = s.burner ∧ (s.handClear r).lines
    = s.lines ∧ (s.handClear r).batches = s.batches ∧ (s.handClear r).envelope = s.envelope ∧ (s.handClear
    r).heat = s.heat ∧ (s.handClear r).field = s.field ∧ (s.handClear r).alarm = s.alarm ∧ (s.handClear
    r).attention = s.attention ∧ (s.handClear r).shift = s.shift ∧ (s.handClear r).pending = s.pending := by
  unfold State.handClear
  simp -failIfUnchanged <;> (repeat' split) <;> simp

@[simp] theorem State.handCleared_frame (before s : State) (r : Fin 23) : (State.handCleared before s
    r).floorTime = s.floorTime ∧ (State.handCleared before s r).resetRun = s.resetRun ∧ (State.handCleared
    before s r).pinLow = s.pinLow ∧ (State.handCleared before s r).supplyLow = s.supplyLow ∧ (State.handCleared
    before s r).restartCause = s.restartCause ∧ (State.handCleared before s r).restartPending = s.restartPending
    ∧ (State.handCleared before s r).link = s.link ∧ (State.handCleared before s r).burner = s.burner ∧
    (State.handCleared before s r).lines = s.lines ∧ (State.handCleared before s r).batches = s.batches ∧
    (State.handCleared before s r).envelope = s.envelope ∧ (State.handCleared before s r).field = s.field ∧
    (State.handCleared before s r).attention = s.attention ∧ (State.handCleared before s r).shift = s.shift ∧
    (State.handCleared before s r).heat = s.heat ∧ (State.handCleared before s r).alarm = s.alarm ∧
    (State.handCleared before s r).pending = s.pending := by
  unfold State.handCleared
  simp -failIfUnchanged <;> (repeat' split) <;> simp

@[simp] theorem State.clearRecords_frame (s : State) (named : List (Fin 23)) : (s.clearRecords
    named).floorTime = s.floorTime ∧ (s.clearRecords named).resetRun = s.resetRun ∧ (s.clearRecords
    named).pinLow = s.pinLow ∧ (s.clearRecords named).supplyLow = s.supplyLow ∧ (s.clearRecords
    named).restartCause = s.restartCause ∧ (s.clearRecords named).restartPending = s.restartPending ∧
    (s.clearRecords named).link = s.link ∧ (s.clearRecords named).envelope = s.envelope ∧ (s.clearRecords
    named).pending = s.pending ∧ (s.clearRecords named).burner = s.burner := by
  unfold State.clearRecords
  simp -failIfUnchanged [foldl_floorTime, foldl_resetRun, foldl_pinLow, foldl_supplyLow, foldl_restartCause, foldl_restartPending, foldl_link, foldl_burner, foldl_envelope, foldl_pending] <;> (repeat' split) <;> simp

@[simp] theorem State.retest_frame (before s : State) (r : Fin 23) : (State.retest before s r).floorTime =
    s.floorTime ∧ (State.retest before s r).resetRun = s.resetRun ∧ (State.retest before s r).pinLow = s.pinLow
    ∧ (State.retest before s r).supplyLow = s.supplyLow ∧ (State.retest before s r).restartCause =
    s.restartCause ∧ (State.retest before s r).restartPending = s.restartPending ∧ (State.retest before s
    r).link = s.link ∧ (State.retest before s r).burner = s.burner ∧ (State.retest before s r).envelope =
    s.envelope ∧ (State.retest before s r).pending = s.pending := by
  unfold State.retest
  simp -failIfUnchanged <;> (repeat' split) <;> simp

@[simp] theorem State.setPhase_frame (s : State) (v : Fin 7) (p : WatchPhase) : (s.setPhase v p).floorTime =
    s.floorTime ∧ (s.setPhase v p).resetRun = s.resetRun ∧ (s.setPhase v p).pinLow = s.pinLow ∧ (s.setPhase v
    p).supplyLow = s.supplyLow ∧ (s.setPhase v p).restartCause = s.restartCause ∧ (s.setPhase v
    p).restartPending = s.restartPending ∧ (s.setPhase v p).link = s.link ∧ (s.setPhase v p).burner = s.burner ∧
    (s.setPhase v p).lines = s.lines ∧ (s.setPhase v p).batches = s.batches ∧ (s.setPhase v p).envelope =
    s.envelope ∧ (s.setPhase v p).heat = s.heat ∧ (s.setPhase v p).cooler = s.cooler ∧ (s.setPhase v p).alarm =
    s.alarm ∧ (s.setPhase v p).attention = s.attention ∧ (s.setPhase v p).shift = s.shift ∧ (s.setPhase v
    p).pending = s.pending := by
  unfold State.setPhase
  simp -failIfUnchanged <;> (repeat' split) <;> simp

@[simp] theorem State.handProof_frame (s : State) (v : Fin 7) : (s.handProof v).floorTime = s.floorTime ∧
    (s.handProof v).resetRun = s.resetRun ∧ (s.handProof v).pinLow = s.pinLow ∧ (s.handProof v).supplyLow =
    s.supplyLow ∧ (s.handProof v).restartCause = s.restartCause ∧ (s.handProof v).restartPending =
    s.restartPending ∧ (s.handProof v).link = s.link ∧ (s.handProof v).burner = s.burner ∧ (s.handProof
    v).envelope = s.envelope ∧ (s.handProof v).cooler = s.cooler ∧ (s.handProof v).field = s.field ∧
    (s.handProof v).alarm = s.alarm ∧ (s.handProof v).pending = s.pending := by
  unfold State.handProof
  simp -failIfUnchanged <;> (repeat' split) <;> simp

@[simp] theorem State.watchValve_frame (s : State) (v : Fin 7) : (s.watchValve v).floorTime = s.floorTime ∧
    (s.watchValve v).resetRun = s.resetRun ∧ (s.watchValve v).pinLow = s.pinLow ∧ (s.watchValve v).supplyLow =
    s.supplyLow ∧ (s.watchValve v).restartCause = s.restartCause ∧ (s.watchValve v).restartPending =
    s.restartPending ∧ (s.watchValve v).link = s.link ∧ (s.watchValve v).burner = s.burner ∧ (s.watchValve
    v).envelope = s.envelope ∧ (s.watchValve v).pending = s.pending := by
  unfold State.watchValve
  unfold State.unprove
  simp -failIfUnchanged <;> (repeat' split) <;> simp

@[simp] theorem State.proofExpired_frame (s : State) (v : Fin 7) : (s.proofExpired v).floorTime = s.floorTime ∧
    (s.proofExpired v).resetRun = s.resetRun ∧ (s.proofExpired v).pinLow = s.pinLow ∧ (s.proofExpired
    v).supplyLow = s.supplyLow ∧ (s.proofExpired v).restartCause = s.restartCause ∧ (s.proofExpired
    v).restartPending = s.restartPending ∧ (s.proofExpired v).link = s.link ∧ (s.proofExpired v).burner =
    s.burner ∧ (s.proofExpired v).envelope = s.envelope ∧ (s.proofExpired v).pending = s.pending := by
  unfold State.proofExpired
  unfold State.unprove
  simp -failIfUnchanged <;> (repeat' split) <;> simp

@[simp] theorem State.voteFlame_frame (s : State) : s.voteFlame.floorTime = s.floorTime ∧
    s.voteFlame.resetRun = s.resetRun ∧ s.voteFlame.pinLow = s.pinLow ∧ s.voteFlame.supplyLow = s.supplyLow ∧
    s.voteFlame.restartCause = s.restartCause ∧ s.voteFlame.restartPending = s.restartPending ∧
    s.voteFlame.link = s.link ∧ s.voteFlame.lines = s.lines ∧ s.voteFlame.batches = s.batches ∧
    s.voteFlame.envelope = s.envelope ∧ s.voteFlame.heat = s.heat ∧ s.voteFlame.cooler = s.cooler ∧
    s.voteFlame.field = s.field ∧ s.voteFlame.alarm = s.alarm ∧ s.voteFlame.attention = s.attention ∧
    s.voteFlame.shift = s.shift ∧ s.voteFlame.pending = s.pending ∧
    s.voteFlame.burner = { s.burner with flame := s.flameNow } := by
  simp [State.voteFlame]

@[simp] theorem State.handInput_frame (s : State) (n : Fin 24) (level : Bool) : (s.handInput n level).floorTime
    = s.floorTime ∧ (s.handInput n level).resetRun = s.resetRun ∧ (s.handInput n level).pinLow = s.pinLow ∧
    (s.handInput n level).supplyLow = s.supplyLow ∧ (s.handInput n level).restartCause = s.restartCause ∧
    (s.handInput n level).restartPending = s.restartPending ∧ (s.handInput n level).link = s.link ∧ (s.handInput
    n level).envelope = s.envelope ∧ (s.handInput n level).pending = s.pending := by
  unfold State.handInput
  simp -failIfUnchanged <;> (repeat' split) <;> simp

@[simp] theorem State.accept_frame (s : State) (n : Fin 24) (level : Bool) : (s.accept n level).floorTime =
    s.floorTime ∧ (s.accept n level).resetRun = s.resetRun ∧ (s.accept n level).pinLow = s.pinLow ∧ (s.accept n
    level).supplyLow = s.supplyLow ∧ (s.accept n level).restartCause = s.restartCause ∧ (s.accept n
    level).restartPending = s.restartPending ∧ (s.accept n level).link = s.link ∧ (s.accept n level).envelope =
    s.envelope ∧ (s.accept n level).pending = s.pending := by
  unfold State.accept
  simp -failIfUnchanged <;> (repeat' split) <;> simp

@[simp] theorem State.rawChange_frame (s : State) (n : Fin 24) (level : Bool) : (s.rawChange n level).floorTime
    = s.floorTime ∧ (s.rawChange n level).resetRun = s.resetRun ∧ (s.rawChange n level).pinLow = s.pinLow ∧
    (s.rawChange n level).supplyLow = s.supplyLow ∧ (s.rawChange n level).restartCause = s.restartCause ∧
    (s.rawChange n level).restartPending = s.restartPending ∧ (s.rawChange n level).link = s.link ∧ (s.rawChange
    n level).envelope = s.envelope ∧ (s.rawChange n level).pending = s.pending := by
  unfold State.rawChange
  simp -failIfUnchanged <;> (repeat' split) <;> simp

@[simp] theorem State.countPulse_frame (s : State) (n : Fin 11) : (s.countPulse n).floorTime = s.floorTime ∧
    (s.countPulse n).resetRun = s.resetRun ∧ (s.countPulse n).pinLow = s.pinLow ∧ (s.countPulse n).supplyLow =
    s.supplyLow ∧ (s.countPulse n).restartCause = s.restartCause ∧ (s.countPulse n).restartPending =
    s.restartPending ∧ (s.countPulse n).link = s.link ∧ (s.countPulse n).burner = s.burner ∧ (s.countPulse
    n).lines = s.lines ∧ (s.countPulse n).batches = s.batches ∧ (s.countPulse n).envelope = s.envelope ∧
    (s.countPulse n).heat = s.heat ∧ (s.countPulse n).cooler = s.cooler ∧ (s.countPulse n).alarm = s.alarm ∧
    (s.countPulse n).attention = s.attention ∧ (s.countPulse n).shift = s.shift ∧ (s.countPulse n).pending =
    s.pending := by
  unfold State.countPulse
  simp -failIfUnchanged <;> (repeat' split) <;> simp

@[simp] theorem State.indexPulse_frame (s : State) : (s.indexPulse).floorTime = s.floorTime ∧
    (s.indexPulse).resetRun = s.resetRun ∧ (s.indexPulse).pinLow = s.pinLow ∧ (s.indexPulse).supplyLow =
    s.supplyLow ∧ (s.indexPulse).restartCause = s.restartCause ∧ (s.indexPulse).restartPending =
    s.restartPending ∧ (s.indexPulse).link = s.link ∧ (s.indexPulse).envelope = s.envelope ∧
    (s.indexPulse).pending = s.pending := by
  unfold State.indexPulse
  simp -failIfUnchanged <;> (repeat' split) <;> simp

@[simp] theorem State.kilnStop_frame (s : State) : (s.kilnStop).floorTime = s.floorTime ∧ (s.kilnStop).resetRun
    = s.resetRun ∧ (s.kilnStop).pinLow = s.pinLow ∧ (s.kilnStop).supplyLow = s.supplyLow ∧
    (s.kilnStop).restartCause = s.restartCause ∧ (s.kilnStop).restartPending = s.restartPending ∧
    (s.kilnStop).link = s.link ∧ (s.kilnStop).burner = s.burner ∧ (s.kilnStop).envelope = s.envelope ∧
    (s.kilnStop).alarm = s.alarm ∧ (s.kilnStop).attention = s.attention ∧ (s.kilnStop).pending = s.pending := by
  unfold State.kilnStop
  simp -failIfUnchanged <;> (repeat' split) <;> simp

@[simp] theorem State.takeScan_frame (s : State) (scan : Vector ScanEntry 32) : (s.takeScan scan).floorTime =
    s.floorTime ∧ (s.takeScan scan).resetRun = s.resetRun ∧ (s.takeScan scan).pinLow = s.pinLow ∧ (s.takeScan
    scan).supplyLow = s.supplyLow ∧ (s.takeScan scan).restartCause = s.restartCause ∧ (s.takeScan
    scan).restartPending = s.restartPending ∧ (s.takeScan scan).link = s.link ∧ (s.takeScan scan).burner =
    s.burner ∧ (s.takeScan scan).batches = s.batches ∧ (s.takeScan scan).envelope = s.envelope ∧ (s.takeScan
    scan).alarm = s.alarm ∧ (s.takeScan scan).pending = s.pending := by
  unfold State.takeScan
  simp -failIfUnchanged <;> (repeat' split) <;> simp

@[simp] theorem State.loseScans_frame (s : State) : (s.loseScans).floorTime = s.floorTime ∧
    (s.loseScans).resetRun = s.resetRun ∧ (s.loseScans).pinLow = s.pinLow ∧ (s.loseScans).supplyLow =
    s.supplyLow ∧ (s.loseScans).restartCause = s.restartCause ∧ (s.loseScans).restartPending = s.restartPending
    ∧ (s.loseScans).link = s.link ∧ (s.loseScans).burner = s.burner ∧ (s.loseScans).batches = s.batches ∧
    (s.loseScans).envelope = s.envelope ∧ (s.loseScans).alarm = s.alarm ∧ (s.loseScans).pending = s.pending :=
    by
  unfold State.loseScans
  simp -failIfUnchanged <;> (repeat' split) <;> simp

@[simp] theorem State.formImage_frame (s : State) : (s.formImage).floorTime = s.floorTime ∧
    (s.formImage).resetRun = s.resetRun ∧ (s.formImage).pinLow = s.pinLow ∧ (s.formImage).supplyLow =
    s.supplyLow ∧ (s.formImage).restartCause = s.restartCause ∧ (s.formImage).restartPending = s.restartPending
    ∧ (s.formImage).link = s.link ∧ (s.formImage).burner = s.burner ∧ (s.formImage).lines = s.lines ∧
    (s.formImage).batches = s.batches ∧ (s.formImage).envelope = s.envelope ∧
    (s.formImage).heat = { s.heat with ratesChanged := false } ∧
    (s.formImage).cooler = s.cooler ∧ (s.formImage).alarm = s.alarm ∧ (s.formImage).attention = s.attention ∧
    (s.formImage).shift = s.shift ∧ (s.formImage).pending = s.pending := by
  have hr : s.heat.ratesChanged = false → s.heat = { s.heat with ratesChanged := false } := fun h => by rw [← h]
  unfold State.formImage
  dsimp only
  split
  · rename_i h
    simp at h
    simpa using hr h.2
  · simp

@[simp] theorem State.beginDrive_frame (s : State) : (s.beginDrive).floorTime = s.floorTime ∧
    (s.beginDrive).resetRun = s.resetRun ∧ (s.beginDrive).pinLow = s.pinLow ∧ (s.beginDrive).supplyLow =
    s.supplyLow ∧ (s.beginDrive).restartCause = s.restartCause ∧ (s.beginDrive).restartPending =
    s.restartPending ∧ (s.beginDrive).link = s.link ∧ (s.beginDrive).burner = s.burner ∧ (s.beginDrive).lines =
    s.lines ∧ (s.beginDrive).batches = s.batches ∧ (s.beginDrive).envelope = s.envelope ∧ (s.beginDrive).heat =
    s.heat ∧ (s.beginDrive).cooler = s.cooler ∧ (s.beginDrive).alarm = s.alarm ∧ (s.beginDrive).attention =
    s.attention ∧ (s.beginDrive).shift = s.shift ∧ (s.beginDrive).pending = s.pending := by
  unfold State.beginDrive
  simp -failIfUnchanged <;> (repeat' split) <;> simp

@[simp] theorem State.watchHome_frame (s : State) (a : Fin 2) : (s.watchHome a).floorTime = s.floorTime ∧
    (s.watchHome a).resetRun = s.resetRun ∧ (s.watchHome a).pinLow = s.pinLow ∧ (s.watchHome a).supplyLow =
    s.supplyLow ∧ (s.watchHome a).restartCause = s.restartCause ∧ (s.watchHome a).restartPending =
    s.restartPending ∧ (s.watchHome a).link = s.link ∧ (s.watchHome a).lines = s.lines ∧ (s.watchHome a).batches
    = s.batches ∧ (s.watchHome a).envelope = s.envelope ∧ (s.watchHome a).heat = s.heat ∧ (s.watchHome a).cooler
    = s.cooler ∧ (s.watchHome a).field = s.field ∧ (s.watchHome a).alarm = s.alarm ∧ (s.watchHome a).shift =
    s.shift ∧ (s.watchHome a).pending = s.pending := by
  unfold State.watchHome
  simp -failIfUnchanged <;> (repeat' split) <;> simp

@[simp] theorem State.react_frame (s : State) : (s.react).floorTime = s.floorTime ∧ (s.react).resetRun =
    s.resetRun ∧ (s.react).pinLow = s.pinLow ∧ (s.react).supplyLow = s.supplyLow ∧ (s.react).restartCause =
    s.restartCause ∧ (s.react).restartPending = s.restartPending ∧ (s.react).link = s.link ∧ (s.react).envelope
    = s.envelope ∧ (s.react).pending = s.pending := by
  unfold State.react
  simp -failIfUnchanged [foldl_floorTime, foldl_resetRun, foldl_pinLow, foldl_supplyLow, foldl_restartCause, foldl_restartPending, foldl_link, foldl_envelope, foldl_pending] <;> (repeat' split) <;> simp

@[simp] theorem State.settle_frame (s : State) : (s.settle).floorTime = s.floorTime ∧ (s.settle).resetRun =
    s.resetRun ∧ (s.settle).pinLow = s.pinLow ∧ (s.settle).supplyLow = s.supplyLow ∧ (s.settle).restartCause =
    s.restartCause ∧ (s.settle).restartPending = s.restartPending ∧ (s.settle).link = s.link ∧
    (s.settle).envelope = s.envelope ∧ (s.settle).pending = s.pending := by
  unfold State.settle
  simp -failIfUnchanged <;> (repeat' split) <;> simp

@[simp] theorem State.queueOwed_frame (s : State) : (s.queueOwed).floorTime = s.floorTime ∧
    (s.queueOwed).resetRun = s.resetRun ∧ (s.queueOwed).pinLow = s.pinLow ∧ (s.queueOwed).supplyLow =
    s.supplyLow ∧ (s.queueOwed).restartCause = s.restartCause ∧ (s.queueOwed).restartPending = s.restartPending
    ∧ (s.queueOwed).burner = s.burner ∧ (s.queueOwed).lines = s.lines ∧ (s.queueOwed).batches = s.batches ∧
    (s.queueOwed).envelope = s.envelope ∧ (s.queueOwed).heat = s.heat ∧ (s.queueOwed).cooler = s.cooler ∧
    (s.queueOwed).field = s.field ∧ (s.queueOwed).alarm = s.alarm ∧ (s.queueOwed).attention = s.attention ∧
    (s.queueOwed).shift = s.shift ∧ (s.queueOwed).pending = s.pending := by
  unfold State.queueOwed
  simp -failIfUnchanged <;> (repeat' split) <;> simp

@[simp] theorem State.sendNext_frame (s : State) : (s.sendNext).floorTime = s.floorTime ∧ (s.sendNext).resetRun
    = s.resetRun ∧ (s.sendNext).pinLow = s.pinLow ∧ (s.sendNext).supplyLow = s.supplyLow ∧
    (s.sendNext).restartCause = s.restartCause ∧ (s.sendNext).restartPending = s.restartPending ∧
    (s.sendNext).burner = s.burner ∧ (s.sendNext).lines = s.lines ∧ (s.sendNext).batches = s.batches ∧
    (s.sendNext).envelope = s.envelope ∧ (s.sendNext).heat = s.heat ∧ (s.sendNext).cooler = s.cooler ∧
    (s.sendNext).field = s.field ∧ (s.sendNext).alarm = s.alarm ∧ (s.sendNext).shift = s.shift ∧
    (s.sendNext).pending = s.pending := by
  unfold State.sendNext
  simp -failIfUnchanged <;> (repeat' split) <;> simp

@[simp] theorem State.pump_frame (s : State) : (s.pump).floorTime = s.floorTime ∧ (s.pump).resetRun = s.resetRun
    ∧ (s.pump).pinLow = s.pinLow ∧ (s.pump).supplyLow = s.supplyLow ∧ (s.pump).restartCause = s.restartCause ∧
    (s.pump).restartPending = s.restartPending ∧ (s.pump).burner = s.burner ∧ (s.pump).lines = s.lines ∧
    (s.pump).batches = s.batches ∧ (s.pump).envelope = s.envelope ∧ (s.pump).heat = s.heat ∧ (s.pump).cooler =
    s.cooler ∧ (s.pump).field = s.field ∧ (s.pump).alarm = s.alarm ∧ (s.pump).shift = s.shift ∧ (s.pump).pending
    = s.pending := by
  unfold State.pump
  simp -failIfUnchanged <;> (repeat' split) <;> simp

@[simp] theorem State.send_frame (s : State) (f : Frame) : (s.send f).floorTime = s.floorTime ∧ (s.send
    f).resetRun = s.resetRun ∧ (s.send f).pinLow = s.pinLow ∧ (s.send f).supplyLow = s.supplyLow ∧ (s.send
    f).restartCause = s.restartCause ∧ (s.send f).restartPending = s.restartPending ∧ (s.send f).burner =
    s.burner ∧ (s.send f).lines = s.lines ∧ (s.send f).batches = s.batches ∧ (s.send f).envelope = s.envelope ∧
    (s.send f).heat = s.heat ∧ (s.send f).cooler = s.cooler ∧ (s.send f).field = s.field ∧ (s.send f).alarm =
    s.alarm ∧ (s.send f).shift = s.shift ∧ (s.send f).pending = s.pending := by
  unfold State.send
  simp -failIfUnchanged <;> (repeat' split) <;> simp

@[simp] theorem State.discardFrame_frame (s : State) : (s.discardFrame).floorTime = s.floorTime ∧
    (s.discardFrame).resetRun = s.resetRun ∧ (s.discardFrame).pinLow = s.pinLow ∧ (s.discardFrame).supplyLow =
    s.supplyLow ∧ (s.discardFrame).restartCause = s.restartCause ∧ (s.discardFrame).restartPending =
    s.restartPending ∧ (s.discardFrame).burner = s.burner ∧ (s.discardFrame).lines = s.lines ∧
    (s.discardFrame).batches = s.batches ∧ (s.discardFrame).envelope = s.envelope ∧ (s.discardFrame).heat =
    s.heat ∧ (s.discardFrame).cooler = s.cooler ∧ (s.discardFrame).field = s.field ∧ (s.discardFrame).alarm =
    s.alarm ∧ (s.discardFrame).shift = s.shift ∧ (s.discardFrame).pending = s.pending := by
  unfold State.discardFrame
  simp -failIfUnchanged <;> (repeat' split) <;> simp

@[simp] theorem State.validFrame_frame (s : State) : (s.validFrame).floorTime = s.floorTime ∧
    (s.validFrame).resetRun = s.resetRun ∧ (s.validFrame).pinLow = s.pinLow ∧ (s.validFrame).supplyLow =
    s.supplyLow ∧ (s.validFrame).restartCause = s.restartCause ∧ (s.validFrame).restartPending =
    s.restartPending ∧ (s.validFrame).envelope = s.envelope ∧ (s.validFrame).pending = s.pending := by
  unfold State.validFrame
  simp -failIfUnchanged <;> (repeat' split) <;> simp

@[simp] theorem State.leaveLockout_frame (s : State) : (s.leaveLockout).floorTime = s.floorTime ∧
    (s.leaveLockout).resetRun = s.resetRun ∧ (s.leaveLockout).pinLow = s.pinLow ∧ (s.leaveLockout).supplyLow =
    s.supplyLow ∧ (s.leaveLockout).restartCause = s.restartCause ∧ (s.leaveLockout).restartPending =
    s.restartPending ∧ (s.leaveLockout).link = s.link ∧ (s.leaveLockout).lines = s.lines ∧
    (s.leaveLockout).batches = s.batches ∧ (s.leaveLockout).envelope = s.envelope ∧ (s.leaveLockout).heat =
    s.heat ∧ (s.leaveLockout).cooler = s.cooler ∧ (s.leaveLockout).alarm = s.alarm ∧ (s.leaveLockout).pending =
    s.pending := by
  unfold State.leaveLockout
  simp -failIfUnchanged <;> (repeat' split) <;> simp

@[simp] theorem State.claimForHost_frame (s : State) (a : Fin 2) : (s.claimForHost a).floorTime = s.floorTime ∧
    (s.claimForHost a).resetRun = s.resetRun ∧ (s.claimForHost a).pinLow = s.pinLow ∧ (s.claimForHost
    a).supplyLow = s.supplyLow ∧ (s.claimForHost a).restartCause = s.restartCause ∧ (s.claimForHost
    a).restartPending = s.restartPending ∧ (s.claimForHost a).link = s.link ∧ (s.claimForHost a).lines = s.lines
    ∧ (s.claimForHost a).batches = s.batches ∧ (s.claimForHost a).envelope = s.envelope ∧ (s.claimForHost
    a).heat = s.heat ∧ (s.claimForHost a).cooler = s.cooler ∧ (s.claimForHost a).field = s.field ∧
    (s.claimForHost a).alarm = s.alarm ∧ (s.claimForHost a).attention = s.attention ∧ (s.claimForHost a).shift =
    s.shift ∧ (s.claimForHost a).pending = s.pending := by
  unfold State.claimForHost
  simp -failIfUnchanged <;> (repeat' split) <;> simp

@[simp] theorem State.endMainTrial_frame (s : State) : (s.endMainTrial).floorTime = s.floorTime ∧
    (s.endMainTrial).resetRun = s.resetRun ∧ (s.endMainTrial).pinLow = s.pinLow ∧ (s.endMainTrial).supplyLow =
    s.supplyLow ∧ (s.endMainTrial).restartCause = s.restartCause ∧ (s.endMainTrial).restartPending =
    s.restartPending ∧ (s.endMainTrial).link = s.link ∧ (s.endMainTrial).envelope = s.envelope ∧
    (s.endMainTrial).cooler = s.cooler ∧ (s.endMainTrial).pending = s.pending := by
  unfold State.endMainTrial
  simp -failIfUnchanged <;> (repeat' split) <;> simp

@[simp] theorem State.configure_frame (s : State) (l : Fin 6) (c : LineSettings) : (s.configure l c).floorTime =
    s.floorTime ∧ (s.configure l c).resetRun = s.resetRun ∧ (s.configure l c).pinLow = s.pinLow ∧ (s.configure l
    c).supplyLow = s.supplyLow ∧ (s.configure l c).restartCause = s.restartCause ∧ (s.configure l
    c).restartPending = s.restartPending ∧ (s.configure l c).link = s.link ∧ (s.configure l c).burner = s.burner
    ∧ (s.configure l c).envelope = s.envelope ∧ (s.configure l c).cooler = s.cooler ∧ (s.configure l c).field =
    s.field ∧ (s.configure l c).alarm = s.alarm ∧ (s.configure l c).attention = s.attention ∧ (s.configure l
    c).shift = s.shift ∧ (s.configure l c).pending = s.pending := by
  unfold State.configure
  simp -failIfUnchanged <;> (repeat' split) <;> simp

@[simp] theorem State.post_frame (s : State) (l : Fin 6) (orders : List Order) : (s.post l orders).floorTime =
    s.floorTime ∧ (s.post l orders).resetRun = s.resetRun ∧ (s.post l orders).pinLow = s.pinLow ∧ (s.post l
    orders).supplyLow = s.supplyLow ∧ (s.post l orders).restartCause = s.restartCause ∧ (s.post l
    orders).restartPending = s.restartPending ∧ (s.post l orders).link = s.link ∧ (s.post l orders).burner =
    s.burner ∧ (s.post l orders).envelope = s.envelope ∧ (s.post l orders).cooler = s.cooler ∧ (s.post l
    orders).field = s.field ∧ (s.post l orders).alarm = s.alarm ∧ (s.post l orders).pending = s.pending := by
  unfold State.post
  simp -failIfUnchanged <;> (repeat' split) <;> simp

@[simp] theorem State.weigh_frame (s : State) (l : Fin 6) : (s.weigh l).floorTime = s.floorTime ∧ (s.weigh
    l).resetRun = s.resetRun ∧ (s.weigh l).pinLow = s.pinLow ∧ (s.weigh l).supplyLow = s.supplyLow ∧ (s.weigh
    l).restartCause = s.restartCause ∧ (s.weigh l).restartPending = s.restartPending ∧ (s.weigh l).link = s.link
    ∧ (s.weigh l).burner = s.burner ∧ (s.weigh l).batches = s.batches ∧ (s.weigh l).envelope = s.envelope ∧
    (s.weigh l).heat = s.heat ∧ (s.weigh l).cooler = s.cooler ∧ (s.weigh l).pending = s.pending := by
  unfold State.weigh
  simp -failIfUnchanged <;> (repeat' split) <;> simp

@[simp] theorem State.rampRate_frame (s : State) (l : Fin 6) : (s.rampRate l).floorTime = s.floorTime ∧
    (s.rampRate l).resetRun = s.resetRun ∧ (s.rampRate l).pinLow = s.pinLow ∧ (s.rampRate l).supplyLow =
    s.supplyLow ∧ (s.rampRate l).restartCause = s.restartCause ∧ (s.rampRate l).restartPending =
    s.restartPending ∧ (s.rampRate l).link = s.link ∧ (s.rampRate l).burner = s.burner ∧ (s.rampRate l).envelope
    = s.envelope ∧ (s.rampRate l).cooler = s.cooler ∧ (s.rampRate l).field = s.field ∧ (s.rampRate l).alarm =
    s.alarm ∧ (s.rampRate l).pending = s.pending := by
  unfold State.rampRate
  simp -failIfUnchanged <;> (repeat' split) <;> simp

@[simp] theorem State.rampShut_frame (s : State) (l : Fin 6) : (s.rampShut l).floorTime = s.floorTime ∧
    (s.rampShut l).resetRun = s.resetRun ∧ (s.rampShut l).pinLow = s.pinLow ∧ (s.rampShut l).supplyLow =
    s.supplyLow ∧ (s.rampShut l).restartCause = s.restartCause ∧ (s.rampShut l).restartPending =
    s.restartPending ∧ (s.rampShut l).link = s.link ∧ (s.rampShut l).burner = s.burner ∧ (s.rampShut l).batches
    = s.batches ∧ (s.rampShut l).envelope = s.envelope ∧ (s.rampShut l).cooler = s.cooler ∧ (s.rampShut l).alarm
    = s.alarm ∧ (s.rampShut l).attention = s.attention ∧ (s.rampShut l).shift = s.shift ∧ (s.rampShut l).pending
    = s.pending := by
  unfold State.rampShut
  simp -failIfUnchanged <;> (repeat' split) <;> simp

@[simp] theorem State.endDrop_frame (s : State) (b : Fin 2) (w : Slot) : (s.endDrop b w).floorTime = s.floorTime
    ∧ (s.endDrop b w).resetRun = s.resetRun ∧ (s.endDrop b w).pinLow = s.pinLow ∧ (s.endDrop b w).supplyLow =
    s.supplyLow ∧ (s.endDrop b w).restartCause = s.restartCause ∧ (s.endDrop b w).restartPending =
    s.restartPending ∧ (s.endDrop b w).link = s.link ∧ (s.endDrop b w).burner = s.burner ∧ (s.endDrop b w).lines
    = s.lines ∧ (s.endDrop b w).envelope = s.envelope ∧ (s.endDrop b w).heat = s.heat ∧ (s.endDrop b w).cooler =
    s.cooler ∧ (s.endDrop b w).field = s.field ∧ (s.endDrop b w).alarm = s.alarm ∧ (s.endDrop b w).attention =
    s.attention ∧ (s.endDrop b w).shift = s.shift ∧ (s.endDrop b w).pending = s.pending := by
  unfold State.endDrop
  simp -failIfUnchanged <;> (repeat' split) <;> simp

@[simp] theorem State.setOperator_frame (s : State) (v : Option Nat) : (s.setOperator v).floorTime = s.floorTime
    ∧ (s.setOperator v).resetRun = s.resetRun ∧ (s.setOperator v).pinLow = s.pinLow ∧ (s.setOperator
    v).supplyLow = s.supplyLow ∧ (s.setOperator v).restartCause = s.restartCause ∧ (s.setOperator
    v).restartPending = s.restartPending ∧ (s.setOperator v).link = s.link ∧ (s.setOperator v).burner = s.burner
    ∧ (s.setOperator v).batches = s.batches ∧ (s.setOperator v).envelope = s.envelope ∧ (s.setOperator v).cooler
    = s.cooler ∧ (s.setOperator v).field = s.field ∧ (s.setOperator v).alarm = s.alarm ∧ (s.setOperator
    v).attention = s.attention ∧ (s.setOperator v).shift = s.shift ∧ (s.setOperator v).pending = s.pending := by
  unfold State.setOperator
  simp -failIfUnchanged <;> (repeat' split) <;> simp

@[simp] theorem State.stagger_frame (s : State) : (s.stagger).floorTime = s.floorTime ∧ (s.stagger).resetRun =
    s.resetRun ∧ (s.stagger).pinLow = s.pinLow ∧ (s.stagger).supplyLow = s.supplyLow ∧ (s.stagger).restartCause
    = s.restartCause ∧ (s.stagger).restartPending = s.restartPending ∧ (s.stagger).link = s.link ∧
    (s.stagger).burner = s.burner ∧ (s.stagger).lines = s.lines ∧ (s.stagger).batches = s.batches ∧
    (s.stagger).envelope = s.envelope ∧ (s.stagger).heat = s.heat ∧ (s.stagger).field = s.field ∧
    (s.stagger).alarm = s.alarm ∧ (s.stagger).pending = s.pending := by
  unfold State.stagger
  simp -failIfUnchanged <;> (repeat' split) <;> simp

@[simp] theorem State.stroke_frame (s : State) (g : Fin 4) : (s.stroke g).floorTime = s.floorTime ∧ (s.stroke
    g).resetRun = s.resetRun ∧ (s.stroke g).pinLow = s.pinLow ∧ (s.stroke g).supplyLow = s.supplyLow ∧ (s.stroke
    g).restartCause = s.restartCause ∧ (s.stroke g).restartPending = s.restartPending ∧ (s.stroke g).link =
    s.link ∧ (s.stroke g).burner = s.burner ∧ (s.stroke g).lines = s.lines ∧ (s.stroke g).batches = s.batches ∧
    (s.stroke g).envelope = s.envelope ∧ (s.stroke g).heat = s.heat ∧ (s.stroke g).alarm = s.alarm ∧ (s.stroke
    g).attention = s.attention ∧ (s.stroke g).pending = s.pending := by
  unfold State.stroke
  simp -failIfUnchanged <;> (repeat' split) <;> simp

@[simp] theorem State.watchFailed_frame (s : State) (g : Fin 4) : (s.watchFailed g).floorTime = s.floorTime ∧
    (s.watchFailed g).resetRun = s.resetRun ∧ (s.watchFailed g).pinLow = s.pinLow ∧ (s.watchFailed g).supplyLow
    = s.supplyLow ∧ (s.watchFailed g).restartCause = s.restartCause ∧ (s.watchFailed g).restartPending =
    s.restartPending ∧ (s.watchFailed g).link = s.link ∧ (s.watchFailed g).burner = s.burner ∧ (s.watchFailed
    g).envelope = s.envelope ∧ (s.watchFailed g).pending = s.pending := by
  unfold State.watchFailed
  simp -failIfUnchanged <;> (repeat' split) <;> simp

@[simp] theorem State.currentFailed_frame (s : State) (k : Fin 12) : (s.currentFailed k).floorTime = s.floorTime
    ∧ (s.currentFailed k).resetRun = s.resetRun ∧ (s.currentFailed k).pinLow = s.pinLow ∧ (s.currentFailed
    k).supplyLow = s.supplyLow ∧ (s.currentFailed k).restartCause = s.restartCause ∧ (s.currentFailed
    k).restartPending = s.restartPending ∧ (s.currentFailed k).link = s.link ∧ (s.currentFailed k).burner =
    s.burner ∧ (s.currentFailed k).envelope = s.envelope ∧ (s.currentFailed k).pending = s.pending := by
  unfold State.currentFailed
  simp -failIfUnchanged <;> (repeat' split) <;> simp

@[simp] theorem State.remask_frame (s : State) (masks : BitVec 32) : (s.remask masks).floorTime = s.floorTime ∧
    (s.remask masks).resetRun = s.resetRun ∧ (s.remask masks).pinLow = s.pinLow ∧ (s.remask masks).supplyLow =
    s.supplyLow ∧ (s.remask masks).restartCause = s.restartCause ∧ (s.remask masks).restartPending =
    s.restartPending ∧ (s.remask masks).link = s.link ∧ (s.remask masks).burner = s.burner ∧ (s.remask
    masks).envelope = s.envelope ∧ (s.remask masks).pending = s.pending := by
  unfold State.remask
  simp -failIfUnchanged [foldl_floorTime, foldl_resetRun, foldl_pinLow, foldl_supplyLow, foldl_restartCause, foldl_restartPending, foldl_link, foldl_burner, foldl_envelope, foldl_pending] <;> (repeat' split) <;> simp

@[simp] theorem State.ignoreScan_frame (s : State) : (s.ignoreScan).floorTime = s.floorTime ∧
    (s.ignoreScan).resetRun = s.resetRun ∧ (s.ignoreScan).pinLow = s.pinLow ∧ (s.ignoreScan).supplyLow =
    s.supplyLow ∧ (s.ignoreScan).restartCause = s.restartCause ∧ (s.ignoreScan).restartPending =
    s.restartPending ∧ (s.ignoreScan).link = s.link ∧ (s.ignoreScan).burner = s.burner ∧ (s.ignoreScan).lines =
    s.lines ∧ (s.ignoreScan).batches = s.batches ∧ (s.ignoreScan).envelope = s.envelope ∧ (s.ignoreScan).heat =
    s.heat ∧ (s.ignoreScan).cooler = s.cooler ∧ (s.ignoreScan).alarm = s.alarm ∧ (s.ignoreScan).attention =
    s.attention ∧ (s.ignoreScan).shift = s.shift ∧ (s.ignoreScan).pending = s.pending := by
  unfold State.ignoreScan
  simp -failIfUnchanged <;> (repeat' split) <;> simp

@[simp] theorem State.setAlarm_frame (s : State) (threshold window silence : Nat) : (s.setAlarm threshold window
    silence).floorTime = s.floorTime ∧ (s.setAlarm threshold window silence).resetRun = s.resetRun ∧ (s.setAlarm
    threshold window silence).pinLow = s.pinLow ∧ (s.setAlarm threshold window silence).supplyLow = s.supplyLow
    ∧ (s.setAlarm threshold window silence).restartCause = s.restartCause ∧ (s.setAlarm threshold window
    silence).restartPending = s.restartPending ∧ (s.setAlarm threshold window silence).burner = s.burner ∧
    (s.setAlarm threshold window silence).lines = s.lines ∧ (s.setAlarm threshold window silence).batches =
    s.batches ∧ (s.setAlarm threshold window silence).envelope = s.envelope ∧ (s.setAlarm threshold window
    silence).heat = s.heat ∧ (s.setAlarm threshold window silence).cooler = s.cooler ∧ (s.setAlarm threshold
    window silence).field = s.field ∧ (s.setAlarm threshold window silence).attention = s.attention ∧
    (s.setAlarm threshold window silence).shift = s.shift ∧ (s.setAlarm threshold window silence).pending =
    s.pending := by
  unfold State.setAlarm
  simp -failIfUnchanged <;> (repeat' split) <;> simp

@[simp] theorem State.acknowledgeClass_frame (s : State) (c : PointClass) : (s.acknowledgeClass c).1.floorTime =
    s.floorTime ∧ (s.acknowledgeClass c).1.resetRun = s.resetRun ∧ (s.acknowledgeClass c).1.pinLow = s.pinLow ∧
    (s.acknowledgeClass c).1.supplyLow = s.supplyLow ∧ (s.acknowledgeClass c).1.restartCause = s.restartCause ∧
    (s.acknowledgeClass c).1.restartPending = s.restartPending ∧ (s.acknowledgeClass c).1.link = s.link ∧
    (s.acknowledgeClass c).1.burner = s.burner ∧ (s.acknowledgeClass c).1.batches = s.batches ∧
    (s.acknowledgeClass c).1.envelope = s.envelope ∧ (s.acknowledgeClass c).1.cooler = s.cooler ∧
    (s.acknowledgeClass c).1.field = s.field ∧ (s.acknowledgeClass c).1.pending = s.pending := by
  unfold State.acknowledgeClass
  refine ⟨?_, ?_, ?_, ?_, ?_, ?_, ?_, ?_, ?_, ?_, ?_, ?_, ?_⟩
  · exact foldl_fst (fun s => s.floorTime) _ (by intro p i; dsimp only; split <;> simp) _ _
  · exact foldl_fst (fun s => s.resetRun) _ (by intro p i; dsimp only; split <;> simp) _ _
  · exact foldl_fst (fun s => s.pinLow) _ (by intro p i; dsimp only; split <;> simp) _ _
  · exact foldl_fst (fun s => s.supplyLow) _ (by intro p i; dsimp only; split <;> simp) _ _
  · exact foldl_fst (fun s => s.restartCause) _ (by intro p i; dsimp only; split <;> simp) _ _
  · exact foldl_fst (fun s => s.restartPending) _ (by intro p i; dsimp only; split <;> simp) _ _
  · exact foldl_fst (fun s => s.link) _ (by intro p i; dsimp only; split <;> simp) _ _
  · exact foldl_fst (fun s => s.burner) _ (by intro p i; dsimp only; split <;> simp) _ _
  · exact foldl_fst (fun s => s.batches) _ (by intro p i; dsimp only; split <;> simp) _ _
  · exact foldl_fst (fun s => s.envelope) _ (by intro p i; dsimp only; split <;> simp) _ _
  · exact foldl_fst (fun s => s.cooler) _ (by intro p i; dsimp only; split <;> simp) _ _
  · exact foldl_fst (fun s => s.field) _ (by intro p i; dsimp only; split <;> simp) _ _
  · exact foldl_fst (fun s => s.pending) _ (by intro p i; dsimp only; split <;> simp) _ _

@[simp] theorem State.advanceClock_frame (s : State) (d : DateTime) (due : Nat) : (s.advanceClock d
    due).floorTime = s.floorTime ∧ (s.advanceClock d due).resetRun = s.resetRun ∧ (s.advanceClock d due).pinLow
    = s.pinLow ∧ (s.advanceClock d due).supplyLow = s.supplyLow ∧ (s.advanceClock d due).restartCause =
    s.restartCause ∧ (s.advanceClock d due).restartPending = s.restartPending ∧ (s.advanceClock d due).link =
    s.link ∧ (s.advanceClock d due).burner = s.burner ∧ (s.advanceClock d due).lines = s.lines ∧ (s.advanceClock
    d due).batches = s.batches ∧ (s.advanceClock d due).envelope = s.envelope ∧ (s.advanceClock d due).heat =
    s.heat ∧ (s.advanceClock d due).cooler = s.cooler ∧ (s.advanceClock d due).field = s.field ∧ (s.advanceClock
    d due).pending = s.pending := by
  unfold State.advanceClock
  simp -failIfUnchanged <;> (repeat' split) <;> simp

@[simp] theorem State.setLock_frame (s : State) (g : LockGroup) (v : Bool) : (s.setLock g v).floorTime =
    s.floorTime ∧ (s.setLock g v).resetRun = s.resetRun ∧ (s.setLock g v).pinLow = s.pinLow ∧ (s.setLock g
    v).supplyLow = s.supplyLow ∧ (s.setLock g v).restartCause = s.restartCause ∧ (s.setLock g v).restartPending
    = s.restartPending ∧ (s.setLock g v).burner = s.burner ∧ (s.setLock g v).lines = s.lines ∧ (s.setLock g
    v).batches = s.batches ∧ (s.setLock g v).envelope = s.envelope ∧ (s.setLock g v).heat = s.heat ∧ (s.setLock
    g v).cooler = s.cooler ∧ (s.setLock g v).field = s.field ∧ (s.setLock g v).alarm = s.alarm ∧ (s.setLock g
    v).attention = s.attention ∧ (s.setLock g v).shift = s.shift ∧ (s.setLock g v).pending = s.pending := by
  unfold State.setLock
  simp -failIfUnchanged <;> (repeat' split) <;> simp

end Sys2Proof.Machine
end

