-- ==== Sys2Proof/Laws/Control.lean ====
section
/-! SUPPORT. What each operation does to the part's control view: the burner's state with its outputs and first-out record,
the line states, and the valve commands. First the operations that leave it unchanged, then those that change it. -/

namespace Sys2Proof.Machine

-- One closing tactic for many operations: for some of them a part of it has nothing to do.
set_option linter.unreachableTactic false
set_option linter.unusedTactic false
set_option linter.unnecessarySeqFocus false
set_option linter.unusedSimpArgs false

theorem State.face_of {s t : State} (h : t.burner = s.burner) : t.face = s.face := by simp [State.face, h]

theorem State.lineState_of {s t : State} (h : t.lines = s.lines) : t.lineState = s.lineState := by
  funext l
  simp [State.lineState, h]

theorem State.valveOpen_of {s t : State} (h : t.field = s.field) : t.valveOpen = s.valveOpen := by
  funext v
  simp [State.valveOpen, h]

@[simp] theorem State.modLink_control (s : State) (f : Link → Link) :
    (s.modLink f).face = s.face ∧ (s.modLink f).lineState = s.lineState ∧ (s.modLink f).valveOpen = s.valveOpen :=
  ⟨rfl, rfl, rfl⟩

@[simp] theorem State.modBurner_control (s : State) (f : Burner → Burner) :
    (s.modBurner f).lineState = s.lineState ∧ (s.modBurner f).valveOpen = s.valveOpen :=
  ⟨rfl, rfl⟩

@[simp] theorem State.modLine_control (s : State) (l : Fin 6) (f : Line → Line) :
    (s.modLine l f).face = s.face ∧ (s.modLine l f).valveOpen = s.valveOpen :=
  ⟨rfl, rfl⟩

@[simp] theorem State.modBatch_control (s : State) (b : Fin 2) (f : Batch → Batch) :
    (s.modBatch b f).face = s.face ∧ (s.modBatch b f).lineState = s.lineState ∧ (s.modBatch b f).valveOpen = s.valveOpen :=
  ⟨rfl, rfl, rfl⟩

@[simp] theorem State.modHeat_control (s : State) (f : Heat → Heat) :
    (s.modHeat f).face = s.face ∧ (s.modHeat f).lineState = s.lineState ∧ (s.modHeat f).valveOpen = s.valveOpen :=
  ⟨rfl, rfl, rfl⟩

@[simp] theorem State.modCooler_control (s : State) (f : Cooler → Cooler) :
    (s.modCooler f).face = s.face ∧ (s.modCooler f).lineState = s.lineState ∧ (s.modCooler f).valveOpen = s.valveOpen :=
  ⟨rfl, rfl, rfl⟩

@[simp] theorem State.modField_control (s : State) (f : Field → Field) :
    (s.modField f).face = s.face ∧ (s.modField f).lineState = s.lineState :=
  ⟨rfl, rfl⟩

@[simp] theorem State.modAlarm_control (s : State) (f : Alarm → Alarm) :
    (s.modAlarm f).face = s.face ∧ (s.modAlarm f).lineState = s.lineState ∧ (s.modAlarm f).valveOpen = s.valveOpen :=
  ⟨rfl, rfl, rfl⟩

@[simp] theorem State.modAttention_control (s : State) (f : Attention → Attention) :
    (s.modAttention f).face = s.face ∧ (s.modAttention f).lineState = s.lineState ∧ (s.modAttention f).valveOpen = s.valveOpen :=
  ⟨rfl, rfl, rfl⟩

@[simp] theorem State.modShift_control (s : State) (f : Shift → Shift) :
    (s.modShift f).face = s.face ∧ (s.modShift f).lineState = s.lineState ∧ (s.modShift f).valveOpen = s.valveOpen :=
  ⟨rfl, rfl, rfl⟩

@[simp] theorem State.modActuator_control (s : State) (a : Fin 2) (f : Actuator → Actuator) :
    (s.modActuator a f).face = s.face ∧ (s.modActuator a f).lineState = s.lineState ∧ (s.modActuator a f).valveOpen = s.valveOpen :=
  ⟨rfl, rfl, rfl⟩

@[simp] theorem State.modGrate_control (s : State) (g : Fin 4) (f : Grate → Grate) :
    (s.modGrate g f).face = s.face ∧ (s.modGrate g f).lineState = s.lineState ∧ (s.modGrate g f).valveOpen = s.valveOpen :=
  ⟨rfl, rfl, rfl⟩

@[simp] theorem State.modChamber_control (s : State) (k : Fin 12) (f : Chamber → Chamber) :
    (s.modChamber k f).face = s.face ∧ (s.modChamber k f).lineState = s.lineState ∧ (s.modChamber k f).valveOpen = s.valveOpen :=
  ⟨rfl, rfl, rfl⟩

@[simp] theorem State.modPoint_control (s : State) (p : Fin 96) (f : Point → Point) :
    (s.modPoint p f).face = s.face ∧ (s.modPoint p f).lineState = s.lineState ∧ (s.modPoint p f).valveOpen = s.valveOpen :=
  ⟨rfl, rfl, rfl⟩

@[simp] theorem State.modTotals_control (s : State) (f : Totals → Totals) :
    (s.modTotals f).face = s.face ∧ (s.modTotals f).lineState = s.lineState ∧ (s.modTotals f).valveOpen = s.valveOpen :=
  ⟨rfl, rfl, rfl⟩

@[simp] theorem State.modLineTotals_control (s : State) (l : Fin 6) (f : LineTotals → LineTotals) :
    (s.modLineTotals l f).face = s.face ∧ (s.modLineTotals l f).lineState = s.lineState ∧ (s.modLineTotals l f).valveOpen = s.valveOpen :=
  ⟨rfl, rfl, rfl⟩

@[simp] theorem State.modBurner_face (s : State) (f : Burner → Burner)
    (h : ∀ b, (f b).state = b.state ∧ (f b).igniter = b.igniter ∧ (f b).firingRelay = b.firingRelay ∧
      (f b).firstOut.isSome = b.firstOut.isSome) : (s.modBurner f).face = s.face := by
  simp [State.face, h]

@[simp] theorem State.modLine_lineState (s : State) (l : Fin 6) (f : Line → Line) (h : ∀ r, (f r).state = r.state) :
    (s.modLine l f).lineState = s.lineState := by
  funext k
  simp only [State.lineState, State.modLine, upd_get]
  split <;> simp [h]

@[simp] theorem State.modField_valveOpen (s : State) (f : Field → Field) (h : ∀ x, (f x).valves = x.valves) :
    (s.modField f).valveOpen = s.valveOpen := by
  funext v
  simp [State.valveOpen, h]

theorem State.modLine_enters (s : State) (l : Fin 6) (f : Line → Line) (st : LineState) (h : ∀ r, (f r).state = st) :
    (s.modLine l f).lineState = Function.update s.lineState l st := by
  funext k
  simp only [State.lineState, State.modLine, upd_get, Function.update_apply]
  by_cases e : l = k
  · simp [e, h]
  · simp [e, Ne.symm e]

theorem foldl_face {α : Type} (f : State → α → State) (h : ∀ s a, (f s a).face = s.face) (l : List α) (s : State) :
    (l.foldl f s).face = s.face := by
  induction l generalizing s with
  | nil => rfl
  | cons a l ih => rw [List.foldl_cons, ih, h]

theorem foldl_lineState {α : Type} (f : State → α → State) (h : ∀ s a, (f s a).lineState = s.lineState) (l : List α) (s : State) :
    (l.foldl f s).lineState = s.lineState := by
  induction l generalizing s with
  | nil => rfl
  | cons a l ih => rw [List.foldl_cons, ih, h]

theorem foldl_valveOpen {α : Type} (f : State → α → State) (h : ∀ s a, (f s a).valveOpen = s.valveOpen) (l : List α) (s : State) :
    (l.foldl f s).valveOpen = s.valveOpen := by
  induction l generalizing s with
  | nil => rfl
  | cons a l ih => rw [List.foldl_cons, ih, h]

theorem compareRates_state (now : Nat) (r : Line) : (compareRates now r).state = r.state := by
  unfold compareRates
  (repeat' split) <;> rfl

theorem Line.handed_state (r : Line) (now q a : Nat) : (r.handed now q a).state = r.state := by
  unfold Line.handed
  dsimp only
  split <;> simp [compareRates_state]

@[simp] theorem Line.addCompletion_state (r : Line) (c : Completion) : (r.addCompletion c).state = r.state := by
  unfold Line.addCompletion
  split <;> rfl

@[simp] theorem Line.measure_state (r : Line) (now : Nat) : (r.measure now).state = r.state := by
  simp [Line.measure, compareRates_state]

@[simp] theorem Line.setDeviation_state (r : Line) : r.setDeviation.state = r.state := by
  unfold Line.setDeviation
  rfl

@[simp] theorem Line.clearReasons_state (r : Line) : r.clearReasons.state = r.state := by
  unfold Line.clearReasons
  rfl

@[simp] theorem State.raise_control (s : State) (c : AttentionClass) : (s.raise c).face = s.face ∧
    (s.raise c).lineState = s.lineState ∧ (s.raise c).valveOpen = s.valveOpen := by
  simp [State.raise]

@[simp] theorem State.evaluateAt_control (s : State) (p : Nat → Option Nat) : (s.evaluateAt p).face = s.face ∧
    (s.evaluateAt p).lineState = s.lineState ∧ (s.evaluateAt p).valveOpen = s.valveOpen := by
  refine ⟨rfl, ?_, rfl⟩
  funext k
  simp [State.lineState, State.evaluateAt, Line.handed_state]

@[simp] theorem State.evaluate_control (s : State) : s.evaluate.face = s.face ∧ s.evaluate.lineState = s.lineState ∧
    s.evaluate.valveOpen = s.valveOpen := s.evaluateAt_control _

@[simp] theorem State.handPeriod_control (s : State) (b : Option Nat) : (s.handPeriod b).face = s.face ∧
    (s.handPeriod b).lineState = s.lineState ∧ (s.handPeriod b).valveOpen = s.valveOpen := by
  simp [State.handPeriod]

@[simp] theorem State.setReason_control (s : State) (l : Fin 6) (r : Reason) : (s.setReason l r).face = s.face ∧
    (s.setReason l r).lineState = s.lineState ∧ (s.setReason l r).valveOpen = s.valveOpen := by
  unfold State.setReason
  cases r <;> simp

@[simp] theorem State.notice_control (s : State) (l : Fin 6) (o : Order) : (s.notice l o).face = s.face ∧
    (s.notice l o).lineState = s.lineState ∧ (s.notice l o).valveOpen = s.valveOpen := by
  unfold State.notice
  (repeat' split) <;> simp

@[simp] theorem State.closeGate_control (s : State) (l : Fin 6) : (s.closeGate l).face = s.face ∧
    (s.closeGate l).lineState = s.lineState ∧ (s.closeGate l).valveOpen = s.valveOpen := by
  unfold State.closeGate
  split <;> simp

@[simp] theorem State.endHead_control (s : State) (l : Fin 6) (outcome : OrderOutcome) :
    (s.endHead l outcome).face = s.face ∧ (s.endHead l outcome).lineState = s.lineState ∧
    (s.endHead l outcome).valveOpen = s.valveOpen := by
  unfold State.endHead
  split
  · simp
  · rename_i o rest _
    have h : ∀ (c : Completion) (r : Line),
        (if o.notify = true then
          ({ r with queue := rest, progress := none, retired := r.retired + 1 } : Line).addCompletion c
        else { r with queue := rest, progress := none, retired := r.retired + 1 }).state = r.state := by
      intro c r
      split <;> simp [Line.addCompletion_state]
    simp only [h, State.modLine_lineState]
    split <;> simp [h]

@[simp] theorem State.discardQueue_control (s : State) (l : Fin 6) (notices : Bool) (q : List Order) :
    (s.discardQueue l notices q).face = s.face ∧ (s.discardQueue l notices q).lineState = s.lineState ∧
    (s.discardQueue l notices q).valveOpen = s.valveOpen := by
  induction q generalizing s with
  | nil => simp [State.discardQueue]
  | cons o rest ih =>
    have h : ∀ (c : Completion) (r : Line),
        (if o.notify = true then ({ r with queue := rest, discarded := r.discarded + 1 } : Line).addCompletion c
        else { r with queue := rest, discarded := r.discarded + 1 }).state = r.state := by
      intro c r
      split <;> simp [Line.addCompletion_state]
    unfold State.discardQueue
    simp only [ih]
    split <;> simp [h]

@[simp] theorem State.setPhase_control (s : State) (v : Fin 7) (p : WatchPhase) : (s.setPhase v p).face = s.face ∧
    (s.setPhase v p).lineState = s.lineState ∧ (s.setPhase v p).valveOpen = s.valveOpen := by
  refine ⟨rfl, rfl, ?_⟩
  funext w
  simp only [State.setPhase, State.valveOpen, State.modField, upd_get]
  split <;> rfl

@[simp] theorem State.voteFlame_control (s : State) : s.voteFlame.face = s.face ∧
    s.voteFlame.lineState = s.lineState ∧ s.voteFlame.valveOpen = s.valveOpen := ⟨rfl, rfl, rfl⟩

@[simp] theorem State.watchBurner_control (s : State) : s.watchBurner.face = s.face ∧
    s.watchBurner.lineState = s.lineState ∧ s.watchBurner.valveOpen = s.valveOpen := by
  refine ⟨?_, rfl, rfl⟩
  unfold State.watchBurner
  dsimp only
  apply State.modBurner_face
  intro b
  unfold Burner.watchPurge
  split <;> simp

@[simp] theorem State.addEvent_control (s : State) (k : EventKind) : (s.addEvent k).face = s.face ∧ (s.addEvent
    k).lineState = s.lineState ∧ (s.addEvent k).valveOpen = s.valveOpen :=
  ⟨State.face_of (by simp), State.lineState_of (by simp), State.valveOpen_of (by simp)⟩

@[simp] theorem State.commandValve_control (s : State) (v : Fin 7) (toOpen : Bool) : (s.commandValve v
    toOpen).face = s.face ∧ (s.commandValve v toOpen).lineState = s.lineState :=
  ⟨State.face_of (by simp), State.lineState_of (by simp)⟩

@[simp] theorem State.handDurations_control (s : State) : (s.handDurations).face = s.face ∧
    (s.handDurations).lineState = s.lineState ∧ (s.handDurations).valveOpen = s.valveOpen :=
  ⟨State.face_of (by simp), State.lineState_of (by simp), State.valveOpen_of (by simp)⟩

@[simp] theorem State.closeShift_control (s : State) (cause : CloseCause) (opens : OpenCause) (index : Nat) :
    (s.closeShift cause opens index).face = s.face ∧ (s.closeShift cause opens index).lineState = s.lineState ∧
    (s.closeShift cause opens index).valveOpen = s.valveOpen :=
  ⟨State.face_of (by simp), State.lineState_of (by simp), State.valveOpen_of (by simp)⟩

@[simp] theorem State.deliver_control (s : State) (l : Fin 6) (grams : Nat) : (s.deliver l grams).face = s.face
    ∧ (s.deliver l grams).lineState = s.lineState ∧ (s.deliver l grams).valveOpen = s.valveOpen := by
  refine ⟨State.face_of (by simp), ?_, State.valveOpen_of (by simp)⟩
  · unfold State.deliver
    simp -failIfUnchanged <;> (repeat' split) <;> simp

@[simp] theorem State.recordSlot_control (s : State) (b : Fin 2) (sr : SlotRecord) : (s.recordSlot b sr).face =
    s.face ∧ (s.recordSlot b sr).lineState = s.lineState ∧ (s.recordSlot b sr).valveOpen = s.valveOpen :=
  ⟨State.face_of (by simp), State.lineState_of (by simp), State.valveOpen_of (by simp)⟩

@[simp] theorem State.abortSlot_control (s : State) (l : Fin 6) : (s.abortSlot l).face = s.face ∧ (s.abortSlot
    l).lineState = s.lineState ∧ (s.abortSlot l).valveOpen = s.valveOpen := by
  refine ⟨State.face_of (by simp), ?_, State.valveOpen_of (by simp)⟩
  · unfold State.abortSlot
    simp -failIfUnchanged <;> (repeat' split) <;> simp

@[simp] theorem State.queueReasons_control (s : State) (l : Fin 6) : (s.queueReasons l).face = s.face ∧
    (s.queueReasons l).lineState = s.lineState ∧ (s.queueReasons l).valveOpen = s.valveOpen := by
  refine ⟨State.face_of (by simp), ?_, State.valveOpen_of (by simp)⟩
  · unfold State.queueReasons
    simp -failIfUnchanged <;> (repeat' split) <;> simp

@[simp] theorem State.retireHead_control (s : State) (l : Fin 6) (outcome : OrderOutcome) : (s.retireHead l
    outcome).face = s.face ∧ (s.retireHead l outcome).lineState = s.lineState ∧ (s.retireHead l
    outcome).valveOpen = s.valveOpen := by
  refine ⟨State.face_of (by simp), ?_, State.valveOpen_of (by simp)⟩
  · unfold State.retireHead
    simp -failIfUnchanged <;> (repeat' split) <;> simp

@[simp] theorem State.takeUp_control (s : State) (l : Fin 6) (q : List Order) : (s.takeUp l q).face = s.face ∧
    (s.takeUp l q).lineState = s.lineState ∧ (s.takeUp l q).valveOpen = s.valveOpen := by
  induction q generalizing s with
  | nil => simp [State.takeUp]
  | cons o rest ih =>
    unfold State.takeUp
    simp -failIfUnchanged [ih] <;> (repeat' split) <;> simp [ih]

@[simp] theorem State.completeHead_control (s : State) (l : Fin 6) : (s.completeHead l).face = s.face ∧
    (s.completeHead l).lineState = s.lineState ∧ (s.completeHead l).valveOpen = s.valveOpen := by
  refine ⟨State.face_of (by simp), ?_, State.valveOpen_of (by simp)⟩
  · unfold State.completeHead
    simp -failIfUnchanged <;> (repeat' split) <;> simp

@[simp] theorem State.admitLine_control (s : State) (l : Fin 6) : (s.admitLine l).face = s.face :=
  State.face_of (by simp)

@[simp] theorem State.openLine_control (s : State) (l : Fin 6) : (s.openLine l).face = s.face ∧ (s.openLine
    l).valveOpen = s.valveOpen :=
  ⟨State.face_of (by simp), State.valveOpen_of (by simp)⟩

@[simp] theorem State.rampEnd_control (s : State) (l : Fin 6) : (s.rampEnd l).face = s.face ∧ (s.rampEnd
    l).lineState = s.lineState := by
  refine ⟨State.face_of (by simp), ?_⟩
  · unfold State.rampEnd
    simp -failIfUnchanged <;> (repeat' split) <;> simp

@[simp] theorem State.beginShut_control (s : State) (l : Fin 6) : (s.beginShut l).face = s.face :=
  State.face_of (by simp)

@[simp] theorem State.enterShut_control (s : State) (l : Fin 6) : (s.enterShut l).face = s.face ∧ (s.enterShut
    l).valveOpen = s.valveOpen :=
  ⟨State.face_of (by simp), State.valveOpen_of (by simp)⟩

@[simp] theorem State.faultLine_control (s : State) (l : Fin 6) : (s.faultLine l).face = s.face :=
  State.face_of (by simp)

@[simp] theorem State.tripLine_control (s : State) (l : Fin 6) : (s.tripLine l).face = s.face :=
  State.face_of (by simp)

@[simp] theorem State.clearQueue_control (s : State) (l : Fin 6) : (s.clearQueue l).face = s.face ∧
    (s.clearQueue l).lineState = s.lineState ∧ (s.clearQueue l).valveOpen = s.valveOpen := by
  refine ⟨State.face_of (by simp), ?_, State.valveOpen_of (by simp)⟩
  · unfold State.clearQueue
    simp -failIfUnchanged <;> (repeat' split) <;> simp

@[simp] theorem State.lineProof_control (s : State) (l : Fin 6) (toOpen : Bool) : (s.lineProof l toOpen).face =
    s.face ∧ (s.lineProof l toOpen).valveOpen = s.valveOpen :=
  ⟨State.face_of (by simp), State.valveOpen_of (by simp)⟩

@[simp] theorem State.lineLatch_control (s : State) (l : Fin 6) (k : FaultKind) : (s.lineLatch l k).face =
    s.face :=
  State.face_of (by simp)

@[simp] theorem State.endSlot_control (s : State) (b : Fin 2) (sr : SlotRecord) : (s.endSlot b sr).face = s.face
    ∧ (s.endSlot b sr).lineState = s.lineState ∧ (s.endSlot b sr).valveOpen = s.valveOpen := by
  refine ⟨State.face_of (by simp), ?_, State.valveOpen_of (by simp)⟩
  · unfold State.endSlot
    simp -failIfUnchanged <;> (repeat' split) <;> simp

@[simp] theorem State.beginDrop_control (s : State) (b : Fin 2) (slot : Slot) : (s.beginDrop b slot).face =
    s.face ∧ (s.beginDrop b slot).lineState = s.lineState ∧ (s.beginDrop b slot).valveOpen = s.valveOpen :=
  ⟨State.face_of (by simp), State.lineState_of (by simp), State.valveOpen_of (by simp)⟩

@[simp] theorem State.openSlot_control (s : State) (b : Fin 2) : (s.openSlot b).face = s.face ∧ (s.openSlot
    b).lineState = s.lineState ∧ (s.openSlot b).valveOpen = s.valveOpen := by
  refine ⟨State.face_of (by simp), ?_, State.valveOpen_of (by simp)⟩
  · unfold State.openSlot
    simp -failIfUnchanged <;> (repeat' split) <;> simp

@[simp] theorem State.gateIdle_control (s : State) (b : Fin 2) : (s.gateIdle b).face = s.face ∧ (s.gateIdle
    b).lineState = s.lineState ∧ (s.gateIdle b).valveOpen = s.valveOpen :=
  ⟨State.face_of (by simp), State.lineState_of (by simp), State.valveOpen_of (by simp)⟩

@[simp] theorem State.batchPulse_control (s : State) (b : Fin 2) : (s.batchPulse b).face = s.face ∧
    (s.batchPulse b).lineState = s.lineState ∧ (s.batchPulse b).valveOpen = s.valveOpen := by
  refine ⟨State.face_of (by simp), ?_, State.valveOpen_of (by simp)⟩
  · unfold State.batchPulse
    simp -failIfUnchanged <;> (repeat' split) <;> simp

@[simp] theorem State.readyLost_control (s : State) (b : Fin 2) : (s.readyLost b).face = s.face ∧ (s.readyLost
    b).lineState = s.lineState ∧ (s.readyLost b).valveOpen = s.valveOpen := by
  refine ⟨State.face_of (by simp), ?_, State.valveOpen_of (by simp)⟩
  · unfold State.readyLost
    simp -failIfUnchanged <;> (repeat' split) <;> simp

@[simp] theorem State.weighSlot_control (s : State) (b : Fin 2) (slot : Slot) : (s.weighSlot b slot).face =
    s.face ∧ (s.weighSlot b slot).lineState = s.lineState ∧ (s.weighSlot b slot).valveOpen = s.valveOpen := by
  refine ⟨State.face_of (by simp), ?_, State.valveOpen_of (by simp)⟩
  · unfold State.weighSlot
    simp -failIfUnchanged <;> (repeat' split) <;> simp

@[simp] theorem State.burnerTo_control (s : State) (st : BurnerState) : (s.burnerTo st).lineState = s.lineState
    :=
  State.lineState_of (by simp)

@[simp] theorem State.toIdle_control (s : State) (reason : StopReason) : (s.toIdle reason).lineState =
    s.lineState :=
  State.lineState_of (by simp)

@[simp] theorem State.setOwners_control (s : State) (o : Owner) : (s.setOwners o).face = s.face ∧ (s.setOwners
    o).lineState = s.lineState ∧ (s.setOwners o).valveOpen = s.valveOpen := by
  refine ⟨?_, State.lineState_of (by simp), State.valveOpen_of (by simp)⟩
  · unfold State.setOwners
    simp -failIfUnchanged <;> (repeat' split) <;> simp

@[simp] theorem State.completeWork_control (s : State) (a : Fin 2) (o : WorkOutcome) : (s.completeWork a o).face
    = s.face ∧ (s.completeWork a o).lineState = s.lineState ∧ (s.completeWork a o).valveOpen = s.valveOpen := by
  refine ⟨?_, State.lineState_of (by simp), State.valveOpen_of (by simp)⟩
  · unfold State.completeWork
    simp -failIfUnchanged <;> (repeat' split) <;> simp

@[simp] theorem State.endWork_control (s : State) (a : Fin 2) (o : WorkOutcome) : (s.endWork a o).face = s.face
    ∧ (s.endWork a o).lineState = s.lineState ∧ (s.endWork a o).valveOpen = s.valveOpen := by
  refine ⟨?_, State.lineState_of (by simp), State.valveOpen_of (by simp)⟩
  · unfold State.endWork
    simp -failIfUnchanged <;> (repeat' split) <;> simp

@[simp] theorem State.abortWork_control (s : State) : (s.abortWork).face = s.face ∧ (s.abortWork).lineState =
    s.lineState ∧ (s.abortWork).valveOpen = s.valveOpen := by
  refine ⟨?_, State.lineState_of (by simp), State.valveOpen_of (by simp)⟩
  · unfold State.abortWork
    simp -failIfUnchanged [foldl_face] <;> (repeat' split) <;> simp [foldl_face]

@[simp] theorem State.startMove_control (s : State) (a : Fin 2) (target : Nat) : (s.startMove a target).face =
    s.face ∧ (s.startMove a target).lineState = s.lineState ∧ (s.startMove a target).valveOpen = s.valveOpen :=
    by
  refine ⟨?_, State.lineState_of (by simp), State.valveOpen_of (by simp)⟩
  · unfold State.startMove
    simp -failIfUnchanged <;> (repeat' split) <;> simp

@[simp] theorem State.homeDone_control (s : State) (a : Fin 2) : (s.homeDone a).face = s.face ∧ (s.homeDone
    a).lineState = s.lineState ∧ (s.homeDone a).valveOpen = s.valveOpen := by
  refine ⟨?_, State.lineState_of (by simp), State.valveOpen_of (by simp)⟩
  · unfold State.homeDone
    simp -failIfUnchanged <;> (repeat' split) <;> simp

@[simp] theorem State.startHome_control (s : State) (a : Fin 2) : (s.startHome a).face = s.face ∧ (s.startHome
    a).lineState = s.lineState ∧ (s.startHome a).valveOpen = s.valveOpen := by
  refine ⟨?_, State.lineState_of (by simp), State.valveOpen_of (by simp)⟩
  · unfold State.startHome
    simp -failIfUnchanged <;> (repeat' split) <;> simp

@[simp] theorem State.sequenceEnd_control (s : State) (reason : StopReason) : (s.sequenceEnd reason).lineState =
    s.lineState :=
  State.lineState_of (by simp)

@[simp] theorem State.sequenceFault_control (s : State) : (s.sequenceFault).lineState = s.lineState :=
  State.lineState_of (by simp)

@[simp] theorem State.toIgnition_control (s : State) : (s.toIgnition).lineState = s.lineState :=
  State.lineState_of (by simp)

@[simp] theorem State.homeFailed_control (s : State) (a : Fin 2) : (s.homeFailed a).lineState = s.lineState :=
  State.lineState_of (by simp)

@[simp] theorem State.settled_control (s : State) (a : Fin 2) : (s.settled a).lineState = s.lineState :=
  State.lineState_of (by simp)

@[simp] theorem State.countClaim_control (s : State) : (s.countClaim).face = s.face ∧ (s.countClaim).lineState =
    s.lineState ∧ (s.countClaim).valveOpen = s.valveOpen := by
  refine ⟨?_, State.lineState_of (by simp), State.valveOpen_of (by simp)⟩
  · unfold State.countClaim
    simp -failIfUnchanged <;> (repeat' split) <;> simp

@[simp] theorem State.claimForPurge_control (s : State) (a : Fin 2) : (s.claimForPurge a).face = s.face ∧
    (s.claimForPurge a).lineState = s.lineState ∧ (s.claimForPurge a).valveOpen = s.valveOpen := by
  refine ⟨?_, State.lineState_of (by simp), State.valveOpen_of (by simp)⟩
  · unfold State.claimForPurge
    simp -failIfUnchanged <;> (repeat' split) <;> simp

@[simp] theorem State.toPurge_control (s : State) : (s.toPurge).lineState = s.lineState :=
  State.lineState_of (by simp)

@[simp] theorem State.toPrepare_control (s : State) : (s.toPrepare).lineState = s.lineState :=
  State.lineState_of (by simp)

@[simp] theorem State.toPilot_control (s : State) : (s.toPilot).lineState = s.lineState :=
  State.lineState_of (by simp)

@[simp] theorem State.toMainFiring_control (s : State) : (s.toMainFiring).lineState = s.lineState := by
  unfold State.toMainFiring
  simp -failIfUnchanged <;> (repeat' split) <;> simp

@[simp] theorem State.rampCeiling_control (s : State) (k : Nat) : (s.rampCeiling k).face = s.face ∧
    (s.rampCeiling k).lineState = s.lineState ∧ (s.rampCeiling k).valveOpen = s.valveOpen := by
  refine ⟨?_, ?_, State.valveOpen_of (by simp)⟩
  · unfold State.rampCeiling
    simp -failIfUnchanged <;> (repeat' split) <;> simp
  · unfold State.rampCeiling
    simp -failIfUnchanged <;> (repeat' split) <;> simp

@[simp] theorem State.watchLines_control (s : State) : (s.watchLines).lineState = s.lineState :=
  State.lineState_of (by simp)

@[simp] theorem State.listChange_control (s : State) (i : Fin 96) (new : PointState) : (s.listChange i new).face
    = s.face ∧ (s.listChange i new).lineState = s.lineState ∧ (s.listChange i new).valveOpen = s.valveOpen :=
  ⟨State.face_of (by simp), State.lineState_of (by simp), State.valveOpen_of (by simp)⟩

@[simp] theorem State.claimCutBack_control (s : State) (i : Fin 96) (cutBack : Nat) (old new : PointState) :
    (s.claimCutBack i cutBack old new).face = s.face ∧ (s.claimCutBack i cutBack old new).lineState =
    s.lineState ∧ (s.claimCutBack i cutBack old new).valveOpen = s.valveOpen := by
  refine ⟨State.face_of (by simp), ?_, State.valveOpen_of (by simp)⟩
  · unfold State.claimCutBack
    simp -failIfUnchanged <;> (repeat' split) <;> simp

@[simp] theorem State.formHorn_control (s : State) : (s.formHorn).face = s.face ∧ (s.formHorn).lineState =
    s.lineState ∧ (s.formHorn).valveOpen = s.valveOpen :=
  ⟨State.face_of (by simp), State.lineState_of (by simp), State.valveOpen_of (by simp)⟩

@[simp] theorem State.enterPoint_control (s : State) (i : Fin 96) (new : PointState) : (s.enterPoint i new).face
    = s.face ∧ (s.enterPoint i new).lineState = s.lineState ∧ (s.enterPoint i new).valveOpen = s.valveOpen := by
  refine ⟨State.face_of (by simp), ?_, State.valveOpen_of (by simp)⟩
  · unfold State.enterPoint
    simp -failIfUnchanged <;> (repeat' split) <;> simp

@[simp] theorem State.restPoint_control (s : State) (i : Fin 96) : (s.restPoint i).face = s.face ∧ (s.restPoint
    i).lineState = s.lineState ∧ (s.restPoint i).valveOpen = s.valveOpen := by
  refine ⟨State.face_of (by simp), ?_, State.valveOpen_of (by simp)⟩
  · unfold State.restPoint
    simp -failIfUnchanged <;> (repeat' split) <;> simp

@[simp] theorem State.raiseOnce_control (s : State) (i : Fin 96) : (s.raiseOnce i).face = s.face ∧ (s.raiseOnce
    i).lineState = s.lineState ∧ (s.raiseOnce i).valveOpen = s.valveOpen := by
  refine ⟨State.face_of (by simp), ?_, State.valveOpen_of (by simp)⟩
  · unfold State.raiseOnce
    simp -failIfUnchanged <;> (repeat' split) <;> simp

@[simp] theorem State.raiseFlood_control (s : State) : (s.raiseFlood).face = s.face ∧ (s.raiseFlood).lineState =
    s.lineState ∧ (s.raiseFlood).valveOpen = s.valveOpen := by
  refine ⟨State.face_of (by simp), ?_, State.valveOpen_of (by simp)⟩
  · unfold State.raiseFlood
    simp -failIfUnchanged <;> (repeat' split) <;> simp

@[simp] theorem State.watchFlood_control (s : State) : (s.watchFlood).face = s.face ∧ (s.watchFlood).lineState =
    s.lineState ∧ (s.watchFlood).valveOpen = s.valveOpen := by
  refine ⟨State.face_of (by simp), ?_, State.valveOpen_of (by simp)⟩
  · unfold State.watchFlood
    simp -failIfUnchanged <;> (repeat' split) <;> simp

@[simp] theorem State.becomeInactive_control (s : State) (i : Fin 96) : (s.becomeInactive i).face = s.face ∧
    (s.becomeInactive i).lineState = s.lineState ∧ (s.becomeInactive i).valveOpen = s.valveOpen := by
  refine ⟨State.face_of (by simp), ?_, State.valveOpen_of (by simp)⟩
  · unfold State.becomeInactive
    simp -failIfUnchanged <;> (repeat' split) <;> simp

@[simp] theorem State.acknowledge_control (s : State) (i : Fin 96) : (s.acknowledge i).1.face = s.face ∧
    (s.acknowledge i).1.lineState = s.lineState ∧ (s.acknowledge i).1.valveOpen = s.valveOpen := by
  refine ⟨State.face_of (by simp), ?_, State.valveOpen_of (by simp)⟩
  · unfold State.acknowledge
    simp -failIfUnchanged <;> (repeat' split) <;> simp

@[simp] theorem State.shelvePoint_control (s : State) (i : Fin 96) (expiry : Nat) : (s.shelvePoint i
    expiry).face = s.face ∧ (s.shelvePoint i expiry).lineState = s.lineState ∧ (s.shelvePoint i
    expiry).valveOpen = s.valveOpen := by
  refine ⟨State.face_of (by simp), ?_, State.valveOpen_of (by simp)⟩
  · unfold State.shelvePoint
    simp -failIfUnchanged <;> (repeat' split) <;> simp

@[simp] theorem State.disablePoint_control (s : State) (i : Fin 96) : (s.disablePoint i).face = s.face ∧
    (s.disablePoint i).lineState = s.lineState ∧ (s.disablePoint i).valveOpen = s.valveOpen := by
  refine ⟨State.face_of (by simp), ?_, State.valveOpen_of (by simp)⟩
  · unfold State.disablePoint
    simp -failIfUnchanged <;> (repeat' split) <;> simp

@[simp] theorem State.formCooler_control (s : State) : (s.formCooler).face = s.face ∧ (s.formCooler).lineState =
    s.lineState ∧ (s.formCooler).valveOpen = s.valveOpen :=
  ⟨State.face_of (by simp), State.lineState_of (by simp), State.valveOpen_of (by simp)⟩

@[simp] theorem State.countFired_control (s : State) : (s.countFired).face = s.face ∧ (s.countFired).lineState =
    s.lineState ∧ (s.countFired).valveOpen = s.valveOpen :=
  ⟨State.face_of (by simp), State.lineState_of (by simp), State.valveOpen_of (by simp)⟩

@[simp] theorem State.countSkipped_control (s : State) (n : Nat) : (s.countSkipped n).face = s.face ∧
    (s.countSkipped n).lineState = s.lineState ∧ (s.countSkipped n).valveOpen = s.valveOpen :=
  ⟨State.face_of (by simp), State.lineState_of (by simp), State.valveOpen_of (by simp)⟩

@[simp] theorem State.abandonCycle_control (s : State) : (s.abandonCycle).face = s.face ∧
    (s.abandonCycle).lineState = s.lineState ∧ (s.abandonCycle).valveOpen = s.valveOpen :=
  ⟨State.face_of (by simp), State.lineState_of (by simp), State.valveOpen_of (by simp)⟩

@[simp] theorem State.endBlasting_control (s : State) : (s.endBlasting).face = s.face ∧
    (s.endBlasting).lineState = s.lineState ∧ (s.endBlasting).valveOpen = s.valveOpen :=
  ⟨State.face_of (by simp), State.lineState_of (by simp), State.valveOpen_of (by simp)⟩

@[simp] theorem State.blasterPulse_control (s : State) : (s.blasterPulse).face = s.face ∧
    (s.blasterPulse).lineState = s.lineState ∧ (s.blasterPulse).valveOpen = s.valveOpen :=
  ⟨State.face_of (by simp), State.lineState_of (by simp), State.valveOpen_of (by simp)⟩

@[simp] theorem State.decideBlaster_control (s : State) (next due : Nat) : (s.decideBlaster next due).face =
    s.face ∧ (s.decideBlaster next due).lineState = s.lineState ∧ (s.decideBlaster next due).valveOpen =
    s.valveOpen :=
  ⟨State.face_of (by simp), State.lineState_of (by simp), State.valveOpen_of (by simp)⟩

@[simp] theorem State.coolerTo_control (s : State) (st : CoolerState) : (s.coolerTo st).face = s.face ∧
    (s.coolerTo st).lineState = s.lineState ∧ (s.coolerTo st).valveOpen = s.valveOpen :=
  ⟨State.face_of (by simp), State.lineState_of (by simp), State.valveOpen_of (by simp)⟩

@[simp] theorem State.beginStart_control (s : State) : (s.beginStart).face = s.face ∧ (s.beginStart).lineState =
    s.lineState ∧ (s.beginStart).valveOpen = s.valveOpen :=
  ⟨State.face_of (by simp), State.lineState_of (by simp), State.valveOpen_of (by simp)⟩

@[simp] theorem State.startNext_control (s : State) : (s.startNext).face = s.face ∧ (s.startNext).lineState =
    s.lineState ∧ (s.startNext).valveOpen = s.valveOpen :=
  ⟨State.face_of (by simp), State.lineState_of (by simp), State.valveOpen_of (by simp)⟩

@[simp] theorem State.stopNext_control (s : State) : (s.stopNext).face = s.face ∧ (s.stopNext).lineState =
    s.lineState ∧ (s.stopNext).valveOpen = s.valveOpen :=
  ⟨State.face_of (by simp), State.lineState_of (by simp), State.valveOpen_of (by simp)⟩

@[simp] theorem State.endSurge_control (s : State) : (s.endSurge).face = s.face ∧ (s.endSurge).lineState =
    s.lineState ∧ (s.endSurge).valveOpen = s.valveOpen := by
  refine ⟨State.face_of (by simp), ?_, State.valveOpen_of (by simp)⟩
  · unfold State.endSurge
    simp -failIfUnchanged <;> (repeat' split) <;> simp

@[simp] theorem State.beginSurge_control (s : State) : (s.beginSurge).face = s.face ∧ (s.beginSurge).lineState =
    s.lineState ∧ (s.beginSurge).valveOpen = s.valveOpen := by
  refine ⟨State.face_of (by simp), ?_, State.valveOpen_of (by simp)⟩
  · unfold State.beginSurge
    simp -failIfUnchanged <;> (repeat' split) <;> simp

@[simp] theorem State.formBedMean_control (s : State) : (s.formBedMean).face = s.face ∧
    (s.formBedMean).lineState = s.lineState ∧ (s.formBedMean).valveOpen = s.valveOpen := by
  refine ⟨State.face_of (by simp), ?_, State.valveOpen_of (by simp)⟩
  · unfold State.formBedMean
    simp -failIfUnchanged <;> (repeat' split) <;> simp

@[simp] theorem State.release_control (s : State) : (s.release).face = s.face ∧ (s.release).lineState =
    s.lineState ∧ (s.release).valveOpen = s.valveOpen := by
  refine ⟨State.face_of (by simp), ?_, State.valveOpen_of (by simp)⟩
  · unfold State.release
    simp -failIfUnchanged <;> (repeat' split) <;> simp

@[simp] theorem State.faultGrate_control (s : State) (g : Fin 4) : (s.faultGrate g).face = s.face ∧
    (s.faultGrate g).lineState = s.lineState ∧ (s.faultGrate g).valveOpen = s.valveOpen :=
  ⟨State.face_of (by simp), State.lineState_of (by simp), State.valveOpen_of (by simp)⟩

@[simp] theorem State.clearGrate_control (s : State) (g : Fin 4) : (s.clearGrate g).face = s.face ∧
    (s.clearGrate g).lineState = s.lineState ∧ (s.clearGrate g).valveOpen = s.valveOpen :=
  ⟨State.face_of (by simp), State.lineState_of (by simp), State.valveOpen_of (by simp)⟩

@[simp] theorem State.handLatch_control (s : State) (r : Fin 23) (k : FaultKind) : (s.handLatch r k).face =
    s.face :=
  State.face_of (by simp)

@[simp] theorem State.latch_control (s : State) (r : Fin 23) (k : FaultKind) : (s.latch r k).face = s.face :=
  State.face_of (by simp)

@[simp] theorem State.testRecord_control (s : State) (r : Fin 23) : (s.testRecord r).face = s.face :=
  State.face_of (by simp)

@[simp] theorem State.handClear_control (s : State) (r : Fin 23) : (s.handClear r).face = s.face ∧ (s.handClear
    r).lineState = s.lineState ∧ (s.handClear r).valveOpen = s.valveOpen :=
  ⟨State.face_of (by simp), State.lineState_of (by simp), State.valveOpen_of (by simp)⟩

@[simp] theorem State.clearHanded_control (s : State) : s.clearHanded.face = s.face ∧ s.clearHanded.lineState =
    s.lineState ∧ s.clearHanded.valveOpen = s.valveOpen :=
  ⟨State.face_of (by simp), State.lineState_of (by simp), State.valveOpen_of (by simp)⟩

@[simp] theorem State.handCleared_control (before s : State) (r : Fin 23) : (State.handCleared before s r).face =
    s.face ∧ (State.handCleared before s r).lineState = s.lineState ∧ (State.handCleared before s r).valveOpen =
    s.valveOpen :=
  ⟨State.face_of (by simp), State.lineState_of (by simp), State.valveOpen_of (by simp)⟩

@[simp] theorem State.clearRecords_control (s : State) (named : List (Fin 23)) : (s.clearRecords named).face = s.face :=
  State.face_of (by simp)

@[simp] theorem State.retest_control (before s : State) (r : Fin 23) : (State.retest before s r).face = s.face
    :=
  State.face_of (by simp)

@[simp] theorem State.handProof_control (s : State) (v : Fin 7) : (s.handProof v).face = s.face ∧ (s.handProof
    v).valveOpen = s.valveOpen :=
  ⟨State.face_of (by simp), State.valveOpen_of (by simp)⟩

@[simp] theorem State.watchValve_control (s : State) (v : Fin 7) : (s.watchValve v).face = s.face :=
  State.face_of (by simp)

@[simp] theorem State.proofExpired_control (s : State) (v : Fin 7) : (s.proofExpired v).face = s.face :=
  State.face_of (by simp)

@[simp] theorem State.countPulse_control (s : State) (n : Fin 11) : (s.countPulse n).face = s.face ∧
    (s.countPulse n).lineState = s.lineState ∧ (s.countPulse n).valveOpen = s.valveOpen := by
  refine ⟨State.face_of (by simp), State.lineState_of (by simp), ?_⟩
  · unfold State.countPulse
    simp -failIfUnchanged <;> (repeat' split) <;> simp

@[simp] theorem State.indexPulse_control (s : State) : (s.indexPulse).face = s.face ∧ (s.indexPulse).lineState =
    s.lineState ∧ (s.indexPulse).valveOpen = s.valveOpen := by
  unfold State.indexPulse
  simp -failIfUnchanged <;> (repeat' split) <;> simp

@[simp] theorem State.kilnStop_control (s : State) : (s.kilnStop).face = s.face ∧ (s.kilnStop).lineState =
    s.lineState ∧ (s.kilnStop).valveOpen = s.valveOpen := by
  refine ⟨State.face_of (by simp), ?_, ?_⟩
  · unfold State.kilnStop
    simp -failIfUnchanged <;> (repeat' split) <;> simp
  · unfold State.kilnStop
    simp -failIfUnchanged <;> (repeat' split) <;> simp

@[simp] theorem State.takeScan_control (s : State) (scan : Vector ScanEntry 32) : (s.takeScan scan).face =
    s.face ∧ (s.takeScan scan).lineState = s.lineState ∧ (s.takeScan scan).valveOpen = s.valveOpen := by
  refine ⟨State.face_of (by simp), ?_, ?_⟩
  · unfold State.takeScan
    simp -failIfUnchanged <;> (repeat' split) <;> simp
  · unfold State.takeScan
    simp -failIfUnchanged <;> (repeat' split) <;> simp

@[simp] theorem State.loseScans_control (s : State) : (s.loseScans).face = s.face ∧ (s.loseScans).lineState =
    s.lineState ∧ (s.loseScans).valveOpen = s.valveOpen := by
  refine ⟨State.face_of (by simp), ?_, ?_⟩
  · unfold State.loseScans
    simp -failIfUnchanged <;> (repeat' split) <;> simp
  · unfold State.loseScans
    simp -failIfUnchanged <;> (repeat' split) <;> simp

@[simp] theorem State.formImage_control (s : State) : (s.formImage).face = s.face ∧ (s.formImage).lineState =
    s.lineState ∧ (s.formImage).valveOpen = s.valveOpen := by
  refine ⟨State.face_of (by simp), State.lineState_of (by simp), ?_⟩
  · unfold State.formImage
    simp -failIfUnchanged <;> (repeat' split) <;> simp

@[simp] theorem State.beginDrive_control (s : State) : (s.beginDrive).face = s.face ∧ (s.beginDrive).lineState =
    s.lineState ∧ (s.beginDrive).valveOpen = s.valveOpen := by
  refine ⟨State.face_of (by simp), State.lineState_of (by simp), ?_⟩
  · unfold State.beginDrive
    simp -failIfUnchanged <;> (repeat' split) <;> simp

@[simp] theorem State.watchHome_control (s : State) (a : Fin 2) : (s.watchHome a).face = s.face ∧ (s.watchHome
    a).lineState = s.lineState ∧ (s.watchHome a).valveOpen = s.valveOpen := by
  refine ⟨?_, State.lineState_of (by simp), State.valveOpen_of (by simp)⟩
  · unfold State.watchHome
    simp -failIfUnchanged <;> (repeat' split) <;> simp

@[simp] theorem State.queueOwed_control (s : State) : (s.queueOwed).face = s.face ∧ (s.queueOwed).lineState =
    s.lineState ∧ (s.queueOwed).valveOpen = s.valveOpen :=
  ⟨State.face_of (by simp), State.lineState_of (by simp), State.valveOpen_of (by simp)⟩

@[simp] theorem State.sendNext_control (s : State) : (s.sendNext).face = s.face ∧ (s.sendNext).lineState =
    s.lineState ∧ (s.sendNext).valveOpen = s.valveOpen :=
  ⟨State.face_of (by simp), State.lineState_of (by simp), State.valveOpen_of (by simp)⟩

@[simp] theorem State.pump_control (s : State) : (s.pump).face = s.face ∧ (s.pump).lineState = s.lineState ∧
    (s.pump).valveOpen = s.valveOpen :=
  ⟨State.face_of (by simp), State.lineState_of (by simp), State.valveOpen_of (by simp)⟩

@[simp] theorem State.send_control (s : State) (f : Frame) : (s.send f).face = s.face ∧ (s.send f).lineState =
    s.lineState ∧ (s.send f).valveOpen = s.valveOpen :=
  ⟨State.face_of (by simp), State.lineState_of (by simp), State.valveOpen_of (by simp)⟩

@[simp] theorem State.discardFrame_control (s : State) : (s.discardFrame).face = s.face ∧
    (s.discardFrame).lineState = s.lineState ∧ (s.discardFrame).valveOpen = s.valveOpen :=
  ⟨State.face_of (by simp), State.lineState_of (by simp), State.valveOpen_of (by simp)⟩

@[simp] theorem State.leaveLockout_control (s : State) : (s.leaveLockout).lineState = s.lineState :=
  State.lineState_of (by simp)

@[simp] theorem State.claimForHost_control (s : State) (a : Fin 2) : (s.claimForHost a).face = s.face ∧
    (s.claimForHost a).lineState = s.lineState ∧ (s.claimForHost a).valveOpen = s.valveOpen := by
  refine ⟨?_, State.lineState_of (by simp), State.valveOpen_of (by simp)⟩
  · unfold State.claimForHost
    simp -failIfUnchanged <;> (repeat' split) <;> simp

@[simp] theorem State.configure_control (s : State) (l : Fin 6) (c : LineSettings) : (s.configure l c).face =
    s.face ∧ (s.configure l c).lineState = s.lineState ∧ (s.configure l c).valveOpen = s.valveOpen := by
  refine ⟨State.face_of (by simp), ?_, State.valveOpen_of (by simp)⟩
  · unfold State.configure
    simp -failIfUnchanged <;> (repeat' split) <;> simp

@[simp] theorem State.post_control (s : State) (l : Fin 6) (orders : List Order) : (s.post l orders).face =
    s.face ∧ (s.post l orders).lineState = s.lineState ∧ (s.post l orders).valveOpen = s.valveOpen := by
  refine ⟨State.face_of (by simp), ?_, State.valveOpen_of (by simp)⟩
  · unfold State.post
    simp -failIfUnchanged <;> (repeat' split) <;> simp

@[simp] theorem State.weigh_control (s : State) (l : Fin 6) : (s.weigh l).face = s.face ∧ (s.weigh l).lineState
    = s.lineState ∧ (s.weigh l).valveOpen = s.valveOpen := by
  refine ⟨State.face_of (by simp), ?_, ?_⟩
  · unfold State.weigh
    simp -failIfUnchanged <;> (repeat' split) <;> simp
  · unfold State.weigh
    simp -failIfUnchanged <;> (repeat' split) <;> simp

@[simp] theorem State.rampRate_control (s : State) (l : Fin 6) : (s.rampRate l).face = s.face ∧ (s.rampRate
    l).lineState = s.lineState ∧ (s.rampRate l).valveOpen = s.valveOpen := by
  refine ⟨State.face_of (by simp), ?_, State.valveOpen_of (by simp)⟩
  · unfold State.rampRate
    simp -failIfUnchanged <;> (repeat' split) <;> simp

@[simp] theorem State.rampShut_control (s : State) (l : Fin 6) : (s.rampShut l).face = s.face ∧ (s.rampShut
    l).lineState = s.lineState := by
  refine ⟨State.face_of (by simp), ?_⟩
  · unfold State.rampShut
    simp -failIfUnchanged <;> (repeat' split) <;> simp

@[simp] theorem State.endDrop_control (s : State) (b : Fin 2) (w : Slot) : (s.endDrop b w).face = s.face ∧
    (s.endDrop b w).lineState = s.lineState ∧ (s.endDrop b w).valveOpen = s.valveOpen :=
  ⟨State.face_of (by simp), State.lineState_of (by simp), State.valveOpen_of (by simp)⟩

@[simp] theorem State.setOperator_control (s : State) (v : Option Nat) : (s.setOperator v).face = s.face ∧
    (s.setOperator v).lineState = s.lineState ∧ (s.setOperator v).valveOpen = s.valveOpen := by
  refine ⟨State.face_of (by simp), ?_, State.valveOpen_of (by simp)⟩
  · unfold State.setOperator
    simp -failIfUnchanged <;> (repeat' split) <;> simp

@[simp] theorem State.stagger_control (s : State) : (s.stagger).face = s.face ∧ (s.stagger).lineState =
    s.lineState ∧ (s.stagger).valveOpen = s.valveOpen :=
  ⟨State.face_of (by simp), State.lineState_of (by simp), State.valveOpen_of (by simp)⟩

@[simp] theorem State.stroke_control (s : State) (g : Fin 4) : (s.stroke g).face = s.face ∧ (s.stroke
    g).lineState = s.lineState ∧ (s.stroke g).valveOpen = s.valveOpen := by
  refine ⟨State.face_of (by simp), State.lineState_of (by simp), ?_⟩
  · unfold State.stroke
    simp -failIfUnchanged <;> (repeat' split) <;> simp

@[simp] theorem State.watchFailed_control (s : State) (g : Fin 4) : (s.watchFailed g).face = s.face :=
  State.face_of (by simp)

@[simp] theorem State.currentFailed_control (s : State) (k : Fin 12) : (s.currentFailed k).face = s.face :=
  State.face_of (by simp)

@[simp] theorem State.remask_control (s : State) (masks : BitVec 32) : (s.remask masks).face = s.face :=
  State.face_of (by simp)

@[simp] theorem State.ignoreScan_control (s : State) : (s.ignoreScan).face = s.face ∧ (s.ignoreScan).lineState =
    s.lineState ∧ (s.ignoreScan).valveOpen = s.valveOpen := by
  refine ⟨State.face_of (by simp), State.lineState_of (by simp), ?_⟩
  · unfold State.ignoreScan
    simp -failIfUnchanged <;> (repeat' split) <;> simp

@[simp] theorem State.setAlarm_control (s : State) (threshold window silence : Nat) : (s.setAlarm threshold
    window silence).face = s.face ∧ (s.setAlarm threshold window silence).lineState = s.lineState ∧ (s.setAlarm
    threshold window silence).valveOpen = s.valveOpen :=
  ⟨State.face_of (by simp), State.lineState_of (by simp), State.valveOpen_of (by simp)⟩

@[simp] theorem State.acknowledgeClass_control (s : State) (c : PointClass) : (s.acknowledgeClass c).1.face =
    s.face ∧ (s.acknowledgeClass c).1.lineState = s.lineState ∧ (s.acknowledgeClass c).1.valveOpen = s.valveOpen
    := by
  unfold State.acknowledgeClass
  refine ⟨?_, ?_, ?_⟩
  · exact foldl_fst (fun s => s.face) _ (by intro p i; dsimp only; split <;> simp) _ _
  · exact foldl_fst (fun s => s.lineState) _ (by intro p i; dsimp only; split <;> simp) _ _
  · exact foldl_fst (fun s => s.valveOpen) _ (by intro p i; dsimp only; split <;> simp) _ _

@[simp] theorem State.advanceClock_control (s : State) (d : DateTime) (due : Nat) : (s.advanceClock d due).face
    = s.face ∧ (s.advanceClock d due).lineState = s.lineState ∧ (s.advanceClock d due).valveOpen = s.valveOpen
    :=
  ⟨State.face_of (by simp), State.lineState_of (by simp), State.valveOpen_of (by simp)⟩

@[simp] theorem State.setLock_control (s : State) (g : LockGroup) (v : Bool) : (s.setLock g v).face = s.face ∧
    (s.setLock g v).lineState = s.lineState ∧ (s.setLock g v).valveOpen = s.valveOpen :=
  ⟨State.face_of (by simp), State.lineState_of (by simp), State.valveOpen_of (by simp)⟩

/-! ### Operations that change the control view -/

/-- The valve takes the command, and no other valve changes. -/
@[simp] theorem State.commandValve_valveOpen (s : State) (v : Fin 7) (o : Bool) :
    (s.commandValve v o).valveOpen = Function.update s.valveOpen v o := by
  funext w
  unfold State.commandValve
  split
  · rename_i h
    by_cases e : w = v
    · subst e
      simp [State.valveOpen, h]
    · simp [e]
  · simp only [State.valveOpen, State.modField, upd_get, Function.update_apply]
    by_cases e : v = w
    · simp [e]
    · simp [e, Ne.symm e]

@[simp] theorem State.burnerTo_face (s : State) (st : BurnerState) :
    (s.burnerTo st).face = (st, decide (st = .ignition), st.firing, s.burner.firstOut.isSome) := by
  simp [State.burnerTo, State.face, Burner.enter]

@[simp] theorem State.burnerTo_valveOpen (s : State) (st : BurnerState) :
    (s.burnerTo st).valveOpen = Function.update s.valveOpen pv st.pilotOpen := by
  simp [State.burnerTo]

@[simp] theorem Line.enter_state (r : Line) (st : LineState) : (r.enter st).state = st := rfl

@[simp] theorem State.enterShut_lineState (s : State) (l : Fin 6) :
    (s.enterShut l).lineState = Function.update s.lineState l .shut := by
  unfold State.enterShut
  simp only [State.evaluate_control, State.addEvent_control]
  exact State.modLine_enters _ _ _ _ fun _ => rfl

@[simp] theorem State.openLine_lineState (s : State) (l : Fin 6) :
    (s.openLine l).lineState = Function.update s.lineState l .opened := by
  have h : ((s.modLine l fun r => r.enter .opened).addEvent (.lineAdmitted l)).evaluate.lineState =
      Function.update s.lineState l .opened := by
    simp only [State.evaluate_control, State.addEvent_control]
    exact State.modLine_enters _ _ _ _ fun _ => rfl
  unfold State.openLine
  dsimp only
  split <;> simp only [State.setReason_control, State.takeUp_control] <;> exact h

@[simp] theorem State.admitLine_lineState (s : State) (l : Fin 6) :
    (s.admitLine l).lineState = Function.update s.lineState l .admitting := by
  unfold State.admitLine
  simp only [State.evaluate_control, State.commandValve_control]
  exact State.modLine_enters _ _ _ _ fun _ => rfl

@[simp] theorem State.admitLine_valveOpen (s : State) (l : Fin 6) :
    (s.admitLine l).valveOpen = Function.update s.valveOpen (svOf l) true := by
  simp [State.admitLine]

@[simp] theorem State.rampEnd_valveOpen (s : State) (l : Fin 6) :
    (s.rampEnd l).valveOpen = Function.update s.valveOpen (svOf l) false := by
  simp [State.rampEnd]

@[simp] theorem State.faultLine_lineState (s : State) (l : Fin 6) :
    (s.faultLine l).lineState = Function.update s.lineState l .fault := by
  unfold State.faultLine
  simp only [State.evaluate_control, State.addEvent_control, State.setReason_control, State.takeUp_control]
  split <;> simp only [State.retireHead_control, State.commandValve_control, State.closeGate_control] <;>
    rw [State.modLine_enters _ _ _ .fault fun _ => rfl] <;> simp

@[simp] theorem State.faultLine_valveOpen (s : State) (l : Fin 6) :
    (s.faultLine l).valveOpen = Function.update s.valveOpen (svOf l) false := by
  unfold State.faultLine
  simp only [State.evaluate_control, State.addEvent_control, State.setReason_control, State.takeUp_control]
  split <;> simp

@[simp] theorem State.tripLine_lineState (s : State) (l : Fin 6) :
    (s.tripLine l).lineState = Function.update s.lineState l .shut := by
  unfold State.tripLine
  dsimp only
  (repeat' split) <;> simp <;> rw [State.modLine_enters _ _ _ .shut fun _ => rfl] <;> simp

@[simp] theorem State.tripLine_valveOpen (s : State) (l : Fin 6) :
    (s.tripLine l).valveOpen = Function.update s.valveOpen (svOf l) false := by
  unfold State.tripLine
  dsimp only
  (repeat' split) <;> simp

@[simp] theorem State.beginShut_lineState (s : State) (l : Fin 6) :
    (s.beginShut l).lineState = Function.update s.lineState l .shutting := by
  unfold State.beginShut
  dsimp only
  split <;> simp <;> rw [State.modLine_enters _ _ _ .shutting fun _ => rfl] <;> simp

/-- A shut only closes its valve. -/
theorem State.beginShut_valveOpen (s : State) (l : Fin 6) :
    (s.beginShut l).valveOpen = s.valveOpen ∨
      (s.beginShut l).valveOpen = Function.update s.valveOpen (svOf l) false := by
  unfold State.beginShut
  dsimp only
  split <;> simp

/-! ### The control law through the operations -/

/-- The law reads the control view only. -/
theorem State.controlled_of {s t : State} (hf : t.face = s.face) (hl : t.lineState = s.lineState)
    (hv : t.valveOpen = s.valveOpen) (h : s.controlled) : t.controlled := by
  simp only [State.face, Prod.mk.injEq] at hf
  obtain ⟨h1, h2, h3, h4⟩ := hf
  simpa only [State.controlled, h1, h2, h3, h4, hl, hv] using h

theorem svOf_ne_pv (l : Fin 6) : svOf l ≠ pv := by
  intro h
  have := congrArg Fin.val h
  simp [svOf, pv] at this
  omega

theorem svOf_inj {l m : Fin 6} : svOf l = svOf m ↔ l = m := by
  simp [svOf, Fin.ext_iff]

/-- A line that is live proves that the burner is in a fuel state. -/
theorem State.controlled.noLive {s : State} (h : s.controlled) (hb : s.burner.state.fuel = false) (l : Fin 6) :
    (s.lineState l).live = false := by
  by_contra hl
  have := h.2.2.2.2.1 l (by simpa using hl)
  simp [hb] at this

/-- A change of the burner's state between two states that are not LOCKOUT. -/
theorem State.burnerTo_controlled {s : State} {st : BurnerState} (h : s.controlled) (hs : s.burner.state ≠ .lockout)
    (ht : st ≠ .lockout) (hf : st.fuel = true ∨ ∀ l, (s.lineState l).live = false) : (s.burnerTo st).controlled := by
  have hface := s.burnerTo_face st
  simp only [State.face, Prod.mk.injEq] at hface
  obtain ⟨h1, h2, h3, h4⟩ := hface
  obtain ⟨_, _, _, f, l, v⟩ := h
  refine ⟨by rw [h1, h2], by rw [h1, h3], by simp [h1], ?_, ?_, ?_⟩
  · rw [h4, h1, f]
    simp [hs, ht]
  · intro k hk
    rw [h1]
    simp only [State.burnerTo_control] at hk
    rcases hf with hf | hf
    · exact hf
    · rw [hf k] at hk
      contradiction
  · intro k hk
    simp only [State.burnerTo_valveOpen, Function.update_apply, svOf_ne_pv, if_false] at hk
    simpa using v k hk

/-- A line enters a state that is not live, with its valve commanded closed. -/
theorem State.controlled_closes {s t : State} (l : Fin 6) (st : LineState) (hs : st.live = false) (h : s.controlled)
    (hf : t.face = s.face) (hl : t.lineState = Function.update s.lineState l st)
    (hv : t.valveOpen = Function.update s.valveOpen (svOf l) false) : t.controlled := by
  simp only [State.face, Prod.mk.injEq] at hf
  obtain ⟨h1, h2, h3, h4⟩ := hf
  obtain ⟨a, b, c, d, e, v⟩ := h
  refine ⟨by rw [h1, h2, a], by rw [h1, h3, b], by simp [h1, hv, c, Ne.symm (svOf_ne_pv l)], by rw [h1, h4, d], ?_, ?_⟩
  · intro k hk
    rw [h1]
    by_cases ek : k = l
    · subst ek
      simp [hl, hs] at hk
    · exact e k (by simpa [hl, ek] using hk)
  · intro k hk
    by_cases ek : k = l
    · subst ek
      simp [hv] at hk
    · have : svOf k ≠ svOf l := fun e => ek (svOf_inj.1 e)
      simpa [hl, ek] using v k (by simpa [hv, this] using hk)

/-- A line enters a live state from a live one, or in a fuel state; its valve may be commanded at will. -/
theorem State.controlled_goes {s t : State} (l : Fin 6) (st : LineState) (o : Bool) (hs : st.live = true)
    (hb : s.burner.state.fuel = true) (h : s.controlled)
    (hf : t.face = s.face) (hl : t.lineState = Function.update s.lineState l st)
    (hv : t.valveOpen = s.valveOpen ∨ t.valveOpen = Function.update s.valveOpen (svOf l) o) : t.controlled := by
  simp only [State.face, Prod.mk.injEq] at hf
  obtain ⟨h1, h2, h3, h4⟩ := hf
  obtain ⟨a, b, c, d, e, v⟩ := h
  refine ⟨by rw [h1, h2, a], by rw [h1, h3, b], ?_, by rw [h1, h4, d], ?_, ?_⟩
  · rcases hv with hv | hv <;> simp [h1, hv, c, Ne.symm (svOf_ne_pv l)]
  · intro k _
    rw [h1, hb]
  · intro k hk
    by_cases ek : k = l
    · subst ek
      simp [hl, hs]
    · have : svOf k ≠ svOf l := fun e => ek (svOf_inj.1 e)
      have hk' : s.valveOpen (svOf k) = true := by rcases hv with hv | hv <;> simpa [hv, this] using hk
      simpa [hl, ek] using v k hk'

/-- A valve SV is commanded closed. -/
theorem State.controlled_shuts {s t : State} (l : Fin 6) (h : s.controlled) (hf : t.face = s.face)
    (hl : t.lineState = s.lineState) (hv : t.valveOpen = Function.update s.valveOpen (svOf l) false) : t.controlled := by
  simp only [State.face, Prod.mk.injEq] at hf
  obtain ⟨h1, h2, h3, h4⟩ := hf
  obtain ⟨a, b, c, d, e, v⟩ := h
  refine ⟨by rw [h1, h2, a], by rw [h1, h3, b], by simp [h1, hv, c, Ne.symm (svOf_ne_pv l)], by rw [h1, h4, d], ?_, ?_⟩
  · intro k hk
    rw [h1]
    exact e k (by simpa [hl] using hk)
  · intro k hk
    by_cases ek : k = l
    · subst ek
      simp [hv] at hk
    · have : svOf k ≠ svOf l := fun e => ek (svOf_inj.1 e)
      simpa [hl] using v k (by simpa [hv, this] using hk)

theorem State.foldl_controlled {α : Type} (f : State → α → State) (h : ∀ s a, s.controlled → (f s a).controlled)
    (l : List α) (s : State) (hs : s.controlled) : (l.foldl f s).controlled := by
  induction l generalizing s with
  | nil => exact hs
  | cons a l ih => exact ih _ (h s a hs)

/-- All six lines are forced to SHUT with their valves commanded closed (R42). -/
theorem State.tripLines_control (s : State) :
    (allLines.foldl (fun s l => s.tripLine l) s).face = s.face ∧
    (∀ l, (allLines.foldl (fun s l => s.tripLine l) s).lineState l = .shut) ∧
    (∀ l, (allLines.foldl (fun s l => s.tripLine l) s).valveOpen (svOf l) = false) ∧
    (allLines.foldl (fun s l => s.tripLine l) s).valveOpen pv = s.valveOpen pv := by
  refine ⟨foldl_face _ (by simp) _ _, ?_, ?_, ?_⟩
  · intro l
    simp only [allLines, List.foldl_cons, List.foldl_nil, State.tripLine_lineState, Function.update_apply]
    fin_cases l <;> simp
  · intro l
    simp only [allLines, List.foldl_cons, List.foldl_nil, State.tripLine_valveOpen, Function.update_apply, svOf_inj]
    fin_cases l <;> simp
  · simp [allLines, Function.update_apply, Ne.symm (svOf_ne_pv _)]

/-- Entry into LOCKOUT establishes the law from any state (R5). -/
theorem State.enterLockout_controlled (s : State) (c : Cause) (p : Option Nat) : (s.enterLockout c p).controlled := by
  unfold State.enterLockout
  dsimp only
  generalize hx : State.modTotals _ _ = x
  obtain ⟨h1, h2, h3, h4⟩ := x.tripLines_control
  have hf : x.face = (.lockout, false, false, true) := by
    subst hx
    simp only [State.modTotals_control, State.raise_control, State.addEvent_control]
    simp [State.face, State.burnerTo, Burner.enter, BurnerState.firing]
  have hp : x.valveOpen pv = false := by
    subst hx
    simp [BurnerState.pilotOpen]
  have hc : ∀ y : State, y.face = (.lockout, false, false, true) → (∀ l, y.lineState l = .shut) →
      (∀ l, y.valveOpen (svOf l) = false) → y.valveOpen pv = false → y.controlled := by
    intro y f l v pvy
    simp only [State.face, Prod.mk.injEq] at f
    obtain ⟨f1, f2, f3, f4⟩ := f
    exact ⟨by simp [f1, f2], by simp [f1, f3, BurnerState.firing], by simp [f1, pvy, BurnerState.pilotOpen],
      by simp [f1, f4], fun k hk => by simp [l, LineState.live] at hk, fun k hk => by simp [v] at hk⟩
  refine State.controlled_of ?_ ?_ ?_ (hc _ (h1.trans hf) h2 h3 (h4.trans hp)) <;> simp

theorem State.toIdle_controlled {s : State} {r : StopReason} (h : s.controlled) (hs : s.burner.state ≠ .lockout)
    (hl : ∀ l, (s.lineState l).live = false) : (s.toIdle r).controlled := by
  refine State.controlled_of ?_ ?_ ?_ (s.burnerTo_controlled h hs (st := .idle) (by decide) (.inr hl)) <;>
    simp [State.toIdle]

/-- The burner's state through the operations that leave the control view unchanged. -/
theorem State.burnerState_of {s t : State} (h : t.face = s.face) : t.burner.state = s.burner.state := by
  simpa [State.face] using congrArg Prod.fst h

theorem State.toPurge_controlled {s : State} (h : s.controlled) (hs : s.burner.state = .idle) : s.toPurge.controlled := by
  have hb := s.burnerTo_controlled h (by simp [hs]) (st := .purge) (by decide) (.inr (h.noLive (by simp [hs, BurnerState.fuel])))
  unfold State.toPurge
  dsimp only
  refine State.foldl_controlled _ (fun s a => State.controlled_of ?_ ?_ ?_) _ _ (State.controlled_of ?_ ?_ ?_ hb) <;> simp

theorem State.toPrepare_controlled {s : State} (h : s.controlled) (hs : s.burner.state = .purge) :
    s.toPrepare.controlled := by
  have hb := s.burnerTo_controlled h (by simp [hs]) (st := .prepare) (by decide) (.inr (h.noLive (by simp [hs, BurnerState.fuel])))
  unfold State.toPrepare
  refine State.foldl_controlled _ (fun s a => State.controlled_of ?_ ?_ ?_) _ _ (State.controlled_of ?_ ?_ ?_ hb) <;> simp

theorem State.toIgnition_controlled {s : State} (h : s.controlled) (hs : s.burner.state = .prepare) :
    s.toIgnition.controlled := by
  have ho : (s.setOwners .none).controlled := State.controlled_of (by simp) (by simp) (by simp) h
  have hs' : (s.setOwners .none).burner.state = .prepare := by simpa [State.setOwners] using hs
  have hb := State.burnerTo_controlled ho (by simp [hs']) (st := .ignition) (by decide)
    (.inr (ho.noLive (by simp [hs', BurnerState.fuel])))
  refine State.controlled_of ?_ ?_ ?_ hb <;> simp [State.toIgnition]

theorem State.toPilot_controlled {s : State} (h : s.controlled) (hs : s.burner.state = .ignition) :
    s.toPilot.controlled := by
  have hb := s.burnerTo_controlled h (by simp [hs]) (st := .pilot) (by decide) (.inr (h.noLive (by simp [hs, BurnerState.fuel])))
  refine State.controlled_of ?_ ?_ ?_ hb <;> simp [State.toPilot]

theorem State.admitLine_controlled {s : State} (l : Fin 6) (h : s.controlled) (hs : s.burner.state.fuel = true) :
    (s.admitLine l).controlled :=
  State.controlled_goes l .admitting true rfl hs h (by simp) (by simp) (.inr (by simp))

theorem State.toMainTrial_controlled {s : State} (named : List (Fin 6)) (h : s.controlled) (hs : s.burner.state = .pilot) :
    (s.toMainTrial named).controlled := by
  have hb := s.burnerTo_controlled h (by simp [hs]) (st := .mainTrial) (by decide) (.inl rfl)
  unfold State.toMainTrial
  dsimp only
  generalize hx : State.raise _ AttentionClass.burner = x
  have hx1 : x.controlled := by
    subst hx
    refine State.controlled_of ?_ ?_ ?_ hb <;> simp
  have hx2 : x.burner.state = .mainTrial := by
    subst hx
    simp [State.burnerTo, Burner.enter]
  clear hx hb
  induction named generalizing x with
  | nil => exact hx1
  | cons l ls ih =>
    refine ih _ (x.admitLine_controlled l hx1 (by simp [hx2, BurnerState.fuel])) ?_
    rw [State.burnerState_of (s := x) (by simp), hx2]

theorem State.toMainFiring_controlled {s : State} (h : s.controlled) (hs : s.burner.state = .mainTrial) :
    s.toMainFiring.controlled := by
  have hb := s.burnerTo_controlled h (by simp [hs]) (st := .mainFiring) (by decide) (.inl rfl)
  refine State.controlled_of ?_ ?_ ?_ hb <;> simp [State.toMainFiring]

theorem State.endMainTrial_controlled {s : State} (h : s.controlled) (hs : s.burner.state = .mainTrial) :
    s.endMainTrial.controlled := by
  unfold State.endMainTrial
  split
  · exact State.toMainFiring_controlled h hs
  · exact State.enterLockout_controlled _ _ _

theorem State.beginShut_controlled {s : State} (l : Fin 6) (h : s.controlled) (hl : (s.lineState l).live = true) :
    (s.beginShut l).controlled := by
  have hb := h.2.2.2.2.1 l hl
  rcases s.beginShut_valveOpen l with hv | hv
  · exact State.controlled_goes l .shutting false rfl hb h (by simp) (by simp) (.inl hv)
  · exact State.controlled_goes l .shutting false rfl hb h (by simp) (by simp) (.inr hv)

theorem State.toStopping_controlled {s : State} (h : s.controlled) (hs : s.burner.state = .mainTrial ∨ s.burner.state = .mainFiring) :
    s.toStopping.controlled := by
  have hb := s.burnerTo_controlled h (by rcases hs with hs | hs <;> simp [hs]) (st := .stopping) (by decide) (.inl rfl)
  unfold State.toStopping
  refine State.foldl_controlled _ (fun s l hc => ?_) _ _ (State.controlled_of ?_ ?_ ?_ hb)
  · split
    · rename_i hl
      refine State.beginShut_controlled l hc ?_
      simp only [Bool.or_eq_true, decide_eq_true_eq] at hl
      unfold State.lineState
      rcases hl with hl | hl <;> rw [hl] <;> rfl
    · exact hc
  all_goals simp

theorem State.noLive_of {s : State} (h : s.anyLive = false) (l : Fin 6) : (s.lineState l).live = false := by
  simp only [State.anyLive, List.any_eq_false] at h
  simpa [State.lineState] using h s.lines[l.val] (by simp)

theorem State.watchLines_controlled {s : State} (h : s.controlled) : s.watchLines.controlled := by
  unfold State.watchLines
  split
  · exact h
  · rename_i hl
    have hn := State.noLive_of (by simpa using hl)
    (repeat' split) <;> first | exact h | (refine State.toIdle_controlled h ?_ hn; simp_all)

theorem State.sequenceEnd_controlled {s : State} (r : StopReason) (h : s.controlled)
    (hs : s.burner.state = .purge ∨ s.burner.state = .prepare) : (s.sequenceEnd r).controlled := by
  have ho : (s.abortWork.setOwners .none).controlled := State.controlled_of (by simp) (by simp) (by simp) h
  have hs' : (s.abortWork.setOwners .none).burner.state = s.burner.state := State.burnerState_of (by simp)
  refine State.toIdle_controlled ho ?_ (ho.noLive ?_) <;> rw [hs'] <;> rcases hs with hs | hs <;> simp [hs, BurnerState.fuel]

theorem State.sequenceFault_controlled {s : State} (h : s.controlled) : s.sequenceFault.controlled := by
  unfold State.sequenceFault
  split
  · exact State.sequenceEnd_controlled _ h (by simp_all)
  · exact h

theorem State.homeFailed_controlled {s : State} (a : Fin 2) (h : s.controlled) : (s.homeFailed a).controlled :=
  State.sequenceFault_controlled (State.controlled_of (by simp) (by simp) (by simp) h)

theorem State.settled_controlled {s : State} (a : Fin 2) (h : s.controlled) : (s.settled a).controlled := by
  unfold State.settled
  dsimp only
  have hq : ∀ (f : Actuator → Actuator) (o : WorkOutcome), ((s.modActuator a f).completeWork a o).controlled :=
    fun f o => State.controlled_of (by simp) (by simp) (by simp) h
  split
  · split
    · rename_i hp
      exact State.toIgnition_controlled (hq _ _) (by simp_all)
    · exact hq _ _
  · exact State.sequenceFault_controlled (hq _ _)

/-! ### The trip sources -/

theorem State.countClaim_controlled {s : State} (h : s.controlled) : s.countClaim.controlled :=
  State.controlled_of (by simp) (by simp) (by simp) h

theorem State.tripClaim_controlled {s : State} (p : Nat) (h : s.controlled) : (s.tripClaim p).controlled := by
  unfold State.tripClaim
  split <;> first
    | with_reducible exact State.enterLockout_controlled _ _ _
    | with_reducible exact h
    | with_reducible exact State.countClaim_controlled h

theorem State.emergency_controlled {s : State} (c : Cause) (h : s.controlled) : (s.emergency c).controlled := by
  unfold State.emergency
  split <;> first
    | with_reducible exact State.enterLockout_controlled _ _ _
    | with_reducible exact State.countClaim_controlled h

theorem State.coolerStop_controlled {s : State} (h : s.controlled) : s.coolerStop.controlled := by
  unfold State.coolerStop
  split <;> first
    | with_reducible exact State.enterLockout_controlled _ _ _
    | with_reducible exact h
    | with_reducible exact State.countClaim_controlled h

theorem State.leaveLockout_controlled {s : State} (h : s.controlled) (hs : s.burner.state = .lockout) :
    s.leaveLockout.controlled := by
  have hn := h.noLive (by simp [hs, BurnerState.fuel])
  obtain ⟨_, _, _, _, _, v⟩ := h
  have hf : s.leaveLockout.face = (.idle, false, false, false) := by
    simp [State.leaveLockout, State.toIdle, State.setOwners, BurnerState.firing]
  have hv : s.leaveLockout.valveOpen = Function.update s.valveOpen pv false := by
    simp [State.leaveLockout, State.toIdle, BurnerState.pilotOpen]
  simp only [State.face, Prod.mk.injEq] at hf
  obtain ⟨f1, f2, f3, f4⟩ := hf
  refine ⟨by simp [f1, f2], by simp [f1, f3, BurnerState.firing], by simp [f1, hv, BurnerState.pilotOpen],
    by simp [f1, f4], ?_, ?_⟩
  · intro l hl
    rw [State.leaveLockout_control, hn l] at hl
    contradiction
  · intro l hl
    rw [hv, Function.update_of_ne (svOf_ne_pv l)] at hl
    simpa [hn l] using v l hl

/-! ### Lines -/

theorem State.faultLine_controlled {s : State} (l : Fin 6) (h : s.controlled) : (s.faultLine l).controlled :=
  State.controlled_closes l .fault rfl h (by simp) (by simp) (by simp)

theorem State.lineLatch_controlled {s : State} (l : Fin 6) (k : FaultKind) (h : s.controlled) :
    (s.lineLatch l k).controlled := by
  unfold State.lineLatch
  split <;> first
    | with_reducible exact State.faultLine_controlled l h
    | with_reducible exact h


theorem State.enterShut_controlled {s : State} (l : Fin 6) (h : s.controlled) (hv : s.valveOpen (svOf l) = false) :
    (s.enterShut l).controlled :=
  State.controlled_closes l .shut rfl h (by simp) (by simp) (by simp [← hv])

theorem State.openLine_controlled {s : State} (l : Fin 6) (h : s.controlled) (hl : (s.lineState l).live = true) :
    (s.openLine l).controlled :=
  State.controlled_goes l .opened true rfl (h.2.2.2.2.1 l hl) h (by simp) (by simp) (.inl (by simp))

theorem State.lineProof_controlled {s : State} (l : Fin 6) (o : Bool) (h : s.controlled) (hv : s.valveOpen (svOf l) = o) :
    (s.lineProof l o).controlled := by
  unfold State.lineProof
  split
  · rename_i hl
    exact State.openLine_controlled l h (by simp [State.lineState, hl, LineState.live])
  · exact State.enterShut_controlled l h hv
  · exact h

theorem State.rampEnd_controlled {s : State} (l : Fin 6) (h : s.controlled) : (s.rampEnd l).controlled :=
  State.controlled_shuts l h (by simp) (by simp) (by simp)

theorem State.rampShut_controlled {s : State} (l : Fin 6) (h : s.controlled) : (s.rampShut l).controlled := by
  unfold State.rampShut
  split
  · dsimp only
    have hq : ∀ f : Line → Line, (∀ r, (f r).state = r.state) → ((s.modLine l f).evaluate).controlled :=
      fun f hf => State.controlled_of (by simp) (by simp [hf]) (by simp) h
    split
    · exact State.rampEnd_controlled l (hq _ fun _ => rfl)
    · exact hq _ fun _ => rfl
  · exact h

/-! ### Latches and valve watches -/

theorem State.handLatch_controlled {s : State} (r : Fin 23) (k : FaultKind) (h : s.controlled) :
    (s.handLatch r k).controlled := by
  unfold State.handLatch
  split
  · split
    · exact State.lineLatch_controlled _ _ h
    · exact h
  · exact State.controlled_of (by simp) (by simp) (by simp) h
  · exact State.controlled_of (by simp) (by simp) (by simp) h

theorem State.latch_controlled {s : State} (r : Fin 23) (k : FaultKind) (h : s.controlled) : (s.latch r k).controlled := by
  unfold State.latch
  dsimp only
  refine State.handLatch_controlled r k (State.controlled_of ?_ ?_ ?_ h) <;> split <;> simp

theorem State.testRecord_controlled {s : State} (r : Fin 23) (h : s.controlled) : (s.testRecord r).controlled := by
  unfold State.testRecord
  split
  · split
    · exact State.latch_controlled _ _ h
    · exact h
  · exact h

theorem State.clearRecords_controlled {s : State} (named : List (Fin 23)) (h : s.controlled) :
    (s.clearRecords named).controlled := by
  have h1 : (s.modField fun f => f.cleared named).controlled :=
    State.controlled_of (by simp) (by simp) (by simp [Field.cleared]) h
  have h2 := State.foldl_controlled (fun t r => t.testRecord r) (fun _ r ht => State.testRecord_controlled r ht) named _ h1
  have h3 := State.foldl_controlled (fun t r => State.handCleared s t r)
    (fun t r ht => State.controlled_of (s := t) (by simp) (by simp) (by simp) ht) named _ h2
  exact h3

theorem State.retest_controlled {s : State} (before : State) (r : Fin 23) (h : s.controlled) :
    (State.retest before s r).controlled := by
  unfold State.retest
  split
  · split
    · exact State.latch_controlled _ _ h
    · exact h
  · exact h

theorem State.remask_controlled {s : State} (m : BitVec 32) (h : s.controlled) : (s.remask m).controlled :=
  State.foldl_controlled _ (fun _ r ht => State.retest_controlled _ r ht) _ _
    (State.controlled_of (by simp) (by simp) (by simp [Field.withMasks]) h)

theorem State.handProof_controlled {s : State} (v : Fin 7) (h : s.controlled) : (s.handProof v).controlled := by
  unfold State.handProof
  split
  · rename_i l hl
    refine State.lineProof_controlled l _ h ?_
    unfold lineOfValve at hl
    split at hl
    · cases hl
      rfl
    · contradiction
  · exact h

theorem State.unprove_controlled {s : State} (v : Fin 7) (masked : State → State)
    (hm : ∀ t : State, t.controlled → (masked t).controlled) (h : s.controlled) : (s.unprove v masked).controlled := by
  unfold State.unprove
  dsimp only
  have hp : (s.setPhase v .unproven).controlled := State.controlled_of (by simp) (by simp) (by simp) h
  split
  · exact State.latch_controlled _ _ hp
  · exact hm _ hp

theorem State.watchValve_controlled {s : State} (v : Fin 7) (h : s.controlled) : (s.watchValve v).controlled := by
  have hp : ∀ p, (s.setPhase v p).controlled := fun p => State.controlled_of (by simp) (by simp) (by simp) h
  unfold State.watchValve
  split <;> split
  · exact State.handProof_controlled v (hp _)
  · exact h
  · exact State.unprove_controlled v _ (fun _ ht => ht) h
  · exact h
  · exact hp _
  · exact h

theorem State.proofExpired_controlled {s : State} (v : Fin 7) (h : s.controlled) : (s.proofExpired v).controlled :=
  State.unprove_controlled v _ (fun _ ht => State.handProof_controlled v ht) h

/-! ### Alarm points -/

theorem State.raisePoint_controlled {s : State} (i : Fin 96) (h : s.controlled) : (s.raisePoint i).controlled := by
  unfold State.raisePoint
  dsimp only
  have hr : (s.raiseOnce i).watchFlood.controlled := State.controlled_of (by simp) (by simp) (by simp) h
  split
  · exact State.tripClaim_controlled _ hr
  · exact hr

theorem State.becomeActive_controlled {s : State} (i : Fin 96) (h : s.controlled) : (s.becomeActive i).controlled := by
  unfold State.becomeActive
  dsimp only
  have hp : ∀ f, (s.modPoint i f).controlled := fun f => State.controlled_of (by simp) (by simp) (by simp) h
  split
  · exact State.raisePoint_controlled i (hp _)
  · exact hp _

theorem State.becomeInactive_controlled {s : State} (i : Fin 96) (h : s.controlled) : (s.becomeInactive i).controlled :=
  State.controlled_of (by simp) (by simp) (by simp) h

theorem State.setCondition_controlled {s : State} (i : Fin 96) (c : Bool) (h : s.controlled) :
    (s.setCondition i c).controlled := by
  unfold State.setCondition
  dsimp only
  have hp : ∀ f, (s.modPoint i f).controlled := fun f => State.controlled_of (by simp) (by simp) (by simp) h
  have hq : ∀ f g, ((s.modPoint i f).modPoint i g).controlled :=
    fun f g => State.controlled_of (by simp) (by simp) (by simp) h
  (repeat' split) <;> first
    | with_reducible exact h
    | with_reducible exact hq _ _
    | with_reducible exact State.becomeActive_controlled i (hp _)
    | with_reducible exact State.becomeInactive_controlled i (hp _)

theorem State.enterPoint_controlled {s : State} (i : Fin 96) (n : PointState) (h : s.controlled) :
    (s.enterPoint i n).controlled :=
  State.controlled_of (by simp) (by simp) (by simp) h

theorem State.syncGroup_controlled {s : State} (i : Fin 96) (holds : Bool) (h : s.controlled) :
    (s.syncGroup i holds).controlled := by
  unfold State.syncGroup
  dsimp only
  (repeat' split) <;> first
    | with_reducible exact h
    | with_reducible exact State.enterPoint_controlled i _ h
    | with_reducible exact State.raisePoint_controlled i h

theorem State.syncPoint_controlled {s : State} (before : State) (i : Fin 96) (h : s.controlled) :
    (s.syncPoint before i).controlled := by
  unfold State.syncPoint
  split
  · exact h
  · exact State.setCondition_controlled i _ (State.syncGroup_controlled i _ h)

theorem State.handPoint_controlled {s : State} (i : Fin 96) (c : Bool) (h : s.controlled) :
    (s.handPoint i c).controlled := by
  unfold State.handPoint
  split
  · exact h
  · exact State.setCondition_controlled i c h

theorem State.syncAlarms_controlled {s : State} (h : s.controlled) : s.syncAlarms.controlled := by
  unfold State.syncAlarms
  dsimp only
  refine State.foldl_controlled _ (fun _ i ht => State.syncPoint_controlled s i ht) _ _ ?_
  exact State.foldl_controlled _ (fun _ x ht => State.handPoint_controlled x.1 x.2 ht) _ _
    (State.controlled_of (State.clearHanded_control s).1 (State.clearHanded_control s).2.1 (State.clearHanded_control s).2.2 h)

theorem State.unshelvePoint_controlled {s : State} (i : Fin 96) (h : s.controlled) : (s.unshelvePoint i).controlled := by
  unfold State.unshelvePoint
  dsimp only
  have hp : ∀ f g, ((s.modAlarm f).modPoint i g).controlled :=
    fun f g => State.controlled_of (by simp) (by simp) (by simp) h
  (repeat' split) <;> first
    | with_reducible exact State.enterPoint_controlled i _ (hp _ _)
    | with_reducible exact State.raisePoint_controlled i (hp _ _)

theorem State.enablePoint_controlled {s : State} (i : Fin 96) (h : s.controlled) : (s.enablePoint i).controlled :=
  State.syncPoint_controlled _ i (State.enterPoint_controlled i _ (State.controlled_of (by simp) (by simp) (by simp) h))

theorem State.reviewFlood_controlled {s : State} (h : s.controlled) : s.reviewFlood.controlled := by
  unfold State.reviewFlood
  have hp : ∀ f, (s.modAlarm f).controlled := fun f => State.controlled_of (by simp) (by simp) (by simp) h
  split
  · dsimp only
    refine State.controlled_of (State.addEvent_control _ _).1 (State.addEvent_control _ _).2.1 (State.addEvent_control _ _).2.2 ?_
    split
    · exact hp _
    · exact State.setCondition_controlled _ _ (hp _)
  · exact hp _

/-! ### The cooler's stop, the inputs, and what settles -/

theorem State.endRunOn_controlled {s : State} (h : s.controlled) : s.endRunOn.controlled :=
  State.coolerStop_controlled (State.controlled_of (by simp) (by simp) (by simp) h)

theorem State.beginStop_controlled {s : State} (h : s.controlled) : s.beginStop.controlled := by
  unfold State.beginStop
  dsimp only
  refine State.coolerStop_controlled (State.controlled_of ?_ ?_ ?_ h) <;> split <;> simp

theorem State.stopCooler_controlled {s : State} (h : s.controlled) : s.stopCooler.controlled := by
  unfold State.stopCooler
  split <;> first
    | with_reducible exact State.beginStop_controlled h
    | with_reducible exact h

theorem State.handInput_controlled {s : State} (n : Fin 24) (level : Bool) (h : s.controlled) :
    (s.handInput n level).controlled := by
  unfold State.handInput
  (repeat' split) <;> first
    | with_reducible exact h
    | with_reducible exact State.emergency_controlled _ h
    | with_reducible exact State.stopCooler_controlled h
    | exact State.controlled_of (by simp) (by simp) (by simp) h

theorem State.accept_controlled {s : State} (n : Fin 24) (level : Bool) (h : s.controlled) :
    (s.accept n level).controlled :=
  State.handInput_controlled n level (State.controlled_of (by simp) (by simp) (by simp) h)

theorem State.rawChange_controlled {s : State} (n : Fin 24) (level : Bool) (h : s.controlled) :
    (s.rawChange n level).controlled := by
  unfold State.rawChange
  dsimp only
  have hq : ∀ f : Field → Field, (∀ x, (f x).valves = x.valves) → (s.modField f).controlled :=
    fun f hf => State.controlled_of (by simp) (by simp) (by simp [hf]) h
  (repeat' split)
  · exact h
  · exact State.controlled_of (by simp) (by simp) (by simp) h
  · exact State.accept_controlled n level (hq _ fun _ => rfl)
  · exact State.controlled_of (by simp) (by simp) (by simp) h

theorem State.watchHome_controlled {s : State} (a : Fin 2) (h : s.controlled) : (s.watchHome a).controlled :=
  State.controlled_of (by simp) (by simp) (by simp) h

theorem State.react_controlled {s : State} (h : s.controlled) : s.react.controlled := by
  have h1 := State.foldl_controlled (fun s a => s.watchHome a) (fun _ a ht => State.watchHome_controlled a ht) allActuators s h
  have h2 := State.watchLines_controlled
    (State.foldl_controlled (fun s v => s.watchValve v) (fun _ v ht => State.watchValve_controlled v ht) allValves _ h1)
  have h3 : ∀ x : State, x.controlled → x.formCooler.evaluate.formImage.watchBurner.controlled :=
    fun x hx => State.controlled_of (by simp) (by simp) (by simp) hx
  unfold State.react
  dsimp only
  exact State.syncAlarms_controlled (h3 _ h2)

/-- What settles keeps the law. -/
theorem State.settle_controlled {s : State} (h : s.controlled) : s.settle.controlled := by
  have hr := State.react_controlled (State.react_controlled (State.react_controlled h))
  exact State.controlled_of (s := s.react.react.react) (by simp [State.settle]) (by simp [State.settle])
    (by simp [State.settle]) hr

theorem State.validFrame_controlled {s : State} (h : s.controlled) : s.validFrame.controlled := by
  unfold State.validFrame
  dsimp only
  have hl : ∀ f, (s.modLink f).controlled := fun f => State.controlled_of (by simp) (by simp) (by simp) h
  split
  · exact State.settle_controlled (hl _)
  · exact hl _

theorem State.watchFailed_controlled {s : State} (g : Fin 4) (h : s.controlled) : (s.watchFailed g).controlled := by
  unfold State.watchFailed
  split
  · exact State.latch_controlled _ _ h
  · exact State.controlled_of (by simp) (by simp) (by simp) h

theorem State.currentFailed_controlled {s : State} (k : Fin 12) (h : s.controlled) : (s.currentFailed k).controlled := by
  unfold State.currentFailed
  dsimp only
  have hq : ∀ f, (s.modChamber k f).controlled := fun f => State.controlled_of (by simp) (by simp) (by simp) h
  split
  · exact State.latch_controlled _ _ (hq _)
  · exact hq _

/-! ### The resets -/

/-- What both resets give the blocks that the law reads. -/
theorem State.controlled_reset {s : State} (hb : s.burner.igniter = false ∧ s.burner.firingRelay = false ∧
    s.burner.firstOut.isSome = true ∧ s.burner.state = .lockout) (hl : ∀ l, s.lineState l = .shut)
    (hv : ∀ v, s.valveOpen v = false) : s.controlled := by
  obtain ⟨h1, h2, h3, h4⟩ := hb
  exact ⟨by simp [h1, h4], by simp [h2, h4, BurnerState.firing], by simp [hv, h4, BurnerState.pilotOpen], by simp [h3, h4],
    fun l h => by simp [hl, LineState.live] at h, fun l h => by simp [hv] at h⟩

theorem State.coldValues_controlled (s : State) : s.coldValues.controlled := by
  refine State.controlled_reset ⟨rfl, rfl, rfl, rfl⟩ (fun l => ?_) (fun v => ?_)
  · simp [State.lineState, State.coldValues, Line.reset]
  · simp [State.valveOpen, State.coldValues, Field.reset, Valve.provingClosed]

theorem State.warmValues_controlled (s : State) : s.warmValues.controlled := by
  refine State.controlled_reset ⟨rfl, rfl, rfl, rfl⟩ (fun l => ?_) (fun v => ?_)
  · simp [State.lineState, State.warmValues, Line.reset]
  · simp [State.valveOpen, State.warmValues, Field.warm, Valve.provingClosed]

theorem State.pump_controlled {s : State} (h : s.controlled) : s.pump.controlled :=
  State.controlled_of (by simp) (by simp) (by simp) h

theorem State.raise_controlled {s : State} (c : AttentionClass) (h : s.controlled) : (s.raise c).controlled :=
  State.controlled_of (by simp) (by simp) (by simp) h

theorem State.addEvent_controlled {s : State} (k : EventKind) (h : s.controlled) : (s.addEvent k).controlled :=
  State.controlled_of (by simp) (by simp) (by simp) h

/-- The end of a reset establishes the law, and a reset that goes on does not speak of it. -/
theorem State.endReset_law (s : State) (h : ControlLaw s) : ControlLaw s.endReset := by
  unfold State.endReset
  split
  · exact h
  · split
    · exact h
    · split <;> intro _
      · exact State.pump_controlled (State.settle_controlled (State.raise_controlled _ s.coldValues_controlled))
      · exact State.pump_controlled (State.settle_controlled
          (State.raise_controlled _ (State.addEvent_controlled _ s.warmValues_controlled)))

theorem State.beginReset_law (s : State) (k : ResetKind) (c : RestartCause) (r : Bool) : ControlLaw (s.beginReset k c r) := by
  intro h
  simp [State.beginReset] at h

end Sys2Proof.Machine
end

