-- ==== Sys2Proof/Laws/Flame.lean ====
section
/-! SUPPORT. What the flame vote is formed from, and the flame law (R13): the operations that leave flame present, the burner
settings and the discrete inputs as they were, one lemma per operation whose frame does not say it, and those that vote. -/

namespace Sys2Proof.Machine

-- One closing tactic for many operations: for some of them a part of it has nothing to do.
set_option linter.unreachableTactic false
set_option linter.unusedTactic false
set_option linter.unnecessarySeqFocus false
set_option linter.unusedSimpArgs false

theorem foldl_flame {α : Type} (f : State → α → State) (h : ∀ s a, (f s a).burner.flame = s.burner.flame) (l : List α)
    (s : State) : (l.foldl f s).burner.flame = s.burner.flame := by
  induction l generalizing s with
  | nil => rfl
  | cons a l ih => rw [List.foldl_cons, ih, h]

theorem foldl_cfg {α : Type} (f : State → α → State) (h : ∀ s a, (f s a).burner.cfg = s.burner.cfg) (l : List α)
    (s : State) : (l.foldl f s).burner.cfg = s.burner.cfg := by
  induction l generalizing s with
  | nil => rfl
  | cons a l ih => rw [List.foldl_cons, ih, h]

theorem foldl_inputs {α : Type} (f : State → α → State) (h : ∀ s a, (f s a).field.inputs = s.field.inputs) (l : List α)
    (s : State) : (l.foldl f s).field.inputs = s.field.inputs := by
  induction l generalizing s with
  | nil => rfl
  | cons a l ih => rw [List.foldl_cons, ih, h]

/-! ### Operations that leave the vote and what it is formed from -/

@[simp] theorem State.modActuator_flame (s : State) (a : Fin 2) (f : Actuator → Actuator) :
    (s.modActuator a f).burner.flame = s.burner.flame ∧ (s.modActuator a f).burner.cfg = s.burner.cfg := ⟨rfl, rfl⟩

@[simp] theorem State.commandValve_flame (s : State) (v : Fin 7) (toOpen : Bool) :
    (s.commandValve v toOpen).field.inputs = s.field.inputs := by
  unfold State.commandValve
  simp -failIfUnchanged <;> (repeat' split) <;> simp

@[simp] theorem State.admitLine_flame (s : State) (l : Fin 6) : (s.admitLine l).field.inputs = s.field.inputs := by
  unfold State.admitLine
  simp -failIfUnchanged <;> (repeat' split) <;> simp

@[simp] theorem State.rampEnd_flame (s : State) (l : Fin 6) : (s.rampEnd l).field.inputs = s.field.inputs := by
  unfold State.rampEnd
  simp -failIfUnchanged <;> (repeat' split) <;> simp

@[simp] theorem State.beginShut_flame (s : State) (l : Fin 6) : (s.beginShut l).field.inputs = s.field.inputs := by
  unfold State.beginShut
  simp -failIfUnchanged <;> (repeat' split) <;> simp

@[simp] theorem State.faultLine_flame (s : State) (l : Fin 6) : (s.faultLine l).field.inputs = s.field.inputs := by
  unfold State.faultLine
  simp -failIfUnchanged <;> (repeat' split) <;> simp

@[simp] theorem State.tripLine_flame (s : State) (l : Fin 6) : (s.tripLine l).field.inputs = s.field.inputs := by
  unfold State.tripLine
  simp -failIfUnchanged <;> (repeat' split) <;> simp

@[simp] theorem State.lineLatch_flame (s : State) (l : Fin 6) (k : FaultKind) :
    (s.lineLatch l k).field.inputs = s.field.inputs := by
  unfold State.lineLatch
  simp -failIfUnchanged <;> (repeat' split) <;> simp

@[simp] theorem State.burnerTo_flame (s : State) (st : BurnerState) :
    (s.burnerTo st).burner.flame = s.burner.flame ∧ (s.burnerTo st).burner.cfg = s.burner.cfg ∧
    (s.burnerTo st).field.inputs = s.field.inputs := by
  simp [State.burnerTo, Burner.enter]

@[simp] theorem State.toIdle_flame (s : State) (reason : StopReason) :
    (s.toIdle reason).burner.flame = s.burner.flame ∧ (s.toIdle reason).burner.cfg = s.burner.cfg ∧
    (s.toIdle reason).field.inputs = s.field.inputs := by
  unfold State.toIdle
  simp -failIfUnchanged <;> (repeat' split) <;> simp

@[simp] theorem State.setOwners_flame (s : State) (o : Owner) :
    (s.setOwners o).burner.flame = s.burner.flame ∧ (s.setOwners o).burner.cfg = s.burner.cfg := by
  unfold State.setOwners
  simp -failIfUnchanged <;> (repeat' split) <;> simp

@[simp] theorem State.completeWork_flame (s : State) (a : Fin 2) (o : WorkOutcome) :
    (s.completeWork a o).burner.flame = s.burner.flame ∧ (s.completeWork a o).burner.cfg = s.burner.cfg := by
  unfold State.completeWork
  simp -failIfUnchanged <;> (repeat' split) <;> simp

@[simp] theorem State.endWork_flame (s : State) (a : Fin 2) (o : WorkOutcome) :
    (s.endWork a o).burner.flame = s.burner.flame ∧ (s.endWork a o).burner.cfg = s.burner.cfg := by
  unfold State.endWork
  simp -failIfUnchanged <;> (repeat' split) <;> simp

@[simp] theorem State.abortWork_flame (s : State) :
    s.abortWork.burner.flame = s.burner.flame ∧ s.abortWork.burner.cfg = s.burner.cfg := by
  unfold State.abortWork
  simp [foldl_flame, foldl_cfg, foldl_inputs]

@[simp] theorem State.startMove_flame (s : State) (a : Fin 2) (target : Nat) :
    (s.startMove a target).burner.flame = s.burner.flame ∧ (s.startMove a target).burner.cfg = s.burner.cfg := by
  unfold State.startMove
  simp -failIfUnchanged <;> (repeat' split) <;> simp

@[simp] theorem State.homeDone_flame (s : State) (a : Fin 2) :
    (s.homeDone a).burner.flame = s.burner.flame ∧ (s.homeDone a).burner.cfg = s.burner.cfg := by
  unfold State.homeDone
  simp -failIfUnchanged <;> (repeat' split) <;> simp

@[simp] theorem State.startHome_flame (s : State) (a : Fin 2) :
    (s.startHome a).burner.flame = s.burner.flame ∧ (s.startHome a).burner.cfg = s.burner.cfg := by
  unfold State.startHome
  simp -failIfUnchanged <;> (repeat' split) <;> simp

@[simp] theorem State.sequenceEnd_flame (s : State) (reason : StopReason) :
    (s.sequenceEnd reason).burner.flame = s.burner.flame ∧ (s.sequenceEnd reason).burner.cfg = s.burner.cfg ∧
    (s.sequenceEnd reason).field.inputs = s.field.inputs := by
  unfold State.sequenceEnd
  simp -failIfUnchanged <;> (repeat' split) <;> simp

@[simp] theorem State.sequenceFault_flame (s : State) :
    s.sequenceFault.burner.flame = s.burner.flame ∧ s.sequenceFault.burner.cfg = s.burner.cfg ∧
    s.sequenceFault.field.inputs = s.field.inputs := by
  unfold State.sequenceFault
  simp -failIfUnchanged <;> (repeat' split) <;> simp

@[simp] theorem State.toIgnition_flame (s : State) :
    s.toIgnition.burner.flame = s.burner.flame ∧ s.toIgnition.burner.cfg = s.burner.cfg ∧
    s.toIgnition.field.inputs = s.field.inputs := by
  unfold State.toIgnition
  simp -failIfUnchanged <;> (repeat' split) <;> simp

@[simp] theorem State.homeFailed_flame (s : State) (a : Fin 2) :
    (s.homeFailed a).burner.flame = s.burner.flame ∧ (s.homeFailed a).burner.cfg = s.burner.cfg ∧
    (s.homeFailed a).field.inputs = s.field.inputs := by
  unfold State.homeFailed
  simp -failIfUnchanged <;> (repeat' split) <;> simp

@[simp] theorem State.settled_flame (s : State) (a : Fin 2) :
    (s.settled a).burner.flame = s.burner.flame ∧ (s.settled a).burner.cfg = s.burner.cfg ∧
    (s.settled a).field.inputs = s.field.inputs := by
  unfold State.settled
  simp -failIfUnchanged <;> (repeat' split) <;> simp

@[simp] theorem State.enterLockout_flame (s : State) (cause : Cause) (point : Option Nat) :
    (s.enterLockout cause point).burner.flame = s.burner.flame ∧
    (s.enterLockout cause point).burner.cfg = s.burner.cfg ∧
    (s.enterLockout cause point).field.inputs = s.field.inputs := by
  unfold State.enterLockout
  simp [foldl_flame, foldl_cfg, foldl_inputs]

@[simp] theorem State.countClaim_flame (s : State) :
    s.countClaim.burner.flame = s.burner.flame ∧ s.countClaim.burner.cfg = s.burner.cfg := by
  unfold State.countClaim
  simp -failIfUnchanged <;> (repeat' split) <;> simp

@[simp] theorem State.tripClaim_flame (s : State) (point : Nat) :
    (s.tripClaim point).burner.flame = s.burner.flame ∧ (s.tripClaim point).burner.cfg = s.burner.cfg ∧
    (s.tripClaim point).field.inputs = s.field.inputs := by
  unfold State.tripClaim
  simp -failIfUnchanged <;> (repeat' split) <;> simp

@[simp] theorem State.emergency_flame (s : State) (cause : Cause) :
    (s.emergency cause).burner.flame = s.burner.flame ∧ (s.emergency cause).burner.cfg = s.burner.cfg ∧
    (s.emergency cause).field.inputs = s.field.inputs := by
  unfold State.emergency
  simp -failIfUnchanged <;> (repeat' split) <;> simp

@[simp] theorem State.coolerStop_flame (s : State) :
    s.coolerStop.burner.flame = s.burner.flame ∧ s.coolerStop.burner.cfg = s.burner.cfg ∧
    s.coolerStop.field.inputs = s.field.inputs := by
  unfold State.coolerStop
  simp -failIfUnchanged <;> (repeat' split) <;> simp

@[simp] theorem State.claimForPurge_flame (s : State) (a : Fin 2) :
    (s.claimForPurge a).burner.flame = s.burner.flame ∧ (s.claimForPurge a).burner.cfg = s.burner.cfg := by
  unfold State.claimForPurge
  simp -failIfUnchanged <;> (repeat' split) <;> simp

@[simp] theorem State.toPurge_flame (s : State) :
    s.toPurge.burner.flame = s.burner.flame ∧ s.toPurge.burner.cfg = s.burner.cfg ∧
    s.toPurge.field.inputs = s.field.inputs := by
  unfold State.toPurge
  simp [foldl_flame, foldl_cfg, foldl_inputs]

@[simp] theorem State.toPrepare_flame (s : State) :
    s.toPrepare.burner.flame = s.burner.flame ∧ s.toPrepare.burner.cfg = s.burner.cfg ∧
    s.toPrepare.field.inputs = s.field.inputs := by
  unfold State.toPrepare
  simp [foldl_flame, foldl_cfg, foldl_inputs]

@[simp] theorem State.toPilot_flame (s : State) :
    s.toPilot.burner.flame = s.burner.flame ∧ s.toPilot.burner.cfg = s.burner.cfg ∧
    s.toPilot.field.inputs = s.field.inputs := by
  unfold State.toPilot
  simp -failIfUnchanged <;> (repeat' split) <;> simp

@[simp] theorem State.toMainTrial_flame (s : State) (named : List (Fin 6)) :
    (s.toMainTrial named).burner.flame = s.burner.flame ∧ (s.toMainTrial named).burner.cfg = s.burner.cfg ∧
    (s.toMainTrial named).field.inputs = s.field.inputs := by
  unfold State.toMainTrial
  simp [foldl_flame, foldl_cfg, foldl_inputs]

@[simp] theorem State.toMainFiring_flame (s : State) :
    s.toMainFiring.burner.flame = s.burner.flame ∧ s.toMainFiring.burner.cfg = s.burner.cfg ∧
    s.toMainFiring.field.inputs = s.field.inputs := by
  unfold State.toMainFiring
  simp -failIfUnchanged <;> (repeat' split) <;> simp

@[simp] theorem State.rampCeiling_flame (s : State) (k : Nat) :
    (s.rampCeiling k).burner.flame = s.burner.flame ∧ (s.rampCeiling k).burner.cfg = s.burner.cfg := by
  unfold State.rampCeiling
  simp -failIfUnchanged <;> (repeat' split) <;> simp

@[simp] theorem State.toStopping_flame (s : State) :
    s.toStopping.burner.flame = s.burner.flame ∧ s.toStopping.burner.cfg = s.burner.cfg ∧
    s.toStopping.field.inputs = s.field.inputs := by
  unfold State.toStopping
  refine ⟨?_, ?_, ?_⟩
  · rw [foldl_flame _ (by intro s l; split <;> simp)]; simp
  · rw [foldl_cfg _ (by intro s l; split <;> simp)]; simp
  · rw [foldl_inputs _ (by intro s l; split <;> simp)]; simp

@[simp] theorem State.watchLines_flame (s : State) :
    s.watchLines.burner.flame = s.burner.flame ∧ s.watchLines.burner.cfg = s.burner.cfg ∧
    s.watchLines.field.inputs = s.field.inputs := by
  unfold State.watchLines
  simp -failIfUnchanged <;> (repeat' split) <;> simp

@[simp] theorem State.watchBurner_flame (s : State) :
    s.watchBurner.burner.flame = s.burner.flame ∧ s.watchBurner.burner.cfg = s.burner.cfg := by
  unfold State.watchBurner Burner.watchPurge
  dsimp only [State.modBurner]
  split <;> simp

@[simp] theorem State.raisePoint_flame (s : State) (i : Fin 96) :
    (s.raisePoint i).burner.flame = s.burner.flame ∧ (s.raisePoint i).burner.cfg = s.burner.cfg ∧
    (s.raisePoint i).field.inputs = s.field.inputs := by
  unfold State.raisePoint
  simp -failIfUnchanged <;> (repeat' split) <;> simp

@[simp] theorem State.becomeActive_flame (s : State) (i : Fin 96) :
    (s.becomeActive i).burner.flame = s.burner.flame ∧ (s.becomeActive i).burner.cfg = s.burner.cfg ∧
    (s.becomeActive i).field.inputs = s.field.inputs := by
  unfold State.becomeActive
  simp -failIfUnchanged <;> (repeat' split) <;> simp

@[simp] theorem State.setCondition_flame (s : State) (i : Fin 96) (c : Bool) :
    (s.setCondition i c).burner.flame = s.burner.flame ∧ (s.setCondition i c).burner.cfg = s.burner.cfg ∧
    (s.setCondition i c).field.inputs = s.field.inputs := by
  unfold State.setCondition
  simp -failIfUnchanged <;> (repeat' split) <;> simp

@[simp] theorem State.syncGroup_flame (s : State) (i : Fin 96) (holds : Bool) :
    (s.syncGroup i holds).burner.flame = s.burner.flame ∧ (s.syncGroup i holds).burner.cfg = s.burner.cfg ∧
    (s.syncGroup i holds).field.inputs = s.field.inputs := by
  unfold State.syncGroup
  simp -failIfUnchanged <;> (repeat' split) <;> simp

@[simp] theorem State.syncPoint_flame (s before : State) (i : Fin 96) :
    (s.syncPoint before i).burner.flame = s.burner.flame ∧ (s.syncPoint before i).burner.cfg = s.burner.cfg ∧
    (s.syncPoint before i).field.inputs = s.field.inputs := by
  unfold State.syncPoint
  simp -failIfUnchanged <;> (repeat' split) <;> simp

@[simp] theorem State.handPoint_flame (s : State) (i : Fin 96) (c : Bool) :
    (s.handPoint i c).burner.flame = s.burner.flame ∧ (s.handPoint i c).burner.cfg = s.burner.cfg ∧
    (s.handPoint i c).field.inputs = s.field.inputs := by
  unfold State.handPoint
  simp -failIfUnchanged <;> (repeat' split) <;> simp

@[simp] theorem State.syncAlarms_flame (s : State) :
    s.syncAlarms.burner.flame = s.burner.flame ∧ s.syncAlarms.burner.cfg = s.burner.cfg ∧
    s.syncAlarms.field.inputs = s.field.inputs := by
  unfold State.syncAlarms
  simp [foldl_flame, foldl_cfg, foldl_inputs]

@[simp] theorem State.unshelvePoint_flame (s : State) (i : Fin 96) :
    (s.unshelvePoint i).burner.flame = s.burner.flame ∧ (s.unshelvePoint i).burner.cfg = s.burner.cfg ∧
    (s.unshelvePoint i).field.inputs = s.field.inputs := by
  unfold State.unshelvePoint
  simp -failIfUnchanged <;> (repeat' split) <;> simp

@[simp] theorem State.enablePoint_flame (s : State) (i : Fin 96) :
    (s.enablePoint i).burner.flame = s.burner.flame ∧ (s.enablePoint i).burner.cfg = s.burner.cfg ∧
    (s.enablePoint i).field.inputs = s.field.inputs := by
  unfold State.enablePoint
  simp -failIfUnchanged <;> (repeat' split) <;> simp

@[simp] theorem State.reviewFlood_flame (s : State) :
    s.reviewFlood.burner.flame = s.burner.flame ∧ s.reviewFlood.burner.cfg = s.burner.cfg ∧
    s.reviewFlood.field.inputs = s.field.inputs := by
  unfold State.reviewFlood
  simp -failIfUnchanged <;> (repeat' split) <;> simp

@[simp] theorem State.beginStop_flame (s : State) :
    s.beginStop.burner.flame = s.burner.flame ∧ s.beginStop.burner.cfg = s.burner.cfg ∧
    s.beginStop.field.inputs = s.field.inputs := by
  unfold State.beginStop
  simp -failIfUnchanged <;> (repeat' split) <;> simp

@[simp] theorem State.stopCooler_flame (s : State) :
    s.stopCooler.burner.flame = s.burner.flame ∧ s.stopCooler.burner.cfg = s.burner.cfg ∧
    s.stopCooler.field.inputs = s.field.inputs := by
  unfold State.stopCooler
  simp -failIfUnchanged <;> (repeat' split) <;> simp

@[simp] theorem State.endRunOn_flame (s : State) :
    s.endRunOn.burner.flame = s.burner.flame ∧ s.endRunOn.burner.cfg = s.burner.cfg ∧
    s.endRunOn.field.inputs = s.field.inputs := by
  unfold State.endRunOn
  simp -failIfUnchanged <;> (repeat' split) <;> simp

@[simp] theorem State.handLatch_flame (s : State) (r : Fin 23) (k : FaultKind) :
    (s.handLatch r k).field.inputs = s.field.inputs := by
  unfold State.handLatch
  simp -failIfUnchanged <;> (repeat' split) <;> simp

@[simp] theorem State.latch_flame (s : State) (r : Fin 23) (k : FaultKind) : (s.latch r k).field.inputs = s.field.inputs := by
  unfold State.latch
  simp -failIfUnchanged <;> (repeat' split) <;> simp

@[simp] theorem State.testRecord_flame (s : State) (r : Fin 23) : (s.testRecord r).field.inputs = s.field.inputs := by
  unfold State.testRecord
  simp -failIfUnchanged <;> (repeat' split) <;> simp

@[simp] theorem State.clearRecords_flame (s : State) (named : List (Fin 23)) :
    (s.clearRecords named).field.inputs = s.field.inputs := by
  simp [State.clearRecords, Field.cleared, foldl_inputs]

@[simp] theorem State.retest_flame (before s : State) (r : Fin 23) :
    (State.retest before s r).field.inputs = s.field.inputs := by
  unfold State.retest
  simp -failIfUnchanged <;> (repeat' split) <;> simp

@[simp] theorem State.setPhase_flame (s : State) (v : Fin 7) (p : WatchPhase) :
    (s.setPhase v p).field.inputs = s.field.inputs := by
  unfold State.setPhase
  simp -failIfUnchanged <;> (repeat' split) <;> simp

@[simp] theorem State.watchValve_flame (s : State) (v : Fin 7) : (s.watchValve v).field.inputs = s.field.inputs := by
  unfold State.watchValve
  unfold State.unprove
  simp -failIfUnchanged <;> (repeat' split) <;> simp

@[simp] theorem State.proofExpired_flame (s : State) (v : Fin 7) : (s.proofExpired v).field.inputs = s.field.inputs := by
  unfold State.proofExpired
  unfold State.unprove
  simp -failIfUnchanged <;> (repeat' split) <;> simp

@[simp] theorem State.countPulse_flame (s : State) (n : Fin 11) : (s.countPulse n).field.inputs = s.field.inputs := by
  unfold State.countPulse
  simp -failIfUnchanged <;> (repeat' split) <;> simp

@[simp] theorem State.indexPulse_flame (s : State) :
    s.indexPulse.burner.flame = s.burner.flame ∧ s.indexPulse.burner.cfg = s.burner.cfg ∧
    s.indexPulse.field.inputs = s.field.inputs := by
  unfold State.indexPulse
  simp -failIfUnchanged <;> (repeat' split) <;> simp

@[simp] theorem State.kilnStop_flame (s : State) : s.kilnStop.field.inputs = s.field.inputs := by
  unfold State.kilnStop
  simp -failIfUnchanged <;> (repeat' split) <;> simp

@[simp] theorem State.takeScan_flame (s : State) (scan : Vector ScanEntry 32) :
    (s.takeScan scan).field.inputs = s.field.inputs := by
  unfold State.takeScan
  simp -failIfUnchanged <;> (repeat' split) <;> simp

@[simp] theorem State.loseScans_flame (s : State) : s.loseScans.field.inputs = s.field.inputs := by
  unfold State.loseScans
  simp -failIfUnchanged <;> (repeat' split) <;> simp

@[simp] theorem State.formImage_flame (s : State) : s.formImage.field.inputs = s.field.inputs := by
  unfold State.formImage
  simp -failIfUnchanged <;> (repeat' split) <;> simp

@[simp] theorem State.beginDrive_flame (s : State) : s.beginDrive.field.inputs = s.field.inputs := by
  unfold State.beginDrive
  simp -failIfUnchanged <;> (repeat' split) <;> simp

@[simp] theorem State.watchHome_flame (s : State) (a : Fin 2) :
    (s.watchHome a).burner.flame = s.burner.flame ∧ (s.watchHome a).burner.cfg = s.burner.cfg := by
  unfold State.watchHome
  simp -failIfUnchanged <;> (repeat' split) <;> simp

@[simp] theorem State.react_flame (s : State) :
    s.react.burner.flame = s.burner.flame ∧ s.react.burner.cfg = s.burner.cfg ∧
    s.react.field.inputs = s.field.inputs := by
  unfold State.react
  simp [foldl_flame, foldl_cfg, foldl_inputs]

@[simp] theorem State.settle_flame (s : State) :
    s.settle.burner.flame = s.burner.flame ∧ s.settle.burner.cfg = s.burner.cfg ∧
    s.settle.field.inputs = s.field.inputs := by
  unfold State.settle
  simp -failIfUnchanged <;> (repeat' split) <;> simp

@[simp] theorem State.validFrame_flame (s : State) :
    s.validFrame.burner.flame = s.burner.flame ∧ s.validFrame.burner.cfg = s.burner.cfg ∧
    s.validFrame.field.inputs = s.field.inputs := by
  unfold State.validFrame
  simp -failIfUnchanged <;> (repeat' split) <;> simp

@[simp] theorem State.leaveLockout_flame (s : State) :
    s.leaveLockout.burner.flame = s.burner.flame ∧ s.leaveLockout.burner.cfg = s.burner.cfg ∧
    s.leaveLockout.field.inputs = s.field.inputs := by
  unfold State.leaveLockout
  simp -failIfUnchanged <;> (repeat' split) <;> simp

@[simp] theorem State.claimForHost_flame (s : State) (a : Fin 2) :
    (s.claimForHost a).burner.flame = s.burner.flame ∧ (s.claimForHost a).burner.cfg = s.burner.cfg := by
  unfold State.claimForHost
  simp -failIfUnchanged <;> (repeat' split) <;> simp

@[simp] theorem State.endMainTrial_flame (s : State) :
    s.endMainTrial.burner.flame = s.burner.flame ∧ s.endMainTrial.burner.cfg = s.burner.cfg ∧
    s.endMainTrial.field.inputs = s.field.inputs := by
  unfold State.endMainTrial
  simp -failIfUnchanged <;> (repeat' split) <;> simp

@[simp] theorem State.weigh_flame (s : State) (l : Fin 6) : (s.weigh l).field.inputs = s.field.inputs := by
  unfold State.weigh
  simp -failIfUnchanged <;> (repeat' split) <;> simp

@[simp] theorem State.rampShut_flame (s : State) (l : Fin 6) : (s.rampShut l).field.inputs = s.field.inputs := by
  unfold State.rampShut
  simp -failIfUnchanged <;> (repeat' split) <;> simp

@[simp] theorem State.stroke_flame (s : State) (g : Fin 4) : (s.stroke g).field.inputs = s.field.inputs := by
  unfold State.stroke
  simp -failIfUnchanged <;> (repeat' split) <;> simp

@[simp] theorem State.watchFailed_flame (s : State) (g : Fin 4) : (s.watchFailed g).field.inputs = s.field.inputs := by
  unfold State.watchFailed
  simp -failIfUnchanged <;> (repeat' split) <;> simp

@[simp] theorem State.currentFailed_flame (s : State) (k : Fin 12) : (s.currentFailed k).field.inputs = s.field.inputs := by
  unfold State.currentFailed
  simp -failIfUnchanged <;> (repeat' split) <;> simp

@[simp] theorem State.remask_flame (s : State) (masks : BitVec 32) : (s.remask masks).field.inputs = s.field.inputs := by
  simp [State.remask, Field.withMasks, foldl_inputs]

@[simp] theorem State.ignoreScan_flame (s : State) : s.ignoreScan.field.inputs = s.field.inputs := by
  unfold State.ignoreScan
  simp -failIfUnchanged <;> (repeat' split) <;> simp
/-! ### The flame law -/

theorem flameLaw_iff (s : State) : FlameLaw s ↔ s.burner.flame = s.flameNow := by
  unfold FlameLaw State.flameNow flameVote
  cases s.burner.cfg.voting <;> rfl

theorem FlameLaw.of {s t : State} (h : FlameLaw s) (hf : t.burner.flame = s.burner.flame)
    (hc : t.burner.cfg = s.burner.cfg) (hi : t.field.inputs = s.field.inputs) : FlameLaw t := by
  rw [flameLaw_iff] at h ⊢
  simpa [State.flameNow, State.di, hf, hc, hi] using h

/-- A vote makes the law hold, whatever flame present was. -/
theorem State.voteFlame_law (s : State) : FlameLaw s.voteFlame := (flameLaw_iff _).mpr rfl

/-- An update of one input keeps the law where it keeps the levels of the two scanners. -/
theorem FlameLaw.modInput {s : State} (h : FlameLaw s) (n : Fin 24) (f : Input → Input)
    (hf : n.val = 2 ∨ n.val = 3 → ∀ d, (f d).level = d.level) :
    FlameLaw (s.modField fun x => { x with inputs := upd x.inputs n f }) := by
  have hl (j : Fin 24) (hj : j.val = 2 ∨ j.val = 3) :
      (upd s.field.inputs n f)[j.val].level = s.field.inputs[j.val].level := by
    rw [upd_get]
    split
    · rename_i e
      exact hf (e ▸ hj) _
    · rfl
  rw [flameLaw_iff] at h ⊢
  exact h.trans (congrArg₂ (flameVote s.burner.cfg.voting) (hl 2 (.inl rfl)).symm (hl 3 (.inr rfl)).symm)

/-- What follows an accepted change: a scanner's is voted, and the other inputs leave the vote as it is. -/
theorem State.handInput_law {s : State} (n : Fin 24) (level : Bool) (h : n.val ≠ 2 → n.val ≠ 3 → FlameLaw s) :
    FlameLaw (s.handInput n level) := by
  unfold State.handInput
  (repeat' split) <;> first
    | exact State.voteFlame_law _
    | exact (h (by omega) (by omega)).of (by simp) (by simp) (by simp)

theorem State.accept_law {s : State} (n : Fin 24) (level : Bool) (h : FlameLaw s) : FlameLaw (s.accept n level) :=
  State.handInput_law n level fun h2 h3 => h.modInput n _ fun hn => by omega

theorem State.rawChange_law {s : State} (n : Fin 24) (level : Bool) (h : FlameLaw s) : FlameLaw (s.rawChange n level) := by
  have hr := h.modInput n (fun d => { d with raw := level }) fun _ _ => rfl
  unfold State.rawChange
  dsimp only
  (repeat' split)
  · exact h
  · exact hr.modInput n _ fun _ _ => rfl
  · exact State.accept_law n level hr
  · exact hr.modInput n _ fun _ _ => rfl

/-- The end of a reset votes by the setting the part is left with. -/
theorem State.coldValues_law (s : State) : FlameLaw s.coldValues := (flameLaw_iff _).mpr rfl

theorem State.warmValues_law (s : State) : FlameLaw s.warmValues := (flameLaw_iff _).mpr rfl

theorem State.endReset_flameLaw {s : State} (h : FlameLaw s) : FlameLaw s.endReset := by
  unfold State.endReset
  (repeat' split)
  · exact h
  · exact h
  · exact s.coldValues_law.of (by simp) (by simp) (by simp)
  · exact s.warmValues_law.of (by simp) (by simp) (by simp)

theorem State.beginReset_flameLaw {s : State} (k : ResetKind) (c : RestartCause) (r : Bool) (h : FlameLaw s) :
    FlameLaw (s.beginReset k c r) := h.of rfl rfl rfl

/-- A request keeps the law where its owner's decision does. -/
theorem State.request_flameLaw {s : State} (type : Nat) (tag : Byte) (d : State → Answer)
    (hd : ∀ u, FlameLaw u → FlameLaw (d u).state) (h : FlameLaw s) : FlameLaw (s.request type tag d) := by
  have hv : FlameLaw s.validFrame := h.of (by simp) (by simp) (by simp)
  have ht : FlameLaw (s.validFrame.modLink fun l => { l with unanswered := true }) := hv.of rfl rfl rfl
  unfold State.request State.decided
  split
  · with_reducible exact h
  · dsimp only
    split
    · exact hv.of (by simp) (by simp) (by simp)
    · exact (hd _ ht).of (by simp) (by simp) (by simp)

/-- An event keeps the law where its effect does. -/
theorem State.event_flameLaw {s : State} (e : State → State) (he : ∀ u, FlameLaw u → FlameLaw (e u)) (h : FlameLaw s) :
    FlameLaw (s.event e) := by
  unfold State.event
  split
  · with_reducible exact h
  · exact (he _ h).of (by simp) (by simp) (by simp)

theorem State.eventIf_flameLaw {s : State} (b : Bool) (e : State → State) (he : ∀ u, FlameLaw u → FlameLaw (e u))
    (h : FlameLaw s) : FlameLaw (s.eventIf b e) := by
  unfold State.eventIf
  split
  · exact State.event_flameLaw e he h
  · with_reducible exact h

end Sys2Proof.Machine
end

