-- ==== Sys2Proof/Laws/Link.lean ====
section
/-! SUPPORT. How a command reaches its effect: a request that is taken, a request that is not, an event outside and inside a
reset; what a gap does to a receiver and a discard to the link port; and what the end of a reset gives from the supply
monitor. -/

namespace Sys2Proof.Machine

@[simp] theorem State.done_parts (s : State) (c : List Byte) :
    (s.done c).state = s ∧ (s.done c).status = .done ∧ (s.done c).content = c := ⟨rfl, rfl, rfl⟩

@[simp] theorem State.accepted_parts (s : State) :
    s.accepted.state = s ∧ s.accepted.status = .accepted ∧ s.accepted.content = [] := ⟨rfl, rfl, rfl⟩

@[simp] theorem State.refuse_parts (s : State) (st : Status) :
    (s.refuse st).state = s ∧ (s.refuse st).status = st ∧ (s.refuse st).content = [] := ⟨rfl, rfl, rfl⟩

@[simp] theorem State.refuseWith_parts (s : State) (st : Status) (c : List Byte) :
    (s.refuseWith st c).state = s ∧ (s.refuseWith st c).status = st ∧ (s.refuseWith st c).content = c := ⟨rfl, rfl, rfl⟩

/-- A valid frame changes nothing of the link port but the silence timer and its condition. -/
theorem State.validFrame_link (s : State) :
    s.validFrame.link =
      { s.link with
        silenceAt := if s.alarm.silenceTime = 0 then none else some (s.floorTime + s.alarm.silenceTime * 1000),
        silent := false } := by
  unfold State.validFrame
  dsimp only
  split <;> simp

@[simp] theorem Receiver.gapOver_hunting (limit now : Nat) : Receiver.hunting.gapOver limit now = false := rfl

theorem Receiver.gapOver_inFrame (buffer : List Byte) (last limit now : Nat) :
    (Receiver.inFrame buffer last).gapOver limit now = true ↔ last + limit < now := decide_eq_true_iff

@[simp] theorem Receiver.afterGap_hunting (limit now : Nat) : Receiver.hunting.afterGap limit now = .hunting := rfl

/-- A gap that is over leaves the receiver hunting, and one that is not leaves it as it was (R114, R168). -/
theorem Receiver.afterGap_inFrame (buffer : List Byte) (last limit now : Nat) :
    (Receiver.inFrame buffer last).afterGap limit now =
      if last + limit < now then .hunting else .inFrame buffer last := by
  by_cases h : last + limit < now <;> simp [Receiver.afterGap, Receiver.gapOver, h]

/-- A discarded frame is counted, and nothing else of the link port changes (R170). -/
theorem State.discardFrame_link (s : State) :
    s.discardFrame.link = { s.link with discarded := inc16 s.link.discarded } := by
  unfold State.discardFrame
  dsimp only
  split <;> rfl

/-- The first discarded frame since READ STATUS raises LINK, and nothing but the port and the attention changes (R170). -/
theorem State.discardFrame_eq (s : State) :
    s.discardFrame =
      { s with
        link := s.discardFrame.link
        attention := if s.link.discarded = 0 then (s.raise .link).attention else s.attention } := by
  rw [State.discardFrame_link]
  unfold State.discardFrame
  dsimp only
  by_cases h : s.link.discarded = 0 <;> simp [h, State.raise, State.modLink, State.modAttention]

/-- A part that is ready takes a request, which is decided and answered (R169). -/
theorem State.request_ready {s : State} (h : s.Ready) (type : Nat) (tag : Byte) (decide : State → Answer) :
    s.request type tag decide =
      (decide s.taken).state.replied type tag (decide s.taken).status (decide s.taken).content := by
  have hu : s.validFrame.link.unanswered = false := by rw [State.validFrame_link]; exact h.2
  simp only [State.request, h.1, Option.isSome_none, Bool.false_eq_true, if_false, hu]
  rfl

/-- While a request is unanswered the next one is discarded (R169). -/
theorem State.request_early {s : State} (hr : s.resetRun = none) (h : s.link.unanswered = true) (type : Nat) (tag : Byte)
    (decide : State → Answer) : s.request type tag decide = s.validFrame.discardFrame.pump := by
  have hu : s.validFrame.link.unanswered = true := by rw [State.validFrame_link]; exact h
  simp [State.request, hr, hu]

theorem State.request_reset {s : State} (hr : s.resetRun.isSome = true) (type : Nat) (tag : Byte)
    (decide : State → Answer) : s.request type tag decide = s := by
  simp [State.request, hr]

theorem State.event_live {s : State} (hr : s.resetRun = none) (f : State → State) : s.event f = (f s).pump := by
  simp [State.event, hr]

theorem State.event_reset {s : State} (hr : s.resetRun.isSome = true) (f : State → State) : s.event f = s := by
  simp [State.event, hr]

theorem State.eventIf_live {s : State} {b : Bool} (hr : s.resetRun = none) (hb : b = true) (f : State → State) :
    s.eventIf b f = (f s).pump := by
  simp [State.eventIf, hb, State.event_live hr]

theorem State.eventIf_reset {s : State} (hr : s.resetRun.isSome = true) (b : Bool) (f : State → State) :
    s.eventIf b f = s := by
  unfold State.eventIf
  split
  · exact State.event_reset hr f
  · rfl

/-- A part that takes a request with the host not silent changes only in its link port (R169, R173). -/
theorem State.taken_plain {s : State} (h : s.link.silent = false) :
    s.taken =
      { s with
        link :=
          { s.link with
            unanswered := true, silent := false
            silenceAt := if s.alarm.silenceTime = 0 then none else some (s.floorTime + s.alarm.silenceTime * 1000) } } := by
  unfold State.taken State.validFrame
  simp only [h, Bool.false_eq_true, if_false]
  rfl

end Sys2Proof.Machine

namespace Sys2Proof.Laws

open Sys2Proof.Machine

/-- The state after reset is what the supply monitor's cold reset ends in when every input is inactive (R175). -/
theorem reset_is_cold_reset :
    ({ ({ State.reset with supplyLow := true } : State).beginReset .cold .coldSupply false with
      supplyLow := false } : State).endReset = State.reset := by
  decide +kernel

end Sys2Proof.Laws
end

