-- ==== Sys2Proof/Laws/Settle.lean ====
section
/-! SUPPORT. What each part of the settling of an event does, one lemma for each form it takes: the home switch, the valve
watches, the burner's watch on the lines, its timers that run on conditions, the conditions and suppression groups of the
points, and the handed conditions. -/

namespace Sys2Proof.Machine

/-- An event settles in three passes, then the image and the durations are formed. -/
theorem State.settle_eq (s : State) : s.settle = s.react.react.react.formImage.handDurations := rfl

/-- One pass, part by part. -/
theorem State.react_eq (s : State) :
    s.react =
      (let homed := (s.watchHome 0).watchHome 1
       let watched :=
        ((((((homed.watchValve 0).watchValve 1).watchValve 2).watchValve 3).watchValve 4).watchValve 5).watchValve 6
       watched.watchLines.formCooler.evaluate.formImage.watchBurner.syncAlarms) := by
  simp only [State.react, allActuators, allValves, List.foldl_cons, List.foldl_nil]

/-! ### The home switch (R27) -/

theorem State.watchHome_else {s : State} {a : Fin 2}
    (h : s.burner.actuators[a.val].motion ≠ .homing ∨ s.di (homeOf a) = false) : s.watchHome a = s := by
  unfold State.watchHome
  rcases h with h | h <;> simp [h]

/-- Outside a purge sequence's work the home ends: position 0, VERIFIED, DONE, and the host's claim ends. -/
theorem State.watchHome_done {s : State} {a : Fin 2} (hm : s.burner.actuators[a.val].motion = .homing)
    (hd : s.di (homeOf a) = true) (hp : ¬(s.burner.state = .purge ∧ s.burner.actuators[a.val].owner = .sequence)) :
    s.watchHome a =
      (s.modActuator a fun r =>
        { r with
          position := some 0, target := some 0, verify := .verified, homeFault := false, mismatchHeld := false
          motion := .still, dueAt := none, lastOutcome := some .done, owner := if r.owner = .operator then .none else r.owner }).raise .burner := by
  unfold State.watchHome State.homeDone
  simp only [hm, hd, decide_true, Bool.and_self, if_true]
  rw [if_neg]
  · simp [State.completeWork, State.modActuator, State.modBurner, upd]
  · intro h
    apply hp
    simp [State.completeWork, State.modActuator, State.modBurner, State.raise, State.modAttention, upd] at h
    refine ⟨h.1, ?_⟩
    by_cases ho : s.burner.actuators[a.val].owner = .operator <;> simp [ho] at h ⊢
    exact h.2

/-- In PURGE the sequence goes on to 400. -/
theorem State.watchHome_purge {s : State} {a : Fin 2} (hm : s.burner.actuators[a.val].motion = .homing)
    (hd : s.di (homeOf a) = true) (hp : s.burner.state = .purge) (ho : s.burner.actuators[a.val].owner = .sequence) :
    s.watchHome a =
      (s.modActuator a fun r =>
        { r with
          position := some 0, target := some 400, verify := .unverified, homeFault := false, mismatchHeld := false
          motion := .moving, dueAt := some (s.floorTime + 1000 / s.burner.cfg.stepRate[a.val]), lastOutcome := some .done
          direction := Config.awayLevel }).raise .burner := by
  unfold State.watchHome State.homeDone
  simp only [hm, hd, decide_true, Bool.and_self, if_true]
  rw [if_pos]
  · simp [State.startMove, Actuator.unverify, State.completeWork, State.modActuator, State.modBurner, State.raise,
      State.modAttention, upd, stepTime, Config.actuatorOpen, ho]
  · simp [State.completeWork, State.modActuator, State.modBurner, State.raise, State.modAttention, upd, hp, ho]

/-! ### The valve watches (R118, R119) -/

theorem State.watchValve_proving {s : State} {v : Fin 7} (hp : s.field.valves[v.val].phase = .proving)
    (h : s.commandShown v = false) : s.watchValve v = s := by
  simp [State.watchValve, hp, h]

/-- A proof: PROVEN, the timer stopped, and the owner is handed it. -/
theorem State.watchValve_proof {s : State} {v : Fin 7} (hp : s.field.valves[v.val].phase = .proving)
    (h : s.commandShown v = true) : s.watchValve v = (s.setPhase v .proven).handProof v := by
  simp [State.watchValve, hp, h]

theorem State.watchValve_proven {s : State} {v : Fin 7} (hp : s.field.valves[v.val].phase = .proven)
    (h : s.limitLost v = false) : s.watchValve v = s := by
  simp [State.watchValve, hp, h]

/-- A limit that leaves its commanded position, where the check applies: UNPROVEN and a latch. -/
theorem State.watchValve_lost {s : State} {v : Fin 7} (hp : s.field.valves[v.val].phase = .proven)
    (h : s.limitLost v = true) (hc : s.checkApplies (recordOfValve v) (valveKind s.field.valves[v.val].openCommand) = true) :
    s.watchValve v =
      (s.setPhase v .unproven).latch (recordOfValve v) (valveKind s.field.valves[v.val].openCommand) := by
  have : (s.setPhase v .unproven).checkApplies (recordOfValve v) (valveKind s.field.valves[v.val].openCommand) = true := hc
  simp only [State.watchValve, hp, h, if_true, State.unprove, this]

theorem State.watchValve_lost_unchecked {s : State} {v : Fin 7} (hp : s.field.valves[v.val].phase = .proven)
    (h : s.limitLost v = true) (hc : s.checkApplies (recordOfValve v) (valveKind s.field.valves[v.val].openCommand) = false) :
    s.watchValve v = s.setPhase v .unproven := by
  have : (s.setPhase v .unproven).checkApplies (recordOfValve v) (valveKind s.field.valves[v.val].openCommand) = false := hc
  simp [State.watchValve, hp, h, State.unprove, this]

/-- An UNPROVEN valve that its limits show in place is PROVEN, and its record is left to CLEAR DIAGNOSTICS. -/
theorem State.watchValve_back {s : State} {v : Fin 7} (hp : s.field.valves[v.val].phase = .unproven) :
    s.watchValve v = if s.commandShown v then s.setPhase v .proven else s := by
  simp [State.watchValve, hp]

/-! ### The burner's watch on the lines (R17, R18) -/

theorem State.anyLive_iff (s : State) : s.anyLive = true ↔ ∃ l : Fin 6, (s.lineState l).live = true := by
  simp only [State.anyLive, List.any_eq_true, Vector.mem_toList_iff, Vector.mem_iff_getElem]
  constructor
  · rintro ⟨r, ⟨i, hi, rfl⟩, h⟩
    exact ⟨⟨i, hi⟩, h⟩
  · rintro ⟨l, h⟩
    exact ⟨_, ⟨l.val, l.isLt, rfl⟩, h⟩

theorem State.watchLines_live {s : State} (h : s.anyLive = true) : s.watchLines = s := by
  simp [State.watchLines, h]

theorem State.watchLines_noFuel {s : State} (h : s.anyLive = false) (hb : s.burner.state = .mainFiring) :
    s.watchLines = s.wentIdle .noFuel := by
  simp [State.watchLines, h, hb, State.toIdle, State.wentIdle, State.burnerTo, State.modBurner, Burner.enter, Burner.rested,
    State.commandValve, BurnerState.firing, BurnerState.pilotOpen, BurnerState.supervised]
  split <;> simp_all [State.modField]

theorem State.watchLines_stopped {s : State} (h : s.anyLive = false) (hb : s.burner.state = .stopping) :
    s.watchLines = s.wentIdle .stopRequest := by
  simp [State.watchLines, h, hb, State.toIdle, State.wentIdle, State.burnerTo, State.modBurner, Burner.enter, Burner.rested,
    State.commandValve, BurnerState.firing, BurnerState.pilotOpen, BurnerState.supervised]
  split <;> simp_all [State.modField]

theorem State.watchLines_else {s : State} (h1 : s.burner.state ≠ .mainFiring) (h2 : s.burner.state ≠ .stopping) :
    s.watchLines = s := by
  simp [State.watchLines, h1, h2]

/-! ### The burner's timers that run on conditions (R10, R11, R13, R19, R20) -/

/-- The burner record after its watches: a timer starts with its condition and stops with it. -/
theorem State.watchBurner_eq (s : State) :
    s.watchBurner =
      { s with
        burner :=
          { s.burner with
            purgeSince := if s.purgeCounts then some (s.burner.purgeSince.getD s.floorTime) else none
            purgeStarted := s.burner.purgeStarted || s.purgeCounts
            flameProofAt :=
              if s.burner.state = .ignition ∧ s.burner.flame = true then
                some (s.burner.flameProofAt.getD (s.floorTime + 2000)) else none
            flameLossAt :=
              if s.flameLossRuns then some (s.burner.flameLossAt.getD (s.floorTime + s.burner.cfg.ffrt * 1000)) else none
            airLossAt :=
              if s.burner.state.firing = true ∧ s.airLost = true then
                some (s.burner.airLossAt.getD (s.floorTime + 3000)) else none } } := by
  have hr (on : Bool) (t : Option Nat) (now time : Nat) :
      runWhile on t now time = if on then some (t.getD (now + time)) else none := by
    cases on <;> cases t <;> rfl
  unfold State.watchBurner
  simp only [hr, State.modBurner, Burner.watchPurge, Config.flameProof, Config.airLoss]
  cases s.purgeCounts <;> simp

/-! ### Conditions (R128, R129, R130) -/

theorem State.conditionOf_discrete {s : State} {i : Fin 96} {p : Point} {n : Fin 24} {level : Bool}
    (h : p.defn.source = .discrete n level) : s.conditionOf i p = (s.di n == level) := by
  simp [State.conditionOf, h]

theorem State.conditionOf_analog {s : State} {i : Fin 96} {p : Point} {c : Fin 32} {limit : Int} {high : Bool}
    {deadband : Nat} (h : p.defn.source = .analog c limit high deadband) :
    s.conditionOf i p =
      if (s.ai c).quality ≠ .good then p.condition
      else if high then
        (if limit < (s.ai c).value then true
        else if (s.ai c).value < limit - deadband then false else p.condition)
      else if (s.ai c).value < limit then true
      else if limit + deadband < (s.ai c).value then false else p.condition := by
  simp only [State.conditionOf, h]
  by_cases hq : (s.ai c).quality = .good <;> simp [hq]

theorem State.setCondition_same {s : State} {i : Fin 96} {c : Bool} (h : s.alarm.points[i.val].condition = c) :
    s.setCondition i c = s := by
  simp [State.setCondition, h]

/-- A condition that comes back to the active state stops the delay timer. -/
theorem State.setCondition_back {s : State} {i : Fin 96} {c : Bool} (h : s.alarm.points[i.val].condition ≠ c)
    (ha : s.alarm.points[i.val].active = c) :
    s.setCondition i c = s.modPoint i fun q => { q with condition := c, delayAt := none } := by
  simp [State.setCondition, h, ha, State.modPoint, State.modAlarm, upd]

/-- A condition that leaves the active state starts its delay timer. -/
theorem State.setCondition_delayed {s : State} {i : Fin 96} {c : Bool} (h : s.alarm.points[i.val].condition ≠ c)
    (ha : s.alarm.points[i.val].active ≠ c)
    (hd : (if c then s.alarm.points[i.val].defn.onDelay else s.alarm.points[i.val].defn.offDelay) ≠ 0) :
    s.setCondition i c =
      s.modPoint i fun q =>
        { q with
          condition := c
          delayAt := some (s.floorTime + (if c then q.defn.onDelay else q.defn.offDelay) * 1000) } := by
  cases c <;> simp_all [State.setCondition, State.modPoint, State.modAlarm, upd]

/-- With delay 0 the active state follows at once. -/
theorem State.setCondition_atOnce {s : State} {i : Fin 96} {c : Bool} (h : s.alarm.points[i.val].condition ≠ c)
    (ha : s.alarm.points[i.val].active ≠ c)
    (hd : (if c then s.alarm.points[i.val].defn.onDelay else s.alarm.points[i.val].defn.offDelay) = 0) :
    s.setCondition i c =
      (let t := s.modPoint i fun q => { q with condition := c }
       if c then t.becomeActive i else t.becomeInactive i) := by
  cases c <;> simp_all [State.setCondition]

/-! ### Suppression (R136) -/

theorem State.syncGroup_begins {s : State} {i : Fin 96} (h : s.alarm.points[i.val].state = .normal) :
    s.syncGroup i true = s.enterPoint i .suppressed := by
  simp [State.syncGroup, h]

theorem State.syncGroup_ends {s : State} {i : Fin 96} (h : s.alarm.points[i.val].state = .suppressed) :
    s.syncGroup i false = if s.alarm.points[i.val].active then s.raisePoint i else s.enterPoint i .normal := by
  simp [State.syncGroup, h]

theorem State.syncGroup_else {s : State} {i : Fin 96} {holds : Bool}
    (h1 : s.alarm.points[i.val].state = .normal → holds = false)
    (h2 : s.alarm.points[i.val].state = .suppressed → holds = true) : s.syncGroup i holds = s := by
  unfold State.syncGroup
  dsimp only
  rw [if_neg, if_neg]
  · rintro h; simp at h; simp [h2 h.1] at h
  · rintro h; simp at h; simp [h1 h.1] at h

theorem State.syncPoint_disabled {s before : State} {i : Fin 96} (h : s.alarm.points[i.val].state = .disabled) :
    s.syncPoint before i = s := by
  simp [State.syncPoint, h]

theorem State.syncPoint_enabled {s before : State} {i : Fin 96} (h : s.alarm.points[i.val].state ≠ .disabled) :
    s.syncPoint before i =
      (let t := s.syncGroup i (before.groupHolds s.alarm.points[i.val].defn.group)
       t.setCondition i ((if i = 12 then t else before).conditionOf i t.alarm.points[i.val])) := by
  simp [State.syncPoint, h]

/-! ### Handed conditions (R83, R126) -/

theorem State.handPoint_disabled {s : State} {i : Fin 96} (c : Bool) (h : s.alarm.points[i.val].state = .disabled) :
    s.handPoint i c = s := by
  simp [State.handPoint, h]

theorem State.handPoint_enabled {s : State} {i : Fin 96} (c : Bool) (h : s.alarm.points[i.val].state ≠ .disabled) :
    s.handPoint i c = s.setCondition i c := by
  simp [State.handPoint, h]

/-- Each change of HEAT_CUT is handed. -/
theorem State.evaluate_cutChanges (s : State) :
    s.evaluate.heat.cutChanges =
      if s.evaluate.heat.heatCut = s.heat.heatCut then s.heat.cutChanges
      else s.heat.cutChanges ++ [s.evaluate.heat.heatCut] := rfl

end Sys2Proof.Machine
end

