-- ==== Sys2Proof/Laws/Records.lean ====
section
/-! SUPPORT. What the operations on a line do to its completion list and its queue, one lemma per operation: the end of an
order adds its record, what follows it at the head adds records of outcome COMPLETE, and nothing else adds one. With them,
what an index pulse does to a batch line, and the bed mean and its lowest value as sums and bounds. -/

namespace Sys2Proof.Machine

/-! ### Completion lists (R54, R55) -/

/-- A line's completion list and its overrun flag. -/
def Line.records (r : Line) : List Completion × Bool := (r.completions, r.overrun)

/-- Records added one after another. -/
def Line.addRecords (r : Line) (l : List Completion) : Line := l.foldl Line.addCompletion r

/-- The record that an order adds as it ends: one where it asked for notification. -/
def State.endRecord (s : State) (l : Fin 6) (outcome : OrderOutcome) (o : Order) : List Completion :=
  if o.notify then [completionOf o outcome s.lines[l.val].progress s.floorTime (s.batchCounts l o)] else []

theorem Line.addCompletion_records {r q : Line} (c : Completion) (h : r.records = q.records) :
    (r.addCompletion c).records = (q.addCompletion c).records := by
  simp only [Line.records, Prod.mk.injEq] at h
  unfold Line.addCompletion Line.records
  rw [h.1]
  split <;> simp [h.2]

theorem Line.addRecords_records (l : List Completion) : ∀ {r q : Line}, r.records = q.records →
    (r.addRecords l).records = (q.addRecords l).records := by
  induction l with
  | nil => exact fun h => h
  | cons c l ih => exact fun h => ih (Line.addCompletion_records c h)

theorem Line.addRecords_append (r : Line) (a b : List Completion) :
    r.addRecords (a ++ b) = (r.addRecords a).addRecords b := List.foldl_append

theorem State.modLine_records (s : State) (l m : Fin 6) (f : Line → Line) (h : ∀ r, (f r).records = r.records) :
    (s.modLine l f).lines[m.val].records = s.lines[m.val].records := by
  simp only [State.modLine, upd]
  by_cases e : l = m
  · subst e
    simp [h]
  · have : l.val ≠ m.val := fun h => e (Fin.ext h)
    simp [this]

theorem compareRates_records (now : Nat) (r : Line) : (compareRates now r).records = r.records := by
  unfold compareRates
  split <;> [split <;> [split <;> rfl; rfl]; rfl]

theorem Line.handed_records (r : Line) (now requested allowed : Nat) :
    (r.handed now requested allowed).records = r.records := by
  unfold Line.handed
  dsimp only
  split
  · rfl
  · exact compareRates_records _ _

theorem State.evaluate_records (s : State) (m : Fin 6) : s.evaluate.lines[m.val].records = s.lines[m.val].records := by
  simp [State.evaluate, State.evaluateAt, Line.handed_records]

theorem State.setReason_records (s : State) (l m : Fin 6) (r : Reason) :
    (s.setReason l r).lines[m.val].records = s.lines[m.val].records := by
  unfold State.setReason
  simp only [State.raise_frame]
  exact State.modLine_records s l m _ fun q => by cases r <;> rfl

theorem State.notice_records (s : State) (l m : Fin 6) (o : Order) :
    (s.notice l o).lines[m.val].records = s.lines[m.val].records := by
  unfold State.notice
  split
  · split
    · exact State.modLine_records s l m _ fun _ => rfl
    · rw [State.setReason_records]
      exact State.modLine_records s l m _ fun _ => rfl
  · rfl

theorem State.queueReasons_records (s : State) (l m : Fin 6) :
    (s.queueReasons l).lines[m.val].records = s.lines[m.val].records := by
  unfold State.queueReasons
  dsimp only
  split <;> split <;> simp [State.setReason_records]

theorem State.closeGate_lines (s : State) (l : Fin 6) : (s.closeGate l).lines = s.lines := by
  unfold State.closeGate
  split <;> rfl

/-! ### The head of the queue (R43, R45, R47, R54) -/

theorem State.modLine_queue (s : State) (l : Fin 6) (f : Line → Line) (h : ∀ r, (f r).queue = r.queue) :
    (s.modLine l f).lines[l.val].queue = s.lines[l.val].queue := by
  simp [State.modLine, upd, h]

theorem State.evaluate_queue (s : State) (l : Fin 6) : s.evaluate.lines[l.val].queue = s.lines[l.val].queue := by
  simp only [State.evaluate, State.evaluateAt]
  simp
  unfold Line.handed
  dsimp only
  split
  · rfl
  · unfold compareRates
    split <;> [split <;> [split <;> rfl; rfl]; rfl]

theorem State.setReason_queue (s : State) (l : Fin 6) (r : Reason) :
    (s.setReason l r).lines[l.val].queue = s.lines[l.val].queue := by
  unfold State.setReason
  simp only [State.raise_frame]
  exact State.modLine_queue s l _ fun q => by cases r <;> rfl

/-- The head that ends adds its record and no other. -/
theorem State.endHead_records {s : State} {l : Fin 6} {o : Order} {rest : List Order} (outcome : OrderOutcome)
    (hq : s.lines[l.val].queue = o :: rest) :
    (s.endHead l outcome).lines[l.val].records = (s.lines[l.val].addRecords (s.endRecord l outcome o)).records := by
  unfold State.endHead State.endRecord
  rw [hq]
  dsimp only
  cases o.body <;> (try rw [State.closeGate_lines]) <;> by_cases hn : o.notify <;>
    simp [State.modLine, upd, hn, Line.addRecords] <;> first | rfl | (apply Line.addCompletion_records; rfl)

theorem State.endHead_queue {s : State} {l : Fin 6} {o : Order} {rest : List Order} (outcome : OrderOutcome)
    (hq : s.lines[l.val].queue = o :: rest) : (s.endHead l outcome).lines[l.val].queue = rest := by
  unfold State.endHead
  rw [hq]
  dsimp only
  cases o.body <;> (try rw [State.closeGate_lines]) <;> by_cases hn : o.notify <;>
    simp [State.modLine, upd, hn, Line.addCompletion] <;> split <;> rfl

theorem State.retireHead_records {s : State} {l : Fin 6} {o : Order} {rest : List Order} (outcome : OrderOutcome)
    (hq : s.lines[l.val].queue = o :: rest) :
    (s.retireHead l outcome).lines[l.val].records = (s.lines[l.val].addRecords (s.endRecord l outcome o)).records := by
  rw [← State.endHead_records outcome hq]
  unfold State.retireHead
  rw [hq]
  dsimp only
  rw [State.queueReasons_records, State.notice_records]

theorem State.retireHead_queue {s : State} {l : Fin 6} {o : Order} {rest : List Order} (outcome : OrderOutcome)
    (hq : s.lines[l.val].queue = o :: rest) : (s.retireHead l outcome).lines[l.val].queue = rest := by
  rw [← State.endHead_queue outcome hq]
  unfold State.retireHead
  rw [hq]
  dsimp only
  unfold State.queueReasons State.notice
  dsimp only
  split <;> split <;> split <;> (try split) <;> simp [State.setReason_queue]

/-- The orders that a take-up retires end COMPLETE at once. -/
theorem State.takeUp_records (l : Fin 6) (q : List Order) : ∀ s : State, s.lines[l.val].queue = q →
    ∃ later : List Completion,
      (s.takeUp l q).lines[l.val].records = (s.lines[l.val].addRecords later).records ∧
        (∀ c ∈ later, c.outcome = .complete ∧ c.finish = s.floorTime) ∧ (q = [] → later = []) := by
  induction q with
  | nil => exact fun s _ => ⟨[], rfl, by simp, by simp⟩
  | cons o rest ih =>
    intro s hq
    have step : ∀ t : State, t.lines[l.val].queue = o :: rest → t.floorTime = s.floorTime →
        t.lines[l.val].records = s.lines[l.val].records → ∀ u : State,
        u.lines[l.val].records = (t.retireHead l .complete).lines[l.val].records → u.floorTime = s.floorTime →
        u.lines[l.val].queue = rest →
        ∃ later : List Completion,
          (u.takeUp l rest).lines[l.val].records = (s.lines[l.val].addRecords later).records ∧
            (∀ c ∈ later, c.outcome = .complete ∧ c.finish = s.floorTime) ∧ (o :: rest = [] → later = []) := by
      intro t ht hf hr u hu huf huq
      obtain ⟨later, h1, h2, -⟩ := ih u huq
      refine ⟨t.endRecord l .complete o ++ later, ?_, ?_, by simp⟩
      · rw [h1, Line.addRecords_append]
        apply Line.addRecords_records
        rw [hu, State.retireHead_records .complete ht]
        exact Line.addRecords_records _ hr
      · intro c hc
        rw [List.mem_append] at hc
        rcases hc with hc | hc
        · unfold State.endRecord at hc
          split at hc
          · simp only [List.mem_singleton] at hc
            subst hc
            exact ⟨rfl, hf⟩
          · simp at hc
        · rw [← huf]
          exact h2 c hc
    obtain ⟨tag, notify, delay, body⟩ := o
    cases body with
    | context cv priority =>
      have hq' : ((s.modLine l fun r => { r with cv := cv, priority := priority, progress := none }).evaluate).lines[l.val].queue =
          ⟨tag, notify, delay, .context cv priority⟩ :: rest := by
        rw [State.evaluate_queue, State.modLine_queue, hq]
        intro; rfl
      refine step _ hq' (by simp) ?_ _ (by simp) (by simp) ?_
      · rw [State.evaluate_records, State.modLine_records]
        intro; rfl
      · simp only [State.addEvent_frame]
        exact State.retireHead_queue _ hq'
    | rate target ramp hold =>
      unfold State.takeUp
      dsimp only
      by_cases ho : s.lines[l.val].state = .opened
      · rw [if_pos ho]
        generalize decide (ramp = 0 ∨ s.lines[l.val].requested = target) = reached
        have hq' : ((s.modLine l fun r =>
            { r with
              progress := some (freshProgress r s.floorTime reached)
              requested := if reached then target else r.requested }).evaluate).lines[l.val].queue =
            ⟨tag, notify, delay, .rate target ramp hold⟩ :: rest := by
          rw [State.evaluate_queue, State.modLine_queue, hq]
          intro; rfl
        have hr : ((s.modLine l fun r =>
            { r with
              progress := some (freshProgress r s.floorTime reached)
              requested := if reached then target else r.requested }).evaluate).lines[l.val].records =
            s.lines[l.val].records := by
          rw [State.evaluate_records, State.modLine_records]
          intro; rfl
        by_cases hc : reached = true ∧ hold = 0 ∧ rest ≠ []
        · rw [if_pos hc]
          exact step _ hq' (by simp) hr _ rfl (by simp) (State.retireHead_queue _ hq')
        · rw [if_neg hc]
          exact ⟨[], hr, by simp, by simp⟩
      · rw [if_neg ho]
        exact ⟨[], rfl, by simp, by simp⟩
    | batch slots revs mass =>
      refine ⟨[], ?_, by simp, by simp⟩
      unfold State.takeUp
      dsimp only
      split
      · rw [State.evaluate_records]
        cases batchOf l <;> exact State.modLine_records s l l _ fun _ => rfl
      · rfl

/-- A head that completes adds its record first, then those of the orders that follow it at once. -/
theorem State.completeHead_records {s : State} {l : Fin 6} {o : Order} {rest : List Order}
    (hq : s.lines[l.val].queue = o :: rest) :
    ∃ later : List Completion,
      (s.completeHead l).lines[l.val].records =
          (s.lines[l.val].addRecords (s.endRecord l .complete o ++ later)).records ∧
        (∀ c ∈ later, c.outcome = .complete ∧ c.finish = s.floorTime) ∧ (rest = [] → later = []) := by
  have hq' := State.retireHead_queue .complete hq
  obtain ⟨later, h1, h2, h3⟩ := State.takeUp_records l rest (s.retireHead l .complete) hq'
  refine ⟨later, ?_, fun c hc => by simpa using h2 c hc, h3⟩
  unfold State.completeHead
  dsimp only
  rw [State.evaluate_records, hq', h1, Line.addRecords_append]
  exact Line.addRecords_records _ (State.retireHead_records .complete hq)

/-! ### A slot in flight that is aborted (R68) -/

theorem State.deliver_lines (s : State) (l : Fin 6) (grams : Nat) :
    (s.deliver l grams).lines =
      upd s.lines l fun r =>
        { r with
          lifetime := r.lifetime + grams
          progress := r.progress.map fun p => { p with delivered := add32 p.delivered grams } } := by
  unfold State.deliver
  dsimp only
  split <;> simp [State.modLine]

/-- The lines are as they were, but for the account of a charge already dropped. -/
theorem State.abortSlot_lines (s : State) (l : Fin 6) :
    (s.abortSlot l).lines = s.lines ∨ ∃ grams, (s.abortSlot l).lines = (s.deliver l grams).lines := by
  have h (t : State) (b : Fin 2) (z : SlotRecord) : (t.recordSlot b z).lines = t.lines := by simp
  unfold State.abortSlot
  split
  · exact Or.inl rfl
  · split
    · exact Or.inl rfl
    · dsimp only
      rw [h]
      split
      · exact Or.inr ⟨_, rfl⟩
      · exact Or.inl rfl

theorem State.abortSlot_records (s : State) (l m : Fin 6) :
    (s.abortSlot l).lines[m.val].records = s.lines[m.val].records := by
  rcases s.abortSlot_lines l with h | ⟨grams, h⟩
  · rw [h]
  · rw [h, State.deliver_lines]
    exact State.modLine_records s l m _ fun _ => rfl

theorem State.abortSlot_queue (s : State) (l : Fin 6) : (s.abortSlot l).lines[l.val].queue = s.lines[l.val].queue := by
  rcases s.abortSlot_lines l with h | ⟨grams, h⟩
  · rw [h]
  · rw [h, State.deliver_lines]
    simp [upd]

theorem State.abortSlot_active (s : State) (l : Fin 6) :
    (s.abortSlot l).lines[l.val].progress.isSome = s.lines[l.val].progress.isSome := by
  rcases s.abortSlot_lines l with h | ⟨grams, h⟩
  · rw [h]
  · rw [h, State.deliver_lines]
    simp [upd]

/-! ### An index pulse on a batch line (R63, R67) -/

/-- The idle count and the gate after a pulse taken with no slot in flight. -/
theorem State.gateIdle_eq (s : State) (b : Fin 2) :
    s.gateIdle b =
      s.modBatch b fun x =>
        if x.slot.isSome then x
        else if x.idle = 0 then { x with idle := 1 } else { x with gateOpen := false, idle := 0 } := by
  unfold State.gateIdle
  congr 1
  funext x
  rcases x.idle with _ | n <;> simp

theorem State.batchPulse_idle {s : State} {b : Fin 2} (h : s.lines[(lineOfBatch b).val].activeBatch = none) :
    s.batchPulse b = s := by
  simp [State.batchPulse, h]

/-- After the last opening a pulse serves the gate only. -/
theorem State.batchPulse_all_opened {s : State} {b : Fin 2} {slots revs mass : Nat}
    (h : s.lines[(lineOfBatch b).val].activeBatch = some (slots, revs, mass)) (ho : slots ≤ s.batches[b.val].opened) :
    s.batchPulse b = s.gateIdle b := by
  simp only [State.batchPulse, h]
  rw [if_neg (Nat.not_lt.2 ho)]

/-- With a slot left to open the pulse is counted, and a multiple of the revolutions per slot opens the next slot. -/
theorem State.batchPulse_counts {s : State} {b : Fin 2} {slots revs mass : Nat}
    (h : s.lines[(lineOfBatch b).val].activeBatch = some (slots, revs, mass)) (ho : s.batches[b.val].opened < slots) :
    s.batchPulse b =
      (let t := s.modBatch b fun r => { r with indexCount := r.indexCount + 1 }
       (if (s.batches[b.val].indexCount + 1) % revs = 0 then t.openSlot b else t).gateIdle b) := by
  simp only [State.batchPulse, h]
  rw [if_pos ho]
  simp [State.modBatch, upd]

/-! ### The bed mean (R96, R97) -/

/-- The mean as a sum over the GOOD channels, truncated toward zero. -/
theorem meanOf_eq (l : List Channel) :
    meanOf l =
      (let good := l.filter fun ch => ch.quality = .good
       if good = [] then none else some ((good.map Channel.value).sum.tdiv good.length)) := by
  have : ∀ (g : List Channel) (k : Int),
      g.foldl (fun (n : Int) (ch : Channel) => n + ch.value) k = k + (g.map Channel.value).sum := by
    intro g
    induction g with
    | nil => simp
    | cons a g ih =>
      intro k
      simp [ih]
      omega
  unfold meanOf
  dsimp only
  rw [this]
  simp

/-- The lowest mean lies `r` or more below `m` exactly where `m` itself or some entry does. -/
theorem lowest_iff (m r : Int) (l : List (Nat × Int)) :
    lowest m l + r ≤ m ↔ (m + r ≤ m ∨ ∃ e ∈ l, e.2 + r ≤ m) := by
  have : ∀ (l : List (Nat × Int)) (k : Int),
      (l.foldl (fun n e => min n e.2) k) + r ≤ m ↔ (k + r ≤ m ∨ ∃ e ∈ l, e.2 + r ≤ m) := by
    intro l
    induction l with
    | nil => simp
    | cons e l ih =>
      intro k
      simp only [List.foldl_cons, ih, List.mem_cons, exists_eq_or_imp]
      constructor
      · rintro (h | h)
        · rcases min_choice k e.2 with hm | hm <;> rw [hm] at h
          · exact Or.inl h
          · exact Or.inr (Or.inl h)
        · exact Or.inr (Or.inr h)
      · rintro (h | h | h)
        · have := min_le_left k e.2
          omega
        · have := min_le_right k e.2
          omega
        · exact Or.inr h
  exact this l m

end Sys2Proof.Machine
end

