-- ==== Sys2Proof/Laws/LowWater.lean ====
section
/-! SUPPORT. The LOW_WATER reason (R57): where the queue of a line falls by single retirements, the reason is raised at the
retirement that reaches the low-water mark, and at no other. -/

namespace Sys2Proof.Machine

/-- What the check at a retirement reads, and its flag. -/
def Line.mark (r : Line) : Bool × LineSettings := (r.lowWaterFlag, r.cfg)

/-- A FEED request is set. -/
def State.feedSet (s : State) : Prop := s.attention.request.getLsbD 3 = true

/-! ### What leaves the flag, and what keeps the request -/

theorem State.modLine_mark (s : State) (l : Fin 6) (f : Line → Line) (h : ∀ r, (f r).mark = r.mark) :
    (s.modLine l f).lines[l.val].mark = s.lines[l.val].mark := by simp [State.modLine, upd, h]

theorem Line.addCompletion_mark (r : Line) (c : Completion) : (r.addCompletion c).mark = r.mark := by
  unfold Line.addCompletion
  split <;> rfl

theorem Line.handed_mark (r : Line) (now requested allowed : Nat) : (r.handed now requested allowed).mark = r.mark := by
  unfold Line.handed
  dsimp only
  split
  · rfl
  · unfold compareRates
    split <;> [split <;> [split <;> rfl; rfl]; rfl]

theorem State.evaluate_mark (s : State) (l : Fin 6) : s.evaluate.lines[l.val].mark = s.lines[l.val].mark := by
  simp [State.evaluate, State.evaluateAt, Line.handed_mark]

theorem State.setReason_mark (s : State) (l : Fin 6) {r : Reason} (h : r ≠ .lowWater) :
    (s.setReason l r).lines[l.val].mark = s.lines[l.val].mark := by
  unfold State.setReason
  simp only [State.raise_frame]
  exact State.modLine_mark s l _ fun q => by cases r <;> first | rfl | exact absurd rfl h

theorem State.notice_mark (s : State) (l : Fin 6) (o : Order) :
    (s.notice l o).lines[l.val].mark = s.lines[l.val].mark := by
  unfold State.notice
  split
  · split
    · exact State.modLine_mark s l _ fun _ => rfl
    · rw [State.setReason_mark _ _ (by decide)]
      exact State.modLine_mark s l _ fun _ => rfl
  · rfl

theorem State.endHead_mark (s : State) (l : Fin 6) (outcome : OrderOutcome) :
    (s.endHead l outcome).lines[l.val].mark = s.lines[l.val].mark := by
  unfold State.endHead
  split
  · rfl
  · rename_i o rest _
    dsimp only
    cases o.body <;> (try rw [State.closeGate_lines]) <;> simp only [State.modLineTotals_frame] <;>
      exact State.modLine_mark s l _ fun r => by split <;> [exact Line.addCompletion_mark _ _; rfl]

theorem State.raise_feedSet {s : State} (c : AttentionClass) (h : s.feedSet) : (s.raise c).feedSet := by
  simp only [State.feedSet] at h
  simp [State.feedSet, State.raise, State.modAttention, Attention.setFlags, h]

theorem State.raise_feed (s : State) : (s.raise .feed).feedSet := by
  simp [State.feedSet, State.raise, State.modAttention, Attention.setFlags, AttentionClass.set, AttentionClass.ctorIdx]

theorem State.setReason_feed (s : State) (l : Fin 6) (r : Reason) : (s.setReason l r).feedSet := State.raise_feed _

theorem State.notice_feedSet {s : State} (l : Fin 6) (o : Order) (h : s.feedSet) : (s.notice l o).feedSet := by
  unfold State.notice
  split
  · split
    · exact h
    · exact State.setReason_feed _ _ _
  · exact h

theorem State.queueReasons_feedSet {s : State} (l : Fin 6) (h : s.feedSet) : (s.queueReasons l).feedSet := by
  unfold State.queueReasons
  dsimp only
  split
  · split <;> exact State.setReason_feed _ _ _
  · split <;> [exact State.setReason_feed _ _ _; exact h]

theorem State.endHead_feedSet {s : State} (l : Fin 6) (outcome : OrderOutcome) (h : s.feedSet) :
    (s.endHead l outcome).feedSet := by
  have e : (s.endHead l outcome).attention = s.attention := by simp
  unfold State.feedSet
  rw [e]
  exact h

theorem State.retireHead_feedSet {s : State} (l : Fin 6) (outcome : OrderOutcome) (h : s.feedSet) :
    (s.retireHead l outcome).feedSet := by
  unfold State.retireHead
  split
  · exact h
  · exact State.queueReasons_feedSet _ (State.notice_feedSet _ _ (State.endHead_feedSet _ _ h))

/-! ### One retirement -/

/-- The check after a retirement: the reason exactly where the queue has the mark's length. -/
theorem State.queueReasons_lowWater (s : State) (l : Fin 6) :
    let r := s.lines[l.val]
    let q := (s.queueReasons l).lines[l.val]
    let reached : Prop := r.cfg.lowWater ≠ 0 ∧ r.queue.length = r.cfg.lowWater
    q.cfg = r.cfg ∧ (q.lowWaterFlag = true ↔ r.lowWaterFlag = true ∨ reached) ∧
      (reached → (s.queueReasons l).feedSet) := by
  unfold State.queueReasons
  dsimp only
  by_cases h : s.lines[l.val].cfg.lowWater ≠ 0 ∧ s.lines[l.val].queue.length = s.lines[l.val].cfg.lowWater
  · have hm : (s.setReason l .lowWater).lines[l.val].mark = (true, s.lines[l.val].cfg) := by
      simp [State.setReason, State.modLine, upd, Line.mark]
    rw [if_pos h]
    split
    · have e := ((s.setReason l .lowWater).setReason_mark l (r := .empty) (by decide)).trans hm
      simp only [Line.mark, Prod.mk.injEq] at e
      exact ⟨e.2, by simp [e.1, h], fun _ => State.setReason_feed _ _ _⟩
    · simp only [Line.mark, Prod.mk.injEq] at hm
      exact ⟨hm.2, by simp [hm.1, h], fun _ => State.setReason_feed _ _ _⟩
  · rw [if_neg h]
    split
    · have e := s.setReason_mark l (r := .empty) (by decide)
      simp only [Line.mark, Prod.mk.injEq] at e
      exact ⟨e.2, by simp [e.1, h], fun hh => absurd hh h⟩
    · exact ⟨rfl, by simp [h], fun hh => absurd hh h⟩

/-- The retirement of the head brings the reason where it leaves as many orders as the mark. -/
theorem State.retireHead_lowWater {s : State} {l : Fin 6} {o : Order} {rest : List Order} (outcome : OrderOutcome)
    (hq : s.lines[l.val].queue = o :: rest) :
    let r := s.lines[l.val]
    let q := (s.retireHead l outcome).lines[l.val]
    let reached : Prop := r.cfg.lowWater ≠ 0 ∧ rest.length = r.cfg.lowWater
    q.cfg = r.cfg ∧ (q.lowWaterFlag = true ↔ r.lowWaterFlag = true ∨ reached) ∧
      (reached → (s.retireHead l outcome).feedSet) := by
  unfold State.retireHead
  rw [hq]
  dsimp only
  have hm : ((s.endHead l outcome).notice l o).lines[l.val].mark = s.lines[l.val].mark := by
    rw [State.notice_mark, State.endHead_mark]
  have hn : ((s.endHead l outcome).notice l o).lines[l.val].queue = rest := by
    rw [← State.endHead_queue outcome hq]
    unfold State.notice
    split <;> [split; skip] <;> simp [State.setReason_queue]
  have h := ((s.endHead l outcome).notice l o).queueReasons_lowWater l
  simp only [Line.mark, Prod.mk.injEq] at hm
  simp only [hn, hm.1, hm.2] at h
  exact h

/-! ### A fall of the queue -/

/-- A retirement, and then a fall of the queue that it leaves. -/
theorem Line.LowWaterTaken.after {r q : Line} {l : Fin 6} {n : Nat} {t v : State} (hc : q.cfg = r.cfg)
    (hm : q.lowWaterFlag = true ↔ r.lowWaterFlag = true ∨ (r.cfg.lowWater ≠ 0 ∧ n = r.cfg.lowWater))
    (hf : r.cfg.lowWater ≠ 0 ∧ n = r.cfg.lowWater → t.feedSet) (hk : t.feedSet → v.feedSet)
    (hl : v.lines[l.val].queue.length ≤ n) (h : q.LowWaterTaken l n v) : r.LowWaterTaken l (n + 1) v := by
  obtain ⟨h1, h2⟩ := h
  simp only [Fin.getElem_fin, hc, hm] at h1 h2
  refine ⟨h1.trans ?_, ?_⟩
  · simp only [Fin.getElem_fin]
    constructor
    · rintro ((h | ⟨a, b⟩) | ⟨a, b, c⟩)
      · exact Or.inl h
      · exact Or.inr ⟨a, by omega, by omega⟩
      · exact Or.inr ⟨a, b, by omega⟩
    · rintro (h | ⟨a, b, c⟩)
      · exact Or.inl (Or.inl h)
      · rcases Nat.lt_or_ge r.cfg.lowWater n with h | h
        · exact Or.inr ⟨a, b, h⟩
        · exact Or.inl (Or.inr ⟨a, by omega⟩)
  · simp only [Fin.getElem_fin]
    rintro ⟨a, b, c⟩
    by_cases h : n = r.cfg.lowWater
    · exact hk (hf ⟨a, h⟩)
    · exact h2 ⟨a, b, by omega⟩

/-- A queue that has not fallen brings no reason. -/
theorem Line.LowWaterTaken.of_same {r : Line} {l : Fin 6} {v : State} {n : Nat}
    (hm : v.lines[l.val].lowWaterFlag = r.lowWaterFlag) (hn : v.lines[l.val].queue.length = n) :
    r.LowWaterTaken l n v := by
  refine ⟨?_, fun h => ?_⟩
  · simp only [Fin.getElem_fin, hm, hn]
    exact ⟨Or.inl, fun h => h.elim id fun ⟨_, b, c⟩ => absurd b (Nat.not_le.2 c)⟩
  · simp only [Fin.getElem_fin, hn] at h
    omega

/-- What keeps the line's flag and queue, and the FEED request, keeps what was said of the fall. -/
theorem Line.LowWaterTaken.congr {r : Line} {l : Fin 6} {n : Nat} {v w : State}
    (hm : w.lines[l.val].lowWaterFlag = v.lines[l.val].lowWaterFlag)
    (hq : w.lines[l.val].queue = v.lines[l.val].queue) (hk : v.feedSet → w.feedSet) (h : r.LowWaterTaken l n v) :
    r.LowWaterTaken l n w := by
  obtain ⟨h1, h2⟩ := h
  simp only [Fin.getElem_fin] at h1 h2
  exact ⟨by simp only [Fin.getElem_fin, hm, hq]; exact h1, by simp only [Fin.getElem_fin, hq]; exact fun h => hk (h2 h)⟩

/-- A take-up keeps a FEED request, leaves no more orders than it found, and brings the reason where the queue falls to the
mark. -/
theorem State.takeUp_lowWater (l : Fin 6) (q : List Order) : ∀ s : State, s.lines[l.val].queue = q →
    s.lines[l.val].LowWaterTaken l q.length (s.takeUp l q) ∧ (s.takeUp l q).lines[l.val].queue.length ≤ q.length ∧
      (s.feedSet → (s.takeUp l q).feedSet) := by
  induction q with
  | nil =>
    intro s hq
    exact ⟨.of_same rfl (by rw [State.takeUp, hq]), by simp [State.takeUp, hq], id⟩
  | cons o rest ih =>
    intro s hq
    -- a state on the way, its head retired, and then the rest taken up
    have step : ∀ t : State, t.lines[l.val].queue = o :: rest → t.lines[l.val].mark = s.lines[l.val].mark →
        (s.feedSet → t.feedSet) → ∀ u : State, u.lines[l.val].mark = (t.retireHead l .complete).lines[l.val].mark →
        u.lines[l.val].queue = rest → ((t.retireHead l .complete).feedSet → u.feedSet) →
        s.lines[l.val].LowWaterTaken l (o :: rest).length (u.takeUp l rest) ∧
          (u.takeUp l rest).lines[l.val].queue.length ≤ (o :: rest).length ∧
            (s.feedSet → (u.takeUp l rest).feedSet) := by
      intro t ht hm hf u hu huq huf
      obtain ⟨h1, h2, h3⟩ := ih u huq
      obtain ⟨g1, g2, g3⟩ := State.retireHead_lowWater .complete ht
      simp only [Line.mark, Prod.mk.injEq] at hm hu
      simp only [hm.1, hm.2, ← hu.1, ← hu.2] at g1 g2 g3
      refine ⟨h1.after g1 g2 (fun h => huf (g3 h)) h3 h2, by simp only [List.length_cons]; omega, fun h => ?_⟩
      exact h3 (huf (State.retireHead_feedSet _ _ (hf h)))
    have stays : ∀ t : State, t.lines[l.val].queue = o :: rest → t.lines[l.val].mark = s.lines[l.val].mark →
        t.attention = s.attention → s.lines[l.val].LowWaterTaken l (o :: rest).length t ∧
          t.lines[l.val].queue.length ≤ (o :: rest).length ∧ (s.feedSet → t.feedSet) := by
      intro t ht hm ha
      simp only [Line.mark, Prod.mk.injEq] at hm
      exact ⟨.of_same hm.1 (by rw [ht]), by rw [ht], fun h => by unfold State.feedSet; rw [ha]; exact h⟩
    obtain ⟨tag, notify, delay, body⟩ := o
    cases body with
    | context cv priority =>
      refine step ((s.modLine l fun r => { r with cv := cv, priority := priority, progress := none }).evaluate)
        ?_ ?_ (by simp [State.feedSet]) _ (by simp) ?_ (by simp [State.feedSet])
      · rw [State.evaluate_queue, State.modLine_queue, hq]
        intro; rfl
      · rw [State.evaluate_mark, State.modLine_mark]
        intro; rfl
      · simp only [State.addEvent_frame]
        apply State.retireHead_queue
        rw [State.evaluate_queue, State.modLine_queue, hq]
        intro; rfl
    | rate target ramp hold =>
      unfold State.takeUp
      dsimp only
      by_cases ho : s.lines[l.val].state = .opened
      · rw [if_pos ho]
        generalize decide (ramp = 0 ∨ s.lines[l.val].requested = target) = reached
        have hq' : ((s.modLine l fun r =>
            { r with
              progress := some (freshProgress r s.floorTime reached)
              requested := if reached then target else r.requested }).evaluate).lines[l.val].queue =
            ⟨tag, notify, delay, .rate target ramp hold⟩ :: rest := by
          rw [State.evaluate_queue, State.modLine_queue, hq]
          intro; rfl
        have hm : ((s.modLine l fun r =>
            { r with
              progress := some (freshProgress r s.floorTime reached)
              requested := if reached then target else r.requested }).evaluate).lines[l.val].mark =
            s.lines[l.val].mark := by
          rw [State.evaluate_mark, State.modLine_mark]
          intro; rfl
        by_cases hc : reached = true ∧ hold = 0 ∧ rest ≠ []
        · rw [if_pos hc]
          exact step _ hq' hm (by simp [State.feedSet]) _ rfl (State.retireHead_queue _ hq') id
        · rw [if_neg hc]
          exact stays _ hq' hm (by simp)
      · rw [if_neg ho]
        exact stays _ hq rfl rfl
    | batch slots revs mass =>
      unfold State.takeUp
      dsimp only
      split
      · refine stays _ ?_ ?_ ?_
        · rw [State.evaluate_queue, ← hq]
          cases batchOf l <;> exact State.modLine_queue s l _ fun _ => rfl
        · rw [State.evaluate_mark]
          cases batchOf l <;> exact State.modLine_mark s l _ fun _ => rfl
        · cases batchOf l <;> simp
      · exact stays _ hq rfl rfl

/-- A head that completes, with the orders that follow it at once. -/
theorem State.completeHead_lowWater {s : State} {l : Fin 6} {o : Order} {rest : List Order}
    (hq : s.lines[l.val].queue = o :: rest) : s.lines[l.val].LowWaterTaken l (o :: rest).length (s.completeHead l) := by
  have hr := State.retireHead_queue .complete hq
  obtain ⟨g1, g2, g3⟩ := State.retireHead_lowWater .complete hq
  obtain ⟨h1, h2, h3⟩ := State.takeUp_lowWater l rest _ hr
  have e := ((s.retireHead l .complete).takeUp l rest).evaluate_mark l
  simp only [Line.mark, Prod.mk.injEq] at e
  unfold State.completeHead
  dsimp only
  rw [hr]
  exact (h1.after g1 g2 g3 h3 h2).congr e.1 (State.evaluate_queue _ _) (by simp [State.feedSet])

end Sys2Proof.Machine
end

