-- ==== Sys2Proof/Tests/Slice0.lean ====
section
/-! SUPPORT. Own tests: the checks of WellFormed, a few single steps against values of the spec, and for each statement a
state and operands that meet the hypotheses of its clauses. -/

namespace Sys2Proof.Tests

open Sys2Proof.Machine

-- One theorem at a time: a thread for each theorem would meet the memory limit of the check.
set_option Elab.async false

/-! ### WellFormed refuses, check by check -/

def someOrder : OrderFields := { kind := 0, tag := 1, flags := 1, at4 := 6000, at6 := 0, at8 := 60 }

theorem test_posts_of_0_and_5_orders_ill_formed :
    (Instr.postOrders 0 1 []).wellFormed = false ∧
      (Instr.postOrders 0 1 (List.replicate 5 someOrder)).wellFormed = false ∧
        (Instr.postOrders 0 1 [someOrder]).wellFormed = true := by decide

theorem test_schedules_of_0_and_5_times_ill_formed :
    (Instr.setSchedule 0 []).wellFormed = false ∧ (Instr.setSchedule 0 [1, 2, 3, 4, 5]).wellFormed = false ∧
      (Instr.setSchedule 0 [360, 840]).wellFormed = true := by decide

theorem test_target_byte_1_is_the_class_form :
    (Instr.acknowledgePoint 0 1 5).wellFormed = false ∧ (Instr.acknowledgePoint 0 2 5).wellFormed = true := by decide

theorem test_kind_byte_1_is_the_warm_form :
    (Instr.restartCold 0 1).wellFormed = false ∧ (Instr.restartCold 0 2).wellFormed = true := by decide

theorem test_known_type_is_not_unknown :
    (Instr.unknownTypeRequest 0x60 0).wellFormed = false ∧ (Instr.unknownTypeRequest 0x7F 0).wellFormed = true := by
  decide

theorem test_right_length_is_not_bad :
    (Instr.badLengthRequest 0x07 0 1).wellFormed = false ∧ (Instr.badLengthRequest 0x07 0 0).wellFormed = true := by
  decide

theorem test_no_word_spells_a_command : decodeTableWord 8 0 = none ∧ decodeTableWord 32 5 = none := by decide

/-! ### Values of the spec -/

theorem test_crc_check_value :
    crc16 [0x31#8, 0x32#8, 0x33#8, 0x34#8, 0x35#8, 0x36#8, 0x37#8, 0x38#8, 0x39#8] = 0x29B1#16 := by decide +kernel

/-- The state after a command, `s` itself where it gives none. -/
def after (c : Instr) (s : State) : State :=
  match exec c s with
  | .next t => t
  | .fault _ => s
  | .refused _ => s

/-- The payload of the frame being sent. -/
def sent (s : State) : List Byte := (s.link.sending.map Frame.payload).getD []

/-- The part with nothing being sent. -/
def quiet : State := { State.reset with link := { State.reset.link with sending := none } }

theorem test_first_frame_after_reset_is_attention : State.reset.link.sending = some .attention := by decide +kernel

theorem test_ping_reply :
    sent (after (.ping 7) quiet) = [0x00, 0x0D, 0x4C, 0x10, 0xA4, 0x01, 0x01, 0, 0, 0, 0, 0, 0] := by decide +kernel

theorem test_lockout_is_left :
    (after (.resetLockout 1) quiet).burner.state = .idle ∧ sent (after (.resetLockout 1) quiet) = [0x00] := by
  decide +kernel

theorem test_purge_refused_in_lockout : sent (after (.startPurge 1) quiet) = [0x04, 0x00] := by decide +kernel

theorem test_read_attention_disarms :
    (sent (after (.readAttention 1) quiet)).take 2 = [0x00, 0x82] ∧
      (after (.readAttention 1) quiet).attention = { request := 0x82, arm := 0x7D, owed := false } := by decide +kernel

theorem test_pin_resets :
    (after .resetPinRelease (after .resetPinAssert State.reset)).restartCause = .coldPin ∧
      (after .resetPinRelease (after .resetPinAssert State.reset)).link = State.reset.link := by decide +kernel

theorem test_first_index_pulse_is_held :
    (after .indexPulse quiet).field.rotation = { turning := false, last := some 0, stopAt := some 120000, period := none } := by
  decide +kernel

theorem test_time_passes_on_an_empty_queue : (match step quiet with | .next t => t.floorTime | _ => 0) = 1 := by decide +kernel

/-! ### States that meet the hypotheses of the statements

Each state changes the state after reset in what the clause asks for. -/

/-- The burner in a state, at floor time 1 000 000. -/
def burnerIn (st : BurnerState) (f : Burner → Burner) : State :=
  { quiet with floorTime := 1000000, burner := f { quiet.burner with state := st } }

/-- L1, or L5, in a state, the burner in MAIN_FIRING. -/
def lineIn (l : Fin 6) (f : Line → Line) : State := (burnerIn .mainFiring id).modLine l f

def inputOn (n : Fin 24) (s : State) : State :=
  s.modField fun f => { f with inputs := upd f.inputs n fun _ => { raw := true, level := true, dueAt := none } }

def recordsOk (s : State) : State := s.modField fun f => { f with records := mapAt f.records fun _ d => { d with state := .ok } }

def locked (s : State) : State := s.modLink fun l => { l with locks := Vector.replicate 7 true }

/-- The eight permissives met in IDLE. -/
def purgeable : State :=
  let s := locked (recordsOk ([1, 4, 5, 6, 7, 8, 9, 16].foldl (fun s n => inputOn n s) (burnerIn .idle id)))
  let s := (s.modCooler fun c => { c with state := .running }).modField fun f => { f with rotation := { f.rotation with turning := true } }
  s.modField fun f => { f with channels := upd f.channels 0 fun _ => { value := 700, quality := .good } }

def someRate : Order := { tag := 1, notify := true, delay := false, body := .rate 6000 60000 0 }
def someHold : Order := { tag := 2, notify := true, delay := true, body := .rate 6000 0 1 }
def someContext : Order := { tag := 3, notify := false, delay := false, body := .context 25000 4 }
def someBatch : Order := { tag := 4, notify := true, delay := false, body := .batch 5 2 80 }

def someProgress : Progress :=
  { startTime := 999000, rampStart := 0, rampDone := 0, holdStart := none, delivered := 0, cut := false, deviation := false }

def someSlot (phase : SlotPhase) : Slot := { number := 1, phase := phase, endsAt := 1000000, openedAt := 998000, credit := 0 }

theorem test_witness_StepTakesFrontCommand :
    (quiet.pending = [] ∧ quiet.dueEvents = [] ∧ quiet.supplyLow = false) ∧
      (({ quiet with floorTime := 1000 } : State).dueEvents ≠ [] ∧ ({ quiet with floorTime := 1000 } : State).pending = []) ∧
        (({ quiet with supplyLow := true } : State).dueEvents = [] ∧
          ({ quiet with supplyLow := true } : State).supplyLow = true) := by decide +kernel

theorem test_witness_CommandFrame :
    exec (.ping 0) quiet = .next (after (.ping 0) quiet) ∧ resets (.ping 0) = false ∧ writesSettings (.ping 0) = false ∧
      bringsSignal (.ping 0) = false := ⟨by unfold after exec; rfl, by decide, by decide, by decide⟩

theorem test_witness_link :
    (quiet.Ready ∧ requestOf? (.ping 0) = some (0x60, 0)) ∧
    -- RequestWhileUnanswered
    (({ quiet with link := { quiet.link with unanswered := true } } : State).link.unanswered = true ∧
      quiet.resetRun = none ∧ quiet.link.silent = false ∧ (requestOf? (.ping 0)).isSome = true ∧
      ({ quiet with link := { quiet.link with unanswered := true, silent := true } } : State).link.silent = true) ∧
    -- ResetHoldsCommands
    ((after .resetPinAssert quiet).resetRun.isSome = true ∧ resets .indexPulse = false) ∧
    -- ReplySent: an idle line, and a line on which a frame is being sent
    (quiet.link.sending = none ∧ quiet.link.waiting = []) ∧ State.reset.link.sending = some .attention ∧
    -- FrameEnds, with and without a waiting frame
    ((State.reset.link.sending = some .attention ∧ State.reset.link.waiting = [] ∧ State.reset.resetRun = none) ∧
      ({ State.reset with link := { State.reset.link with waiting := [.attention] } } : State).link.waiting = [.attention] ∧
        Frame.attention.reply = false) := by decide +kernel

/-- DiscardsCounted: a frame in progress whose gap is over and one whose gap is not, a request that comes too early, and
READ STATUS. -/
theorem test_witness_DiscardsCounted :
    let held (now : Nat) : State :=
      { quiet with floorTime := now, link := { quiet.link with receiver := .inFrame [5] 1000 } }
    (quiet.resetRun = none ∧ quiet.Ready) ∧
      (.frameGapTimeout ∉ (held 1020).dueEvents ∧ .frameGapTimeout ∈ (held 1021).dueEvents) ∧
      ((after .frameGapTimeout (held 1021)).link.receiver = .hunting ∧
        (after .frameGapTimeout (held 1021)).link.discarded = 1) ∧
      ((requestOf? (.ping 0)).isSome = true ∧
        ({ quiet with link := { quiet.link with unanswered := true } } : State).link.unanswered = true) := by
  decide +kernel

/-- A PING frame of tag 7 on the line (Table 11-2). -/
def pingFrame : List Byte := Frame.bytes { type := 0x60, tag := 7, payload := [], reply := false }

/-- R168: a frame whose bytes come 20 ms apart spells its request; a gap of 21 ms ends it, and what follows is hunted
through. Bytes outside a frame count nothing, and a bad length ends a frame at once. -/
theorem test_receiver_gap :
    pingFrame.take 4 = [0xC3, 0x02, 0x60, 0x07] ∧ pingFrame.length = 6 ∧
      receiveAll .hunting ((pingFrame.mapIdx fun k b => (20 * k, b))) = [.ping 7] ∧
      receiveAll .hunting ((pingFrame.mapIdx fun k b => (if k < 3 then 0 else 21, b))) = [.frameGapTimeout] ∧
      receiveAll .hunting [(0, 0x00), (0, 0x5A)] = [] ∧ receiveAll .hunting [(0, 0xC3), (0, 0x01)] = [.frameDiscarded] ∧
      receiveScans .hunting [(0, 0x5A), (5, 68), (11, 0)] = [.scanGapTimeout] := by decide +kernel

/-- The same at the part: each byte is heard while no command waits, and a frame left unfinished ends at its gap. -/
theorem test_bytes_heard :
    (pingFrame.foldl State.hearByte quiet).pending = [.ping 7] ∧
      (let s := (pingFrame.take 3).foldl State.hearByte quiet
       s.pending = [] ∧ s.link.receiver = .inFrame [0x02, 0x60] 0 ∧
        (.frameGapTimeout ∈ ({ s with floorTime := 21 } : State).dueEvents)) := by decide +kernel

def somePeek : State := after (.peekShift 0) quiet

theorem test_witness_reads :
    quiet.Ready ∧ somePeek.taken.shift.peek = some quiet.snapshot ∧ quiet.taken.shift.peek = none ∧
      (96 : Byte).toNat = (95 : Fin 96).val + 1 ∧ (97 : Byte).toNat = 97 ∧
      (stored (after (.closeShift 0) quiet).taken.shift.store (1 : BitVec 32).toNat).isSome = true ∧
      (∀ r ∈ quiet.taken.shift.store, r.shift.sequence ≠ (1 : BitVec 32).toNat) ∧
      (6 : Byte).toNat = (5 : Fin 6).val + 1 := by decide +kernel

theorem test_witness_RequestEventAndValveCommand :
    quiet.valveOpen 0 = false ∧ quiet.valveOpen 0 ≠ true ∧ quiet.shift.current.events.length < 48 := by decide +kernel

theorem test_witness_locks :
    (locked quiet).Ready ∧ (∀ g : Fin 7, (locked quiet).taken.link.locks[g] = true) ∧
      (∀ g : Fin 7, quiet.taken.link.locks[g] = false) ∧ quiet.taken.burner.state = .lockout ∧
      (burnerIn .pilot id).taken.burner.state ≠ .lockout ∧ (burnerIn .pilot id).taken.burner.state ≠ .idle ∧
      (6 : Byte).toNat < 7 ∧ 7 ≤ (7 : Byte).toNat := by decide +kernel

/-- Settings at the ends of their ranges. -/
def burnerFields (ffrt : Byte) : BurnerFields :=
  { voting := 1, ffrt := ffrt, purgeTime := 900, purgeAir := 100, minAir := 0, ignitionTrial := 15, mainTrial := 30,
    lightOffAxial := 400, lightOffSwirl := 0, toleranceAxial := 20, toleranceSwirl := 0, stepRateAxial := 3,
    stepRateSwirl := 0 }
def envelopeFields (pct : Byte) : EnvelopeFields :=
  { nominalHeat := 666666, maxHeat := 1000, lightOffHeat := 0, lightOffRamp := 60000, satLowLimit := 1500,
    satCeilingPct := pct, surgeCutback := 50 }
def coolerFields (release : BitVec 16) : CoolerFields :=
  { fanStartDelay := 10, fanRunOn := 600, fanMinSpeed := Vector.replicate 12 1000, fanThreshold := Vector.replicate 12 0,
    boostSpeed := 1000, bedBase := 300, bedGain := 100, bedSetpoint := 500, bedMin := 300, bedMax := 300, surgeRise := 1,
    surgeWindow := 30, surgeLevel := 1, releaseLevel := release, releaseTime := 10, surgeRate := 300, blasterRevs := 1,
    blasterInterval := 60 }
def fieldFields (proof : Byte) : FieldFields :=
  { debounce := Vector.replicate 23 250, scanPeriod := 2000, kilnStopTime := 30, valveProofTime := proof }
def lineFields (kind : Byte) (maxRate : BitVec 16) : LineFields :=
  { kind := kind, maxRate := maxRate, minRate := 0, gramsPerPulse := 1, shutRamp := 60000, deviationLimit := 50,
    deviationTime := 5, lowWater := 15, noticeDelay := 255, gateDelay := 10 }
def alarmFields (source cls : Byte) : AlarmFields :=
  { source := source, signal := 24, limit := 0x8000, direction := 1, deadband := 32767, level := 1, cls := cls,
    onDelay := 60, offDelay := 0, group := 9, cutBack := 10 }

/-- Scanner A alone: present by 1-of-2, absent once SET BURNER gives 2-of-2, and READ BURNER sends DI3, DI4 and that vote
(R13, R23). -/
theorem test_voting_change_votes_again :
    let alone := (inputOn 2 quiet).voteFlame
    let both := after .frameSendEnd (after (.setBurner 1 (burnerFields 4)) alone)
    let voted (s : State) := ((sent (after (.readBurner 2) s)).drop 15).take 3
    alone.burner.flame = true ∧ voted alone = [1, 0, 1] ∧ both.burner.flame = false ∧ voted both = [1, 0, 0] := by
  decide +kernel

theorem test_witness_settings :
    (burnerSettings (burnerFields 4)).isSome = true ∧ burnerSettings (burnerFields 5) = none ∧
      (envelopeSettings (envelopeFields 10)).isSome = true ∧ envelopeSettings (envelopeFields 9) = none ∧
      (coolerSettings (coolerFields 0)).isSome = true ∧ coolerSettings (coolerFields 1) = none ∧
      (fieldSettings (fieldFields 100)).isSome = true ∧ fieldSettings (fieldFields 101) = none ∧
      -- changed BED settings with the timer running and the bed mean present
      (let s := quiet.modCooler fun c => { c with bedAt := some 0, bedMean := some 100 }
       s.taken.cooler.bedAt ≠ none ∧ s.taken.cooler.bedMean = some 100 ∧
        (coolerFields 0).bedBase.toNat ≠ s.taken.cooler.cfg.bedBase) ∧
      (quiet.taken.cooler.bedAt = none ∨ quiet.taken.cooler.bedMean = none) ∧
      (666666 : BitVec 32).toNat ≤ 666666 ∧ 666666 < (666667 : BitVec 32).toNat := by decide +kernel

/-- SET DIAG MASKS with FAN 1's motion check masked before, its failing condition held; and with nothing failing. -/
theorem test_witness_FieldSettingsWritten :
    let s := (quiet.modCooler fun c => { c with chambers := upd c.chambers 0 fun k => { k with lowExpired := true } }).modField
      fun f => { f with motionCheck := false }
    let all : BitVec 32 := 0x03FFFFFF
    s.Ready ∧ s.taken.link.locks[(5 : Fin 7)] = false ∧ s.taken.failing (recordOfFan 0) = some .noMotion ∧
      all.getLsbD (recordOfFan 0).val = true ∧ all.getLsbD 25 = true ∧
      s.taken.checkApplies (recordOfFan 0) .noMotion = false ∧
      (s.taken.remask all).record (recordOfFan 0) = .fault (FaultKinds.none.add .noMotion) ∧
      (∀ r, quiet.taken.failing r = none) := by decide +kernel

theorem test_witness_LineConfigured :
    (lineSettings 4 (lineFields 1 60000)).isSome = true ∧ lineSettings 3 (lineFields 1 60000) = none ∧
      quiet.taken.lines[4].state = .shut ∧ quiet.taken.lines[4].queue = [] ∧
      (lineIn 4 fun r => { r with state := .opened }).taken.lines[4].state ≠ .shut ∧
      (lineIn 0 fun r => { r with queue := [someRate] }).taken.lines[0].queue = [someRate] ∧
      someRate.body = .rate 6000 60000 0 ∧ (5999 : BitVec 16).toNat < 6000 ∧
      -- a change of kind on L5: the batch record of L5, and not that of L6
      quiet.taken.lines[4].cfg.kind ≠ .batch ∧ lineOfBatch 0 = 4 ∧ lineOfBatch 1 ≠ 4 := by decide +kernel

theorem test_witness_alarms_defined :
    quiet.taken.alarm.points[95].state = .disabled ∧ quiet.taken.alarm.points[0].state ≠ .disabled ∧
      (pointDef 16 (alarmFields 0 3)).isSome = true ∧ (pointDef 16 (alarmFields 1 3)).isSome = true ∧
      pointDef 16 (alarmFields 2 3) = none ∧ pointDef 16 (alarmFields 1 4) = none ∧
      (pointDef 4 (alarmFields 0 1)).isSome = true ∧ pointDef 4 (alarmFields 0 2) = none ∧
      pointDef 7 (alarmFields 0 1) = none ∧ quiet.taken.alarm.silenceTime = 0 ∧
      (after (.setAlarm 0 5 10 60) quiet).alarm.silenceTime ≠ 0 ∧ (50 : Byte).toNat ≤ 50 ∧ (600 : BitVec 16).toNat ≤ 600 := by
  decide +kernel

/-- One field past its range at a time: the direction and the level whichever the source is. -/
theorem test_witness_alarm_definition_ranges :
    pointDef 16 { alarmFields 0 3 with signal := 0 } = none ∧ pointDef 16 { alarmFields 0 3 with signal := 33 } = none ∧
      pointDef 16 { alarmFields 1 3 with signal := 25 } = none ∧
      pointDef 16 { alarmFields 0 3 with deadband := 0x8000 } = none ∧
      (pointDef 16 { alarmFields 1 3 with deadband := 0x8000 }).isSome = true ∧
      (∀ source ∈ [(0 : Byte), 1],
        pointDef 16 { alarmFields source 3 with direction := 2 } = none ∧
          pointDef 16 { alarmFields source 3 with level := 2 } = none) := by decide +kernel

theorem test_witness_schedule_and_clock_values :
    ([0, 1439] : List Nat).Pairwise (· < ·) ∧ ([0, 1439] : List (BitVec 16)).all (fun t => t.toNat ≤ 1439) = true ∧
      ¬([5, 5] : List Nat).Pairwise (· < ·) := by decide

theorem test_witness_clock_values :
    (clockTime { year := 96, month := 2, day := 29, hour := 23, minute := 59, second := 59 }).isSome = true ∧
      clockTime { year := 97, month := 2, day := 29, hour := 23, minute := 59, second := 59 } = none := by decide +kernel

/-- The part with 48 events in its current shift. -/
def eventsFull : State :=
  quiet.modShift fun h =>
    { h with current := { h.current with events := List.replicate 48 { time := 0, kind := .ignition } } }

theorem test_witness_shift_events :
    quiet.taken.shift.current.events.length < 48 ∧ 48 ≤ eventsFull.taken.shift.current.events.length := by decide +kernel

theorem test_witness_LockoutReset :
    quiet.taken.burner.state = .lockout ∧ quiet.taken.burner.firstOut.isSome = true ∧ quiet.taken.di 0 = false ∧
      (∀ i : Fin 96, quiet.taken.alarm.points[i].defn.cls ≠ .trip) ∧ (inputOn 0 quiet).taken.di 0 = true ∧
      (burnerIn .idle id).taken.burner.state ≠ .lockout := by decide +kernel

theorem test_witness_PurgeStarted :
    purgeable.Ready ∧ purgeable.taken.burner.state = .idle ∧ purgeable.taken.permissives.all id = true ∧
      (burnerIn .idle id).taken.permissives.all id = false ∧ quiet.taken.burner.state ≠ .idle ∧
      (∀ a : Fin 2, purgeable.taken.burner.actuators[a].position = none ∧ purgeable.taken.di (homeOf a) = false) ∧
      (purgeable.modActuator 0 fun r => { r with position := some 400 }).taken.burner.actuators[0].position = some 400 ∧
      (inputOn 17 purgeable).taken.di (homeOf 0) = true ∧ (inputOn 17 purgeable).taken.permissives.all id = true := by
  decide +kernel

theorem test_witness_LockoutEntered :
    (burnerIn .pilot id).taken.burner.state ≠ .lockout ∧ quiet.taken.burner.state = .lockout ∧
      (let s := burnerIn .ignition fun b => { b with ignitionTrialAt := some 1000000, airLossAt := some 1000000 }
       s.resetRun = none ∧ s.burner.ignitionTrialAt = some 1000000 ∧ 1000000 ≤ s.floorTime ∧ s.burner.state = .ignition ∧
        s.burner.airLossAt = some 1000000) ∧
      (let s := burnerIn .mainTrial fun b =>
        { b with flameLossAt := some 1000000, mainTrialAt := some 1000000, flame := false }
       s.burner.state = .mainTrial ∧ s.burner.flameLossAt = some 1000000 ∧ s.burner.mainTrialAt = some 1000000 ∧
        (∀ l : Fin 6, s.lines[l].state ≠ .opened) ∧ s.burner.flame = false) ∧
      (∀ b : Fin 2, quiet.batches[b].slot = none) := by decide +kernel

theorem test_witness_BurnerStops :
    (∀ st ∈ [BurnerState.lockout, .idle, .stopping, .purge, .prepare, .ignition, .pilot, .mainTrial, .mainFiring],
      (burnerIn st id).taken.burner.state = st) ∧
      (burnerIn .mainFiring id).Ready ∧ (∀ l : Fin 6, (burnerIn .mainFiring id).taken.lines[l].state = .shut) ∧
      (lineIn 0 fun r => { r with state := .opened }).taken.lines[0].state ≠ .shut ∧
      (burnerIn .pilot fun b => { b with pilotHoldAt := some 1000000 }).burner.pilotHoldAt = some 1000000 ∧
      (burnerIn .purge fun b => { b with giveUpAt := some 1000000 }).burner.giveUpAt = some 1000000 := by decide +kernel

theorem test_witness_watchLines :
    (∀ l : Fin 6, (burnerIn .mainFiring id).lines[l].state = .shut) ∧ (burnerIn .stopping id).burner.state = .stopping ∧
      (lineIn 5 fun r => { r with state := .shutting }).lines[5].state = .shutting ∧
      (burnerIn .mainFiring id).watchLines.burner.lastStop = some .noFuel ∧
      (burnerIn .stopping id).watchLines.burner.lastStop = some .stopRequest := by decide +kernel

theorem test_witness_PurgeCompletesAndFlameProves :
    (let s := burnerIn .purge fun b => { b with purgeSince := some 700000 }
     s.resetRun = none ∧ s.burner.state = .purge ∧ s.burner.purgeSince = some 700000 ∧
      700000 + s.burner.cfg.purgeTime * 1000 ≤ s.floorTime) ∧
      (let s := burnerIn .ignition fun b => { b with flameProofAt := some 1000000 }
       s.burner.state = .ignition ∧ s.burner.flameProofAt = some 1000000 ∧ 1000000 ≤ s.floorTime) := by decide +kernel

/-- In PURGE with its eight conditions met; each watch of the burner runs in some state and is stopped in some state. -/
theorem test_witness_watchBurner :
    (let s := purgeable.modBurner fun b =>
      { b with
        state := .purge, actuators := mapAt b.actuators fun _ a => { a with position := some 400, verify := .verified } }
     s.purgeCounts = true ∧ s.watchBurner.burner.purgeSince = some 1000000) ∧
      (burnerIn .purge id).purgeCounts = false ∧
      (burnerIn .ignition fun b => { b with flame := true }).watchBurner.burner.flameProofAt = some 1002000 ∧
      (burnerIn .pilot id).watchBurner.burner.flameLossAt = some 1002000 ∧
      (burnerIn .stopping id).watchBurner.burner.flameLossAt = none ∧
      (burnerIn .stopping id).watchBurner.burner.airLossAt = some 1003000 ∧
      (burnerIn .idle id).watchBurner.burner.airLossAt = none := by decide +kernel

theorem test_witness_MainFlameLit :
    (let s := recordsOk ((burnerIn .pilot id).modLine 0 fun r => { r with queue := [someRate] })
     s.Ready ∧ s.taken.burner.state = .pilot ∧ s.taken.lines[0].state = .shut ∧
      s.taken.record (recordOfValve (svOf 0)) = .ok ∧ s.taken.lines[0].queue = [someRate] ∧
      (1 : Byte).getLsbD 0 = true ∧ (∀ l : Fin 6, (1 : Byte).getLsbD l.val = true → l = 0)) ∧
      (let s := (burnerIn .mainTrial fun b => { b with mainTrialAt := some 1000000, flame := true }).modLine 0 fun r =>
        { r with state := .opened }
       s.burner.mainTrialAt = some 1000000 ∧ s.lines[0].state = .opened ∧ s.burner.flame = true ∧ s.resetRun = none) ∧
      (let s := burnerIn .mainFiring fun b => { b with rampFrom := some 999000, rampDone := 0 }
       s.burner.rampFrom = some 999000 ∧ 1 = (s.floorTime - 999000) / 1000 ∧ s.burner.rampDone < 1) ∧
      (63 : Byte).toNat < 64 ∧ 64 ≤ (64 : Byte).toNat := by decide +kernel

/-- The actuator AXIAL free for the host, in IDLE. -/
def free (f : Actuator → Actuator) : State :=
  (burnerIn .idle id).modActuator 0 fun r => f { r with owner := .none, position := some 100 }

theorem test_witness_ActuatorRequests :
    (free id).Ready ∧ quiet.taken.burner.actuators[0].owner = .sequence ∧
      (free id).taken.burner.actuators[0].owner ≠ .sequence ∧ (free id).taken.burner.state ≠ .lockout ∧
      (free id).taken.burner.actuators[0].motion = .still ∧
      (free fun r => { r with motion := .moving }).taken.burner.actuators[0].motion ≠ .still ∧
      (free fun r => { r with position := none }).taken.burner.actuators[0].position = none ∧
      (free id).taken.di (homeOf 0) = false ∧ (inputOn 17 (free id)).taken.di (homeOf 0) = true ∧
      ((-50 : BitVec 8).toInt.natAbs ≤ 50 ∧ (50 : Int) = 100 + (-50 : BitVec 8).toInt) ∧
      50 < (51 : BitVec 8).toInt.natAbs ∧ (400 : BitVec 16).toNat ≤ 400 := by decide +kernel

theorem test_witness_ActuatorWork :
    (let s := free fun r => { r with motion := .moving, target := some 101, dueAt := some 1000000 }
     s.resetRun = none ∧ s.burner.actuators[0].position = some 100 ∧ s.burner.actuators[0].target = some 101 ∧
      s.burner.actuators[0].dueAt = some 1000000 ∧ 1000000 ≤ s.floorTime) ∧
      (let s := free fun r => { r with motion := .homing, homeSteps := 439, dueAt := some 1000000 }
       s.burner.actuators[0].motion = .homing ∧ s.burner.actuators[0].homeSteps < 440) ∧
      440 ≤ (free fun r => { r with motion := .homing, homeSteps := 440 }).burner.actuators[0].homeSteps ∧
      (let s := (free fun r => { r with motion := .settling, dueAt := some 1000000 }).modField fun f =>
        { f with channels := upd f.channels 28 fun _ => { value := 106, quality := .good } }
       (s.ai (feedbackOf 0)).quality = .good ∧
        ((s.ai (feedbackOf 0)).value - 100).natAbs ≤ s.burner.cfg.tolerance[0] ∧ s.burner.state ≠ .prepare) ∧
      (let s := (burnerIn .prepare id).modActuator 1 fun r => { r with verify := .verified }
       s.burner.state = .prepare ∧ s.burner.actuators[1].motion = .still ∧ s.burner.actuators[1].verify = .verified) ∧
      (quiet.ai (feedbackOf 0)).quality ≠ .good := by decide +kernel

theorem test_witness_watchHome :
    (let s := inputOn 17 (free fun r => { r with motion := .homing })
     s.burner.actuators[0].motion = .homing ∧ s.di (homeOf 0) = true ∧ s.burner.state ≠ .purge) ∧
      (let s := inputOn 17 ((burnerIn .purge id).modActuator 0 fun r => { r with motion := .homing, owner := .sequence })
       s.burner.actuators[0].motion = .homing ∧ s.burner.state = .purge ∧ s.burner.actuators[0].owner = .sequence ∧
        (s.watchHome 0).burner.actuators[0].target = some 400) := by decide +kernel

theorem test_witness_OrdersPosted :
    (burnerIn .idle id).Ready ∧ (burnerIn .idle id).taken.burner.state ≠ .lockout ∧
      quiet.taken.burner.state = .lockout ∧ (feedOrder LineSettings.default someOrder).isSome = true ∧
      feedOrder LineSettings.default { someOrder with at4 := 20001 } = none ∧
      (lineIn 0 fun r => { r with queue := List.replicate 16 someRate }).taken.lines[0].queue.length + 1 = 17 ∧
      (let s := lineIn 0 fun r => { r with queue := List.replicate 12 someHold, progress := some someProgress }
       s.taken.lines[0].queue ≠ [] ∧ s.taken.lines[0].openEnded = false ∧ s.taken.lines[0].queue.length + 4 ≤ 16) ∧
      ((burnerIn .idle id).taken.lines[0].queue = [] ∧ (burnerIn .idle id).taken.lines[0].state ≠ .opened) ∧
      (let s := lineIn 0 fun r => { r with state := .opened }
       s.taken.lines[0].queue = [] ∧ s.taken.lines[0].state = .opened ∧ someOrder.kind = 0 ∧ someOrder.at6 = 0) ∧
      -- a CONTEXT order of priority 8 posted to an empty queue
      (feedOrder LineSettings.default { someOrder with kind := 1, at4 := 40000, at6 := 0x0800 }).map Order.body =
        some (.context 40000 8) := by
  decide +kernel

theorem test_witness_lines_cleared_opened_and_shut :
    (lineIn 5 fun r => { r with state := .opened, queue := [someRate, someContext] }).taken.lines[5].queue =
        [someRate, someContext] ∧
      quiet.taken.lines[5].queue = [] ∧ quiet.taken.burner.state ≠ .mainFiring ∧
      (let s := recordsOk (lineIn 0 fun r => { r with queue := [someRate] })
       s.Ready ∧ s.taken.burner.state = .mainFiring ∧ s.taken.lines[0].state = .shut ∧
        s.taken.record (recordOfValve (svOf 0)) = .ok ∧ s.taken.lines[0].queue = [someRate]) ∧
      (recordsOk (lineIn 0 id)).taken.lines[0].queue = [] ∧
      (∀ st ∈ [LineState.shut, .admitting, .opened, .shutting, .fault],
        (lineIn 0 fun r => { r with state := st }).taken.lines[0].state = st) ∧
      (lineIn 0 fun r => { r with state := .opened, requested := 6000 }).taken.lines[0].requested ≠ 0 := by decide +kernel

/-- LowWaterTaken: a fall that reaches the mark, one that stops above it, and none; by a post, a shut, the end of a ramp and
the end of a hold. -/
theorem test_witness_low_water :
    let marked (n : Nat) (f : Line → Line) : State :=
      lineIn 0 fun r => f { r with state := .opened, cfg := { r.cfg with lowWater := n } }
    let held : Line → Line := fun r =>
      { r with
        queue := [someHold, someHold], progress := some { someProgress with rampDone := 1, holdStart := some 999000 } }
    let low (s : State) : Bool := s.lines[(0 : Fin 6)].lowWaterFlag
    -- three CONTEXT orders and a RATE order pass through a mark of 2 and 1, and never stand at 4
    (low ((marked 2 id).post 0 [someContext, someContext, someContext, someHold]) = true ∧
      low ((marked 1 id).post 0 [someContext, someContext, someContext, someHold]) = true ∧
      low ((marked 4 id).post 0 [someContext, someContext, someContext, someHold]) = false ∧
      low ((marked 2 id).post 0 [someHold, someHold]) = false) ∧
      (low ((marked 1 held).beginShut 0) = true ∧ low ((marked 2 held).beginShut 0) = false) ∧
      (low (after (.holdExpiry 0) (marked 1 held)) = true ∧ low (after (.holdExpiry 0) (marked 2 held)) = false) ∧
      low (after (.rateRampTick 0) (marked 1 fun r =>
        { r with
          queue := [{ someRate with body := .rate 1000 60000 0 }, someHold], progress := some someProgress })) = true := by
  decide +kernel

/-- L6 with a BATCH order, its batch record changed by `f`. -/
def batchIn (f : Batch → Batch) : State :=
  (lineIn 5 fun r =>
    { r with
      cfg := { r.cfg with kind := .batch }, state := .opened, queue := [someBatch], progress := some someProgress }).modBatch 1 f

/-- L5 and L6 have batch records 0 and 1. A BATCH order posted to an empty queue of an OPEN line, with and without another
behind it, becomes active. -/
theorem test_witness_batch_activated :
    (batchOf 4 = some 0 ∧ batchOf 5 = some 1 ∧ batchOf 3 = none) ∧
      (let s := (batchIn fun x => { x with fed := 3, opened := 4, indexCount := 9, credit := 7 }).modLine 5 fun r =>
        { r with queue := [], progress := none }
       (s.taken.lines[5].queue = [] ∧ s.taken.lines[5].state = .opened ∧
        (feedOrder s.taken.lines[5].cfg { someOrder with kind := 2, at4 := 0x0502, at6 := 80 }).map Order.body =
          some someBatch.body) ∧
        ∀ q ∈ [[someBatch], [someBatch, someBatch]],
          let t := s.post 5 q
          (t.batches[1].fed, t.batches[1].opened, t.batches[1].indexCount, t.batches[1].credit) = (0, 0, 0, 100) ∧
            (t.lines[5].progress.map Progress.startTime) = some 1000000 ∧ t.lines[5].queue = q) := by decide +kernel

/-- The records of a cleared queue, an order behind with its notice delayed and one at once; and a head whose shut ends it,
with a CONTEXT order and without one behind it. -/
theorem test_witness_completion_records :
    (let s := (lineIn 0 fun r =>
      { r with
        state := .opened, cfg := { r.cfg with noticeDelay := 5 }, queue := [someRate, someContext, someHold]
        progress := some someProgress }).clearQueue 0
     s.lines[0].completions.map (fun c => (c.tag, c.outcome)) = [(1, .abortedClear), (2, .discarded)] ∧
      s.lines[0].completionFlag = true ∧ s.lines[0].noticeAt = some 1000500) ∧
      (((lineIn 0 fun r => { r with state := .opened, queue := [someHold] }).clearQueue 0).lines[0].noticeAt = none) ∧
      (((batchIn fun x => { x with slot := some (someSlot .drop) }).clearQueue 5).lines[5].completions.map
        fun c => (c.outcome, c.delivered, c.counts)) = [(.abortedClear, 80000, some (0, 0, 0))] ∧
      (((lineIn 0 fun r =>
        { r with
          completions := List.replicate 16 (completionOf someHold .discarded none 0 none)
          queue := [someRate] }).clearQueue 0).lines[0].overrun = true) ∧
      (((lineIn 0 fun r => { r with state := .opened, queue := [someRate, someContext, someHold] }).beginShut
        0).lines[0].queue = [someHold]) ∧
      (((lineIn 0 fun r => { r with state := .opened, queue := [someRate, someHold] }).beginShut 0).lines[0].queue =
        [someHold]) ∧
      (((lineIn 0 fun r => { r with state := .opened, queue := [someRate, someContext, someHold] }).beginShut
        0).lines[0].retired = 2) := by decide +kernel

theorem test_witness_some_order_feeds : ∃ o ∈ [someContext, someRate], ∀ cv priority, o.body ≠ .context cv priority :=
  ⟨someRate, by simp, fun _ _ h => by simp [someRate] at h⟩

theorem test_witness_LineRates :
    (let s := lineIn 0 fun r =>
      { r with state := .opened, queue := [someRate, someHold], progress := some someProgress }
     s.resetRun = none ∧ s.lines[0].progress = some someProgress ∧ s.lines[0].queue = [someRate, someHold] ∧
      someProgress.holdStart = none ∧ 1 = (s.floorTime - someProgress.startTime) / 1000 ∧ someProgress.rampDone < 1 ∧
      -- the ramp has not reached its target at this second, and with a target of 1 000 it has
      min 6000 ((60 * 0 + 1 * 60000) / 60) = 1000) ∧
      (let s := lineIn 0 fun r =>
        { r with
          state := .opened, queue := [someHold], progress := some { someProgress with holdStart := some 999000 } }
       s.lines[0].queue = [someHold] ∧ someHold.body = .rate 6000 0 1 ∧ 999000 + 1 * 1000 ≤ s.floorTime) ∧
      (let s := lineIn 0 fun r =>
        { r with state := .shutting, requested := 100, shutRamp := some { since := 999000, rate := 100, done := 0 } }
       s.lines[0].shutRamp = some { since := 999000, rate := 100, done := 0 } ∧
        (60 * 100 - 1 * s.lines[0].cfg.shutRamp) / 60 = 0 ∧ (60 * 101 - 1 * s.lines[0].cfg.shutRamp) / 60 = 1) := by
  decide +kernel

theorem test_witness_LineMeasures :
    (lineIn 0 id).lines[0].cfg.kind = .continuous ∧
      (lineIn 4 fun r => { r with cfg := { r.cfg with kind := .batch } }).lines[4].cfg.kind = .batch ∧
      (lineIn 0 id).shift.current.totals.lines[(0 : Fin 6)].mass + 1000 ≤ 4294967295 ∧
      (lineIn 0 id).floorTime % 1000 = 0 ∧ (lineIn 0 id).lines[0].measuredAt ≠ (lineIn 0 id).floorTime ∧
      (let s := lineIn 0 fun r =>
        { r with state := .opened, commanded := 201, deviationAt := some 1000000, noticeAt := some 1000000 }
       s.lines[0].state = .opened ∧ s.lines[0].deviationAt = some 1000000 ∧ s.lines[0].noticeAt = some 1000000 ∧
        s.lines[0].cfg.deviationLimit * max (10 * s.lines[0].commanded) s.lines[0].cfg.maxRate / 1000 = 200) ∧
      -- R52 truncates once: 34 % of 2 005.9 kg/h
      (let s := lineIn 0 fun r => { r with cfg := { r.cfg with maxRate := 20059, deviationLimit := 34 } }
       deviationBand s.lines[0] = 682) := by
  decide +kernel

theorem test_witness_SlotsRun :
    (batchIn fun x => { x with slot := some (someSlot .drop) }).batches[1].slot ≠ none ∧
      (batchIn id).batches[1].slot = none ∧ (batchIn id).di (readyOf 1) = false ∧
      (inputOn 20 (batchIn id)).di (readyOf 1) = true ∧
      (batchIn id).heat.entries[(5 : Fin 6)].requested = 0 ∧
      -- credit 0 and a share of 100; with 1 kW requested and 0 allowed the share is 0
      min 199 ((batchIn id).batches[1].credit + 100) = 100 ∧ min 100 (0 * 100 / 1) < 100 ∧
      (∀ phase ∈ [SlotPhase.gateDelay, .drop, .settle],
        (batchIn fun x => { x with slot := some (someSlot phase) }).batches[1].slot = some (someSlot phase) ∧
          (someSlot phase).endsAt ≤ (batchIn id).floorTime) ∧
      (batchIn id).resetRun = none ∧
      (batchIn fun x => { x with before := some (480, .good) }).batches[1].before = some (480, .good) ∧
      (batchIn id).lines[5].queue = [someBatch] := by decide +kernel

/-- SlotCounted: a slot that leaves slots to decide, and the last one of an order with nothing, a BATCH order and a CONTEXT
order behind it; the third miss in a row; the abort of each phase; and a charge that carries the shift mass past its
width. -/
theorem test_witness_slots_counted :
    let last (rest : List Order) : State :=
      (batchIn fun x => { x with opened := 4, fed := 4, misses := 2, gateOpen := true }).modLine 5 fun r =>
        { r with queue := someBatch :: rest }
    ((batchIn id).openSlot 1).batches[1].missed = 1 ∧ ((batchIn id).openSlot 1).lines[5].queue = [someBatch] ∧
      (let t := (last []).openSlot 1
       t.lines[5].queue = [] ∧ t.lines[5].emptyFlag = true ∧ t.batches[1].misses = 3 ∧ t.batches[1].batchMissed = true ∧
        t.batches[1].gateOpen = false ∧ t.lines[5].completions.map Completion.counts = [some (4, 1, 0)] ∧
        t.shift.current.totals.lines[5].missed = 1) ∧
      (let t := (last [someBatch]).openSlot 1
       t.lines[5].queue = [someBatch] ∧ t.batches[1].missed = 0 ∧ t.batches[1].credit = 100 ∧ t.batches[1].opened = 0) ∧
      ((last [someContext]).openSlot 1).lines[5].retired = 2 ∧
      (∀ phase ∈ [SlotPhase.gateDelay, .drop, .settle],
        ((batchIn fun x => { x with slot := some (someSlot phase) }).abortSlot 5).batches[1].last.map SlotRecord.mass =
          some (if phase = .gateDelay then none else some 80000)) ∧
      (let full : State := (batchIn fun x => { x with slot := some (someSlot .settle) }).modLineTotals 5 fun t =>
        { t with mass := 4294967295, fed := 6, aborted := 6 }
       (after (.batchSettleEnd 1) full).shift.current.totals.lines[5].fed = 1 ∧
        (full.abortSlot 5).shift.current.totals.lines[5].aborted = 1 ∧
        (full.abortSlot 5).shift.current.totals.lines[5].mass = 80000 ∧
        (full.abortSlot 5).shift.store.length = 1) ∧
      (let s := (lineIn 5 fun r => { r with state := .admitting, queue := [someBatch] }).openLine 5
       s.lines[5].progress.isSome = true ∧ s.batches[1].credit = 100) := by decide +kernel

/-- Two lines that ask for more than the ceiling in force, the margins sufficing or not. -/
def asking (ceiling floor : Nat) : State :=
  (((lineIn 0 fun r => { r with state := .opened, requested := 3600, cfg := { r.cfg with minRate := floor } }).modLine 1 fun r =>
    { r with state := .opened, requested := 3600, priority := 1, cfg := { r.cfg with minRate := floor } }).modHeat fun h =>
    { h with operator := some ceiling })

theorem test_witness_HeatShared :
    (asking 50000 0).evaluate.heat.totalRequested = 50000 ∧ (asking 50000 0).evaluate.heat.effective = 50000 ∧
      (asking 49999 3600).evaluate.heat.totalRequested = 50000 ∧ (asking 49999 3600).evaluate.heat.effective = 49999 ∧
      (asking 40000 1800).evaluate.heat.entries[(1 : Fin 6)].allowed = 15000 ∧
      (asking 40000 1800).evaluate.heat.entries[(0 : Fin 6)].allowed = 25000 ∧
      (asking 49999 3600).evaluate.heat.cutOrder = [1, 5, 4, 3, 2, 0] := by decide +kernel

/-- The cooler changed by `f`, the burner in IDLE. -/
def coolerIn (f : Cooler → Cooler) : State := (burnerIn .idle id).modCooler f

theorem test_witness_CoolerStartsAndStops :
    (coolerIn id).taken.cooler.state = .stopped ∧ (coolerIn id).taken.di 22 = false ∧
      (inputOn 22 (coolerIn id)).taken.di 22 = true ∧
      (∀ st ∈ [CoolerState.starting, .running, .surge, .stopping],
        (coolerIn fun c => { c with state := st }).taken.cooler.state = st) ∧
      ((burnerIn .pilot id).modCooler fun c => { c with state := .running }).taken.burner.state = .pilot ∧
      (let s := coolerIn fun c =>
        { c with state := .running, grates := mapAt c.grates fun i g => if i = 0 then g else { g with state := .running } }
       s.taken.cooler.grates[1].state = .running ∧ s.taken.cooler.grates[0].state ≠ .running) ∧
      (∀ g : Fin 4, (coolerIn id).taken.cooler.grates[g].state ≠ .running) ∧
      (let s := coolerIn fun c => { c with state := .starting, started := 3, sequence := some (.stagger, 1000000) }
       s.cooler.sequence = some (.stagger, 1000000) ∧ s.cooler.started = 3 ∧ 1000000 ≤ s.floorTime ∧ s.resetRun = none) ∧
      (coolerIn fun c => { c with state := .starting, sequence := some (.fanStart, 1000000) }).cooler.started < 3 ∧
      (let s := coolerIn fun c =>
        { c with state := .stopping, sequence := some (.stagger, 1000000), stopList := [0, 1] }
       s.cooler.stopList = [0, 1] ∧ s.cooler.state = .stopping) ∧
      (coolerIn fun c => { c with state := .stopping, sequence := some (.runOn, 1000000) }).burner.state = .idle := by
  decide +kernel

/-- The cooler's stop and the E-stop input in LOCKOUT, in IDLE and in a state that trips. -/
theorem test_witness_trip_taken :
    let running (st : BurnerState) : State := (burnerIn st id).modCooler fun c => { c with state := .running }
    let runOn (st : BurnerState) : State :=
      (burnerIn st id).modCooler fun c => { c with state := .stopping, sequence := some (.runOn, 1000000) }
    let cause (s : State) : Option (Cause × Option Nat) := s.burner.firstOut.map fun f => (f.cause, f.point)
    (cause (after .fanRunOnExpiry (runOn .pilot)) = some (.coolerStopped, none) ∧
      (after .fanRunOnExpiry (runOn .idle)).burner.state = .idle ∧
      (after .fanRunOnExpiry (runOn .lockout)).burner.claims = 1) ∧
      (cause ((running .pilot).accept 22 true) = some (.coolerStopped, none) ∧
        ((running .idle).accept 22 true).burner.state = .idle ∧ ((running .lockout).accept 22 true).burner.claims = 1 ∧
        ((running .pilot).accept 22 false).cooler.state = .running ∧
        ((burnerIn .pilot id).accept 22 true).burner.state = .pilot) ∧
      (cause ((burnerIn .idle id).accept 0 true) = some (.estopInput, none) ∧
        ((burnerIn .lockout id).accept 0 true).burner.claims = 1 ∧
        ((burnerIn .pilot id).accept 0 false).burner.state = .pilot) := by decide +kernel

/-- The SAT-low condition at the limit of 800 and at 820, and the low-current timer of fan 12 at its threshold of 200: where
the two clauses meet. -/
theorem test_witness_sat_low_and_low_current :
    let shown (n : Fin 32) (v : Int) (s : State) : State :=
      s.modField fun f => { f with channels := upd f.channels n fun _ => { value := v, quality := .good } }
    let sat (low : Bool) (v : Int) : Bool :=
      (shown 1 v { (coolerIn fun c => { c with satLow := low }) with envelope := { quiet.envelope with satLowLimit := 800 } }).formCooler.cooler.satLow
    let fan (v : Int) (f : Chamber → Chamber) : Chamber :=
      (shown 25 v (coolerIn fun c =>
        { c with
          state := .running, cfg := { c.cfg with fanThreshold := Vector.replicate 12 200 }
          chambers := mapAt c.chambers fun _ k => f { k with setSpeed := 600 } })).formCooler.cooler.chambers[(11 : Fin 12)]
    (sat false 799 = true ∧ sat false 800 = false ∧ sat true 800 = true ∧ sat true 819 = true ∧ sat true 820 = false ∧
      (coolerIn fun c => { c with satLow := true }).formCooler.cooler.satLow = false) ∧
      ((fan 199 id).lowAt = some 1010000 ∧ (fan 200 id).lowAt = none ∧
        (fan 199 fun k => { k with lowAt := some 1000500 }).lowAt = some 1000500 ∧
        (fan 199 fun k => { k with lowExpired := true }).lowAt = none ∧
        (fan 200 fun k => { k with lowExpired := true }).lowExpired = false) := by decide +kernel

theorem test_witness_CoolerOutputsFormed :
    (coolerIn fun c => { c with bedAt := some 1000000 }).cooler.bedAt = some 1000000 ∧
      (coolerIn fun c => { c with state := .surge, releaseAt := some 1000000 }).cooler.releaseAt = some 1000000 ∧
      (4 : Byte).toNat = (3 : Fin 4).val + 1 ∧ (12 : Byte).toNat = (11 : Fin 12).val + 1 ∧
      (300 : BitVec 16).toNat ≤ 300 ∧ (1000 : BitVec 16).toNat ≤ 1000 ∧ 1000 < (1001 : BitVec 16).toNat ∧
      (let c := (coolerIn fun c =>
        { c with
          state := .surge, grates := mapAt c.grates fun _ g => { g with state := .running } }).formCooler.cooler
       c.grates[(3 : Fin 4)].commanded = 250 ∧ c.chambers[(0 : Fin 12)].commanded = 900 ∧
        c.chambers[(4 : Fin 12)].commanded = 500) := by decide +kernel

theorem test_witness_BlastersFire :
    (coolerIn id).taken.cooler.cycle = none ∧
      (let s := coolerIn fun c => { c with cycle := some (8, 1000000), blasterOut := some (7, 1000000) }
       s.Ready ∧ s.taken.cooler.cycle = some (8, 1000000) ∧ s.cooler.blasterOut = some (7, 1000000) ∧
        1000000 ≤ s.floorTime ∧ s.di 21 = false ∧ (inputOn 21 s).di 21 = true) := by decide +kernel

theorem test_witness_WatchesLatch :
    (let s := coolerIn fun c =>
      { c with
        grates := upd c.grates 0 fun g => { g with state := .running, commanded := 180, watch := some 990000 },
        chambers := upd c.chambers 0 fun k => { k with commanded := 500, lowAt := some 1000000 } }
     s.resetRun = none ∧ s.cooler.grates[(0 : Fin 4)].watch = some 990000 ∧
      990000 + max 10000 (1800000 / s.cooler.grates[(0 : Fin 4)].commanded) ≤ s.floorTime ∧
      s.cooler.chambers[(0 : Fin 12)].lowAt = some 1000000 ∧ s.field.records[recordOfGrate 0].checked = true ∧
      s.field.motionCheck = true ∧ s.field.valves[(0 : Fin 7)].phase = .proving ∧
      s.field.valves[(0 : Fin 7)].proofAt = some 3000 ∧ 3000 ≤ s.floorTime ∧ s.field.closeCheck = true) ∧
      (let s := (lineIn 0 fun r => { r with state := .admitting }).commandValve 0 true
       s.lines[(0 : Fin 6)].state = .admitting ∧ s.field.valves[(0 : Fin 7)].openCommand = true) := by decide +kernel

/-- L1's valve PROVEN in OPEN with its open limit gone, with and without its check; PROVING in ADMITTING and shown; and
UNPROVEN. -/
theorem test_witness_watchValve :
    let valve (f : Valve → Valve) : State :=
      (lineIn 0 fun r => { r with state := .opened }).modField fun k =>
        { k with valves := upd k.valves 0 fun w => f { w with openCommand := true, phase := .proven, proofAt := none } }
    ((valve id).commandShown 0 = false ∧ (valve id).limitLost 0 = true ∧
      (valve id).field.records[recordOfValve 0].checked = true ∧ (valve id).field.openCheck = true ∧
      ((valve id).watchValve 0).lines[0].state = .fault) ∧
      (let s := (valve id).modField fun k => { k with openCheck := false }
       (s.watchValve 0).lines[0].state = .opened ∧ (s.watchValve 0).field.valves[(0 : Fin 7)].phase = .unproven) ∧
      (let s := inputOn 10 ((valve fun w => { w with phase := .proving, proofAt := some 1003000 }).modLine 0 fun r =>
        { r with state := .admitting })
       s.commandShown 0 = true ∧ (s.watchValve 0).lines[0].state = .opened) ∧
      (inputOn 10 (valve id)).limitLost 0 = false ∧
      (inputOn 10 (valve fun w => { w with phase := .unproven })).commandShown 0 = true := by decide +kernel

theorem test_witness_DiagnosticsCleared :
    (∀ r, quiet.taken.failing r = none) ∧ (23 : Byte).toNat = (22 : Fin 23).val + 1 ∧ 23 < (24 : Byte).toNat ∧
      (let s := (coolerIn fun c => { c with grates := upd c.grates 0 fun g => { g with state := .fault } }).modField fun f =>
        { f with
          records :=
            upd f.records (recordOfGrate 0) fun d => { d with state := .fault (FaultKinds.none.add .noMotion) } }
       s.taken.cooler.grates[(0 : Fin 4)].state = .fault ∧ (s.taken.record (recordOfGrate 0)).isFault = true ∧
        s.taken.failing (recordOfGrate 0) = none) ∧
      (coolerIn fun c =>
        { c with chambers := upd c.chambers 0 fun k => { k with lowExpired := true } }).taken.failing (recordOfFan 0) =
          some .noMotion := by decide +kernel

/-- One record that fails again while every other of its group is sound: its point stays active, with no change of its state
(R102; log entry 35). -/
theorem test_witness_diagnostics_again :
    (let s := (recordsOk (coolerIn fun c =>
      { c with chambers := upd c.chambers 0 fun k => { k with lowExpired := true } })).modField fun f =>
        { f with
          records := upd f.records (recordOfFan 0) fun d => { d with state := .fault (FaultKinds.none.add .noMotion) } }
     s.failing (recordOfFan 0) = some .noMotion ∧ s.checkApplies (recordOfFan 0) .noMotion = true ∧
      (let t := (s.modPoint 7 fun p => { p with condition := true, active := true, state := .acked }).clearRecords
        [recordOfFan 0]
       t.fixedCondition 8 = true ∧ t.alarm.handed = [] ∧ t.syncAlarms.alarm.points[7].state = .acked)) ∧
      (let s := (recordsOk (coolerIn id)).modField fun f =>
        { f with valves := upd f.valves 0 fun w => { w with phase := .unproven } }
       s.failing (recordOfValve 0) = some .failToClose ∧ s.checkApplies (recordOfValve 0) .failToClose = true ∧
        (s.clearRecords [recordOfValve 0]).fixedCondition 10 = true ∧
        (s.clearRecords [recordOfValve 0]).alarm.handed = []) := by decide +kernel

theorem test_witness_ScansAndFrames :
    (quiet.resetRun = none ∧ quiet.cooler.state ∈ [CoolerState.stopped, .starting, .stopping]) ∧
      (let s := burnerIn .idle id
       s.field.scanAt = some 1500 ∧ 1500 ≤ s.floorTime ∧ s.field.frameAt + 1000 ≤ s.floorTime) ∧
      (quiet.modField fun f => { f with changedAt := some 0 }).field.changedAt ≠ none := by decide +kernel

/-- Chamber 1 alone is GOOD: RUNNING below and above the surge level, and risen within the window; SURGE below and above the
release level. -/
theorem test_witness_surge :
    let bed (mean : Int) (f : Cooler → Cooler) : State :=
      (coolerIn f).modField fun k => { k with channels := upd k.channels 2 fun _ => { value := mean, quality := .good } }
    let level : Int := (coolerIn id).cooler.cfg.surgeLevel
    let rise : Int := (coolerIn id).cooler.cfg.surgeRise
    let release : Int := (coolerIn id).cooler.cfg.releaseLevel
    ((bed level fun c => { c with state := .running }).formBedMean.cooler.state = .running ∧
      (bed (level + 1) fun c => { c with state := .running, cycle := some (3, 1000000) }).formBedMean.cooler.state = .surge ∧
      (bed 200 fun c => { c with state := .running, history := [(999000, 200 - rise)] }).formBedMean.cooler.state = .surge) ∧
      ((bed (release - 1) fun c => { c with state := .surge }).formBedMean.cooler.releaseAt.isSome = true ∧
        (bed release fun c => { c with state := .surge, releaseAt := some 1000500 }).formBedMean.cooler.releaseAt = none ∧
        (coolerIn fun c => { c with state := .surge, releaseAt := some 1000500 }).formBedMean.cooler.releaseAt = none) := by
  decide +kernel

theorem test_witness_InputsDebounced :
    (quiet.field.inputs[(0 : Fin 24)].raw = false ∧ quiet.field.inputs[(0 : Fin 24)].level ≠ true) ∧
      (let s := quiet.modField fun f => { f with inputs := upd f.inputs 3 fun d => { d with raw := true, dueAt := some 0 } }
       s.field.inputs[(3 : Fin 24)].raw ≠ false ∧ s.field.inputs[(3 : Fin 24)].level = false ∧
        s.field.inputs[(3 : Fin 24)].dueAt = some 0 ∧ 0 ≤ s.floorTime) ∧
      quiet.field.cfg.debounce.toList.getD (23 - 1) 0 ≠ 0 ∧
      (after (.setField 0 { fieldFields 5 with debounce := Vector.replicate 23 0 }) quiet).field.cfg.debounce.toList.getD 22 0 =
        0 ∧
      (burnerIn .pilot id).burner.state ≠ .lockout := by decide +kernel

/-- L6's ready input goes inactive in the gate delay, with slots left and at the last slot. -/
theorem test_witness_readyLost :
    (let s := (batchIn fun x => { x with slot := some (someSlot .gateDelay) }).accept 20 false
     s.batches[1].slot = none ∧ s.batches[1].missed = 1 ∧ s.lines[5].queue = [someBatch]) ∧
      (let s := (batchIn fun x => { x with slot := some (someSlot .gateDelay), fed := 4, opened := 5 }).accept 20 false
       s.batches[1].slot = none ∧ s.lines[5].queue = []) := by decide +kernel

theorem test_witness_RotationMonitored :
    (quiet.field.rotation.last = none ∧ quiet.field.rotation.turning = false) ∧
      (∀ l : Fin 6, quiet.lines[l].progress = none) ∧ quiet.cooler.blasters = false ∧
      (let s := (coolerIn fun c => { c with state := .running, blasters := true, pulseCount := 19 }).modField fun f =>
        { f with rotation := { turning := true, last := some 0, stopAt := some 1000000, period := some 40000 } }
       s.field.rotation.last ≠ none ∧ s.cooler.blasters = true ∧ s.cooler.state = .running ∧
        s.cooler.cfg.blasterRevs ≤ s.cooler.pulseCount + 1 ∧ s.field.rotation.stopAt = some 1000000 ∧
        1000000 ≤ s.floorTime ∧ s.field.rotation.turning = true) := by decide +kernel

/-- R79: L5 and L6 hand the batch heats of a new period one after the other, and each has its own evaluation. L1 comes
within its deviation limit at the first of them, which clears its DEVIATION flag, and leaves it at the second, which starts
the deviation timer afresh. One evaluation of both would have left the flag set. -/
theorem test_period_change_evaluates_for_each_line :
    let batch (s : State) (l : Fin 6) : State := s.modLine l fun r =>
      { r with cfg := { r.cfg with kind := .batch }, state := .opened, queue := [someBatch], progress := some someProgress }
    let l1 (measured : Nat) : State := lineIn 0 fun r =>
      { r with state := .opened, requested := 8000, priority := 1, measured := measured, deviation := true }
    let s (measured : Nat) : State :=
      (((batch (batch (l1 measured) 4) 5).modHeat fun h => { h with operator := some 60000 }).modField fun f =>
        { f with rotation := { turning := true, last := some 900000, stopAt := some 1000000, period := some 50000 } }).evaluate
    let view (t : State) : Nat × Bool × Option Nat :=
      (t.lines[0].commanded, t.lines[0].deviation, t.lines[0].deviationAt)
    let afresh := some (1000000 + (s 0).lines[0].cfg.deviationTime * 1000)
    view (s 4320) = (2880, true, none) ∧ view (s 4320).indexPulse = (5760, false, afresh) ∧
      view (s 5760) = (2880, true, none) ∧ view (s 5760).kilnStop = (8000, false, afresh) := by
  decide +kernel

/-- L6's order of five slots, two revolutions each: a pulse between openings, one that opens a slot, and one after the
last. -/
theorem test_witness_batchPulse :
    ((batchIn id).batchPulse 1).batches[1].indexCount = 1 ∧ ((batchIn id).batchPulse 1).batches[1].opened = 0 ∧
      ((batchIn fun x => { x with indexCount := 1 }).batchPulse 1).batches[1].opened = 1 ∧
      (let x := ((batchIn fun x => { x with indexCount := 10, opened := 5, gateOpen := true, idle := 1 }).batchPulse
        1).batches[1]
       x.indexCount = 10 ∧ x.opened = 5 ∧ x.gateOpen = false ∧ x.idle = 0) ∧
      (lineIn 5 id).lines[5].progress = none := by decide +kernel

/-- Point 96 in a state, its definition changed by `f`. -/
def pointIn (st : PointState) (f : Point → Point) : State :=
  (burnerIn .pilot id).modPoint 95 fun p => f { p with state := st }

theorem test_witness_AlarmsAnswered :
    (pointIn .raised id).Ready ∧
      (∀ st ∈ [PointState.disabled, .normal, .raised, .acked, .returned, .shelved, .suppressed],
        (pointIn st id).taken.alarm.points[95].state = st) ∧
      (pointIn .raised id).taken.alarm.points[95].defn.cls ≠ .record ∧
      (pointIn .raised fun p => { p with defn := { p.defn with cls := .record } }).taken.alarm.points[95].defn.cls =
        .record ∧
      (pointIn .normal fun p => { p with defn := { p.defn with cls := .trip } }).taken.alarm.points[95].defn.cls = .trip ∧
      (pointIn .normal id).taken.burner.state ≠ .lockout ∧ (pointIn .normal id).taken.burner.state ≠ .idle ∧
      (pointIn .normal id).taken.groupHolds .none = false ∧
      (pointIn .returned id).taken.groupHolds (.lineShut 0) = true ∧
      (pointIn .normal id).taken.alarm.shelf.length < 16 ∧
      16 ≤ ((pointIn .normal id).modAlarm fun a =>
        { a with shelf := (List.finRange 16).map fun i => (⟨i.val, by omega⟩, 0) }).taken.alarm.shelf.length ∧
      -- a class with point 1 in RETURNED beside point 96 in RAISED, and in RETURNED
      ((pointIn .raised id).taken.alarm.points[95].defn.cls.ctorIdx = 2 ∧
        ((pointIn .raised id).acknowledgeClass .routine).2 = 2 ∧
          ((pointIn .returned id).acknowledgeClass .routine).2 = 2) ∧
      (480 : BitVec 16).toNat ≤ 480 ∧ 480 < (481 : BitVec 16).toNat ∧
      (pointIn .disabled id).taken.conditionOf 95 (Point.fresh PointDef.default .disabled) = false := by decide +kernel

/-- ENABLE where the source already shows the condition, with on delay 0 and with a delay. -/
theorem test_witness_enable_true_condition :
    let shown (delay : Nat) : State := inputOn 4 (pointIn .disabled fun p =>
      { p with defn := { p.defn with source := .discrete 4 true, onDelay := delay, cls := .routine, group := .none } })
    (shown 0).groupHolds .none = false ∧
      (shown 0).conditionOf 95 { (shown 0).alarm.points[95] with condition := false } = true ∧
      ((shown 0).enablePoint 95).alarm.points[95].state = .raised ∧
      ((shown 3).enablePoint 95).alarm.points[95].delayAt = some 1003000 := by decide +kernel

theorem test_witness_AlarmTimersExpire :
    (let s := pointIn .normal fun p => { p with delayAt := some 1000000 }
     s.resetRun = none ∧ s.alarm.points[(95 : Fin 96)].delayAt = some 1000000 ∧ 1000000 ≤ s.floorTime ∧
      s.alarm.points[(95 : Fin 96)].active = false ∧ s.alarm.points[(95 : Fin 96)].state = .normal) ∧
      (pointIn .acked fun p => { p with active := true, delayAt := some 1000000 }).alarm.points[(95 : Fin 96)].active = true ∧
      ((pointIn .shelved id).modAlarm fun a => { a with shelf := [(95, 1000000)] }).alarm.shelf = (95, 1000000) :: [] ∧
      (let s := quiet.modAlarm fun a => { a with flood := true, reviewAt := some 0, reviewCount := 9 }
       s.alarm.reviewAt = some 0 ∧ s.alarm.reviewCount < s.alarm.raiseThreshold / 2) ∧
      quiet.alarm.raiseThreshold / 2 ≤ 10 ∧
      (quiet.modLink fun l => { l with silenceAt := some 0 }).link.silenceAt = some 0 := by decide +kernel

/-- The kinds of source, each with a condition that changes and one that does not; the quality that keeps it. -/
theorem test_witness_conditions :
    let source (src : PointSource) (f : Point → Point) : State :=
      pointIn .normal fun p => f { p with defn := { p.defn with source := src, onDelay := 0, offDelay := 7 } }
    let bed (v : Int) (s : State) : State :=
      s.modField fun k => { k with channels := upd k.channels 2 fun _ => { value := v, quality := .good } }
    ((source (.discrete 4 false) id).conditionOf 95 (source (.discrete 4 false) id).alarm.points[95] = true ∧
      ((source (.discrete 4 false) id).setCondition 95 true).alarm.points[95].state = .raised) ∧
      (let s := source (.analog 2 100 true 10) fun p => { p with condition := true, active := true }
       s.conditionOf 95 s.alarm.points[95] = true ∧ (bed 95 s).conditionOf 95 s.alarm.points[95] = true ∧
        (bed 89 s).conditionOf 95 s.alarm.points[95] = false ∧ (bed 101 s).conditionOf 95 s.alarm.points[95] = true ∧
        (s.setCondition 95 false).alarm.points[95].delayAt = some 1007000) ∧
      (let s := source (.analog 2 100 false 10) id
       (bed 99 s).conditionOf 95 s.alarm.points[95] = true ∧ (bed 111 s).conditionOf 95 s.alarm.points[95] = false) ∧
      ((pointIn .suppressed id).syncGroup 95 false).alarm.points[95].state = .normal ∧
      ((pointIn .suppressed fun p => { p with active := true }).syncGroup 95 false).alarm.points[95].state = .raised ∧
      ((pointIn .normal id).syncGroup 95 true).alarm.points[95].state = .suppressed ∧
      (((pointIn .disabled id).handPoint 95 true).alarm.points[95].condition = false ∧
        ((pointIn .normal id).handPoint 95 true).alarm.points[95].condition = true) := by decide +kernel

/-- Point 96 of a class, with a cut-back, changing in a list of `n` records of which the one in place 5 is ROUTINE. -/
def changing (cls : PointClass) (cutBack n : Nat) (f : Alarm → Alarm) : State :=
  let record (k : Nat) : Change :=
    { sequence := k, time := 0, point := 1, cls := if k = 5 then .routine else .trip, old := .normal, new := .raised
      value := none }
  (pointIn .normal fun p => { p with defn := { p.defn with cls := cls, cutBack := cutBack } }).modAlarm fun a =>
    f { a with changes := (List.range n).map record, nextSequence := 65535 }

/-- PointStateChanges: a change recorded in a list with room and in a full one, of a low class and of another, and one that
a flood hides; with its request, and without one. -/
theorem test_witness_change_records :
    let left (s : State) : List Nat := (s.alarm.changes.take 6).map Change.sequence
    let asked (cls : PointClass) (new : PointState) : ClassSet :=
      (((changing cls 0 0 id).modAttention fun a => { a with request := 0 }).enterPoint 95 new).attention.request
    (left ((changing .routine 0 127 id).enterPoint 95 .raised) = [0, 1, 2, 3, 4, 5] ∧
      left ((changing .routine 0 128 id).enterPoint 95 .raised) = [1, 2, 3, 4, 5, 6] ∧
      left ((changing .urgent 0 128 id).enterPoint 95 .raised) = [0, 1, 2, 3, 4, 6] ∧
      ((changing .urgent 0 128 id).enterPoint 95 .raised).alarm.overrun = true ∧
      ((changing .urgent 0 128 id).enterPoint 95 .raised).alarm.nextSequence = 0 ∧
      ((changing .record 0 0 fun a => { a with flood := true }).enterPoint 95 .raised).alarm.changes = [] ∧
      ((changing .record 0 0 fun a => { a with flood := true }).enterPoint 95 .shelved).alarm.changes.length = 1) ∧
      (asked .urgent .raised = 0x02 ∧ asked .trip .raised = 0 ∧ asked .trip .shelved = 0x02 ∧ asked .record .raised = 0) ∧
      (((changing .record 50 0 id).enterPoint 95 .raised).heat.claims = [(96, 50)] ∧
        (((changing .record 50 0 id).enterPoint 95 .raised).enterPoint 95 .normal).heat.claims = [] ∧
        (((changing .urgent 50 0 id).enterPoint 95 .raised).enterPoint 95 .acked).heat.claims = [(96, 50)] ∧
        ((changing .urgent 0 0 id).enterPoint 95 .raised).heat.claims = []) := by decide +kernel

/-- PointStateChanges: the raise that makes the list F raises within W, one that is a ms too late, one in a flood and one
with point 13 DISABLED or RAISED; and the raise of a TRIP point in a state that trips, in LOCKOUT and in IDLE. -/
theorem test_witness_raises :
    let almost (oldest : Nat) (f : Alarm → Alarm) : State :=
      changing .urgent 0 0 fun a =>
        f { a with floodThreshold := 5, floodWindow := 10, raises := [oldest, 999000, 999000, 999000] }
    let thirteen (st : PointState) : Alarm → Alarm := fun a =>
      { a with points := upd a.points 12 fun p => { p with state := st } }
    let raised (s : State) : State := s.raisePoint 95
    ((raised (almost 990000 id)).alarm.flood = true ∧ (raised (almost 990000 id)).alarm.points[12].state = .raised ∧
      (raised (almost 990000 id)).alarm.reviewCount = 1 ∧ (raised (almost 989999 id)).alarm.flood = false ∧
      (raised (almost 990000 fun a => { a with flood := true, reviewCount := 2 })).alarm.reviewCount = 3 ∧
      (raised (almost 990000 (thirteen .disabled))).alarm.points[12].active = false ∧
      (raised (almost 990000 (thirteen .acked))).alarm.points[12].active = true) ∧
      (let s := changing .trip 0 0 id
       (raised s).burner.firstOut.map (fun f => (f.cause, f.point)) = some (.alarmTrip, some 96) ∧
        (raised s).shift.current.events.map ShiftEvent.kind = [.tripRaise 96, .lockout .alarmTrip (some 96)] ∧
        (raised { s with burner := quiet.burner }).burner.claims = 1 ∧
        (raised { s with burner := (burnerIn .idle id).burner }).burner.state = .idle) ∧
      (let s := (pointIn .normal fun p => { p with delayAt := some 1000000, condition := true })
       s.alarm.points[(95 : Fin 96)].delayAt = some 1000000 ∧ s.alarm.points[(95 : Fin 96)].active = false ∧
        (s.becomeActive 95).alarm.points[95].state = .raised) := by decide +kernel

/-- HEAT_CUT set by one evaluation and cleared by the next one of the same event is handed at both changes (R83): point 6 is
raised and returns. -/
theorem test_heat_cut_within_one_event_raises_point_6 :
    let s := ((lineIn 0 fun r => { r with state := .opened, requested := 3600 }).modHeat fun h =>
      { h with operator := some 25000 }).evaluate
    let t := s.post 0 [{ someContext with body := .context 40000 4 }, { someRate with body := .rate 0 0 0 }]
    s.heat.heatCut = false ∧ t.heat.heatCut = false ∧ t.heat.cutChanges = [true, false] ∧
      (t.syncAlarms.alarm.changes.any fun c => c.point = 6 && c.new = .raised) = true := by decide +kernel

/-- R79: STOP BURNER's end of the BURNER ceiling is evaluated before the lines' shuts, so the HEAT_CUT that it clears is
handed before a CONTEXT order behind a head sets it again. -/
theorem test_heat_cut_at_the_end_of_the_burner_ceiling :
    let s := (((lineIn 0 fun r =>
      { r with
        state := .opened, requested := 3600
        queue := [someRate, { someContext with body := .context 40000 4 }] }).modBurner fun b =>
      { b with ceiling := some 20000 }).modHeat fun h => { h with operator := some 30000 }).evaluate
    s.heat.heatCut = true ∧ s.clearHanded.toStopping.heat.cutChanges = [false, true] := by decide +kernel

/-- R31: a MISMATCH has its part in fixed point 9 through the work that follows it, up to its VERIFIED, STOPPED or ABORTED
end. -/
theorem test_mismatch_lasts_through_new_work :
    let s := free fun r => { r with verify := .mismatch }
    s.fixedCondition 9 = true ∧ (s.startMove 0 400).fixedCondition 9 = true ∧ (s.startHome 0).fixedCondition 9 = true ∧
      ((s.startMove 0 400).endWork 0 .stopped).fixedCondition 9 = false ∧ (s.homeDone 0).fixedCondition 9 = false := by
  decide +kernel

/-- R116: a commanded rate that changes and is back within one event is a change of the image. -/
theorem test_rate_changed_and_back_begins_a_frame :
    let rate (v : Nat) : Order := { someRate with body := .rate v 0 0 }
    let s := ((lineIn 0 fun r =>
      { r with
        state := .opened, requested := 6000, queue := [rate 6000]
        progress := some { someProgress with holdStart := some 999000 } }).evaluate).formImage.beginDrive
    let t := (s.post 0 [rate 4000, rate 6000]).formImage
    s.field.changedAt = none ∧ t.field.image = s.field.image ∧ t.lines[0].commanded = 6000 ∧
      t.field.changedAt = some 1000000 := by decide +kernel

/-- HeatsAndCeilingFormed: each kind of line in each of its cases, and two sources with the least value. -/
theorem test_witness_HeatsAndCeilingFormed :
    (let s := batchIn id
     s.lines[5].cfg.kind = .batch ∧ s.lines[5].state = .opened ∧ s.lines[5].progress ≠ none ∧
      s.lines[5].queue = [someBatch] ∧ s.field.rotation.period = none ∧
      (s.modField fun f => { f with rotation := { f.rotation with period := some 1 } }).evaluate.heat.entries[5].requested =
        666666) ∧
      (asking 49999 0).lines[0].state = .opened ∧ (asking 49999 0).lines[2].state = .shut ∧
      (let s := (asking 40000 0).modBurner fun b => { b with ceiling := some 40000 }
       s.evaluate.heat.binding = .operator ∧ s.evaluate.heat.effective = 40000 ∧ s.evaluate.heat.active = some .operator) := by
  decide +kernel

/-- R116: the refresh frame begins 1 s after the last frame with a change of the image waiting, too. -/
theorem test_refresh_is_due_with_a_change_waiting :
    let s := (burnerIn .idle id).modField fun f => { f with frameAt := 999000, changedAt := some 999980 }
    s.driveDue = [.driveFrameRefresh] := by decide +kernel

/-- R145: a new threshold of SET ALARM does not act on a review before the next raise. -/
theorem test_review_under_the_threshold_of_the_last_raise :
    let s := (quiet.modAlarm fun a =>
      { a with flood := true, reviewAt := some 0, reviewCount := 9, floodThreshold := 6, raiseThreshold := 20 }).reviewFlood
    s.alarm.flood = false := by decide +kernel

def midnight : DateTime := { year := 2026, month := 1, day := 1, hour := 5, minute := 59, second := 59 }
def lastSecond : DateTime := { year := 2099, month := 12, day := 31, hour := 23, minute := 59, second := 59 }

theorem test_witness_ShiftsClosed :
    quiet.Ready ∧ (∀ r ∈ quiet.taken.shift.store, r.shift.sequence ≠ 1) ∧
      (after (.closeShift 0) quiet).shift.store.map (fun r => r.shift.sequence) = [1] ∧
      midnight.next = some { midnight with hour := 6, minute := 0, second := 0 } ∧ lastSecond.next = none ∧
      quiet.shift.schedule[0]? = some (6 * 60 + 0) ∧
      (quiet.modShift fun h => { h with clock := some (midnight, 0) }).shift.clock = some (midnight, 0) ∧
      0 ≤ quiet.floorTime ∧ (6 * 60 + 1) ∉ quiet.shift.schedule := by decide +kernel

/-- ShiftsClosed: a duration that starts, goes on and stops; and a weigh pulse that carries the shift mass past its width,
and one that just does not. -/
theorem test_witness_durations_and_mass_limit :
    let firing (st : BurnerState) (d : Duration) : Duration :=
      ((burnerIn st id).modTotals fun t => { t with firing := d }).handDurations.shift.current.totals.firing
    let full (n : Nat) : State := (lineIn 0 id).modLineTotals 0 fun t => { t with mass := n }
    (firing .pilot { total := 7, since := none } = { total := 7, since := some 1000000 } ∧
      firing .pilot { total := 7, since := some 999000 } = { total := 7, since := some 999000 } ∧
      firing .idle { total := 7, since := some 999000 } = { total := 1007, since := none } ∧
      firing .idle { total := 7, since := none } = { total := 7, since := none }) ∧
      ((lineIn 0 id).lines[0].cfg.gramsPerPulse = 1000 ∧ (lineIn 0 id).resetRun = none ∧
        ((full 4294966295).deliver 0 1000).shift.store = [] ∧
        ((full 4294966296).deliver 0 1000).shift.current.totals.lines[0].mass = 1000 ∧
        (after (.weighPulse 0) (full 4294966296)).shift.store.map Report.cause = [.request]) := by decide +kernel

theorem test_witness_ResetsBeginAndEnd :
    (let s := after (.restartWarm 0) quiet
     s.resetRun = none ∧ s.restartPending = some .warm ∧ (s.link.sending.map Frame.reply) = some true ∧
      (after .frameSendEnd s).resetRun = some { kind := .warm, restart := true } ∧
      (after .frameSendEnd s).pinLow = false ∧ (after .frameSendEnd s).supplyLow = false ∧
      (after .resetPinAssert (after .frameSendEnd s)).pinLow = true) ∧
      (quiet.pinLow = false ∧ quiet.supplyLow = false) ∧
      (let s := after .resetPinAssert quiet
       s.pinLow = true ∧ s.supplyLow = false ∧ s.resetRun = some { kind := .cold, restart := false }) ∧
      (let s := after .supplyFall (after .resetPinAssert quiet)
       s.pinLow = true ∧ s.supplyLow = true) ∧
      (let s := after .supplyFall quiet
       s.supplyLow = true ∧ s.pinLow = false ∧ s.resetRun = some { kind := .cold, restart := false }) := by decide +kernel

/-- The laws' statements are about something: a step is made from a state with the laws that are decidable. -/
theorem test_witness_laws_step : ∃ t, step quiet = .next t ∧ t.floorTime = 1 := by
  refine ⟨_, by unfold step; rfl, ?_⟩
  decide +kernel

theorem test_witness_flame_law : FlameLaw quiet ∧ FlameLaw (inputOn 2 quiet).voteFlame := by
  unfold FlameLaw
  decide +kernel

theorem test_witness_capacity_law : CapacityLaw quiet := by
  refine ⟨?_, ?_, ?_, ?_, ?_⟩ <;> decide +kernel

theorem test_witness_shelf_law : ShelfLaw quiet := by
  refine ⟨?_, ?_, ?_⟩ <;> decide +kernel

theorem test_witness_count_law : CountLaw quiet := by
  unfold CountLaw
  decide +kernel

end Sys2Proof.Tests
end

section
/-! The heat balance's evaluation: the cut order as a sorted permutation of the lines, what one walk takes, how the two walks
share the ceiling, and what each line is handed (R80 to R82). -/

namespace Sys2Proof.Machine

/-! ### The cut order (R81) -/

/-- Line `l` gives up heat before line `m`: it has the lesser priority number, or the same and the higher line number. -/
def CutBefore (priority : Fin 6 → Nat) (l m : Fin 6) : Prop :=
  priority l < priority m ∨ (priority l = priority m ∧ m < l)

theorem insertByPriority_perm (priority : Fin 6 → Nat) (l : Fin 6) (order : List (Fin 6)) :
    (insertByPriority priority l order).Perm (l :: order) := by
  induction order with
  | nil => exact .refl _
  | cons m rest ih =>
    unfold insertByPriority
    split
    · exact .refl _
    · exact (ih.cons m).trans (.swap l m rest)

/-- A line put into a sorted order of higher lines leaves it sorted. -/
theorem insertByPriority_pairwise (priority : Fin 6 → Nat) (l : Fin 6) {order : List (Fin 6)}
    (sorted : order.Pairwise (CutBefore priority)) (higher : ∀ m ∈ order, l < m) :
    (insertByPriority priority l order).Pairwise (CutBefore priority) := by
  induction order with
  | nil => simp [insertByPriority]
  | cons m rest ih =>
    obtain ⟨hm, hrest⟩ := List.pairwise_cons.1 sorted
    obtain ⟨hlm, hlrest⟩ := List.forall_mem_cons.1 higher
    unfold insertByPriority
    split
    next less =>
      refine List.pairwise_cons.2 ⟨List.forall_mem_cons.2 ⟨.inl less, fun x hx => .inl ?_⟩, sorted⟩
      have := hm x hx
      unfold CutBefore at this
      omega
    next notLess =>
      refine List.pairwise_cons.2 ⟨fun x hx => ?_, ih hrest hlrest⟩
      obtain rfl | hx := List.mem_cons.1 ((insertByPriority_perm priority l rest).mem_iff.1 hx)
      · unfold CutBefore
        omega
      · exact hm x hx

/-- Lines put in one after another, each lower than all before it, leave an order sorted. -/
theorem foldl_insertByPriority_pairwise (priority : Fin 6 → Nat) {lines order : List (Fin 6)}
    (descending : lines.Pairwise (· > ·)) (sorted : order.Pairwise (CutBefore priority))
    (higher : ∀ l ∈ lines, ∀ m ∈ order, l < m) :
    (lines.foldl (fun order l => insertByPriority priority l order) order).Pairwise (CutBefore priority) := by
  induction lines generalizing order with
  | nil => exact sorted
  | cons l lines ih =>
    obtain ⟨hl, hlines⟩ := List.pairwise_cons.1 descending
    obtain ⟨hhead, htail⟩ := List.forall_mem_cons.1 higher
    refine ih hlines (insertByPriority_pairwise priority l sorted hhead) fun k hk m hm => ?_
    obtain rfl | hm := List.mem_cons.1 ((insertByPriority_perm priority l order).mem_iff.1 hm)
    · exact hl k hk
    · exact htail k hk m hm

theorem foldl_insertByPriority_perm (priority : Fin 6 → Nat) (lines order : List (Fin 6)) :
    (lines.foldl (fun order l => insertByPriority priority l order) order).Perm (lines ++ order) := by
  induction lines generalizing order with
  | nil => exact .refl _
  | cons l lines ih =>
    exact (ih _).trans (((insertByPriority_perm priority l order).append_left lines).trans List.perm_middle)

theorem cutOrderOf_perm (priority : Fin 6 → Nat) : (cutOrderOf priority).Perm (List.finRange 6) :=
  (foldl_insertByPriority_perm priority _ []).trans (by decide)

theorem cutOrderOf_pairwise (priority : Fin 6 → Nat) : (cutOrderOf priority).Pairwise (CutBefore priority) :=
  foldl_insertByPriority_pairwise priority (by decide) .nil (by simp)

theorem cutOrderOf_length (priority : Fin 6 → Nat) : (cutOrderOf priority).length = 6 := by
  simpa using (cutOrderOf_perm priority).length_eq

theorem mem_cutOrderOf (priority : Fin 6 → Nat) (l : Fin 6) : l ∈ cutOrderOf priority :=
  (cutOrderOf_perm priority).mem_iff.2 (List.mem_finRange l)

/-- What holds of each two entries of a list in their order holds of two members by their places. -/
theorem rel_of_idxOf_lt {α : Type} [DecidableEq α] {R : α → α → Prop} {order : List α} {l m : α}
    (ordered : order.Pairwise R) (hm : m ∈ order) (before : order.idxOf l < order.idxOf m) : R l m := by
  have hm' := List.idxOf_lt_length_iff.2 hm
  simpa using List.pairwise_iff_getElem.1 ordered _ _ (before.trans hm') hm' before

theorem idxOf_cutOrderOf_lt_iff (priority : Fin 6 → Nat) (l m : Fin 6) :
    (cutOrderOf priority).idxOf l < (cutOrderOf priority).idxOf m ↔ CutBefore priority l m := by
  have sorted := cutOrderOf_pairwise priority
  refine ⟨rel_of_idxOf_lt sorted (mem_cutOrderOf priority m), fun h => ?_⟩
  obtain before | same | after := lt_trichotomy ((cutOrderOf priority).idxOf l) ((cutOrderOf priority).idxOf m)
  · exact before
  · obtain rfl : l = m := (List.idxOf_inj (mem_cutOrderOf priority l)).1 same
    unfold CutBefore at h
    omega
  · have := rel_of_idxOf_lt sorted (mem_cutOrderOf priority l) after
    unfold CutBefore at h this
    omega

/-! ### One walk (R80) -/

/-- A walk's first line gives up the lesser of the deficit and its room. -/
theorem walk_cons (room : Fin 6 → Nat) (l : Fin 6) (rest : List (Fin 6)) (deficit : Nat) (heats : Vector Nat 6) :
    walk room (l :: rest) deficit heats =
      walk room rest (deficit - min deficit (room l)) (upd heats l fun a => a - min deficit (room l)) := rfl

theorem walk_deficit (room : Fin 6 → Nat) (order : List (Fin 6)) (deficit : Nat) (heats : Vector Nat 6) :
    (walk room order deficit heats).1 = deficit - (order.map room).sum := by
  induction order generalizing deficit heats with
  | nil => rfl
  | cons l rest ih =>
    rw [walk_cons, ih, List.map_cons, List.sum_cons]
    omega

theorem walk_of_notMem (room : Fin 6 → Nat) {order : List (Fin 6)} (deficit : Nat) (heats : Vector Nat 6) {l : Fin 6}
    (hl : l ∉ order) : (walk room order deficit heats).2[l.val] = heats[l.val] := by
  induction order generalizing deficit heats with
  | nil => rfl
  | cons m rest ih =>
    obtain ⟨hlm, hrest⟩ := List.ne_and_not_mem_of_not_mem_cons hl
    rw [walk_cons, ih _ _ hrest, upd_get_ne _ _ _ _ (Ne.symm hlm)]

/-- With no deficit left a walk takes nothing. -/
theorem walk_zero (room : Fin 6 → Nat) (order : List (Fin 6)) (heats : Vector Nat 6) (l : Fin 6) :
    (walk room order 0 heats).2[l.val] = heats[l.val] := by
  induction order generalizing heats with
  | nil => rfl
  | cons m rest ih => simp [walk_cons, ih, upd_get]

theorem walk_le (room : Fin 6 → Nat) (order : List (Fin 6)) (deficit : Nat) (heats : Vector Nat 6) (l : Fin 6) :
    (walk room order deficit heats).2[l.val] ≤ heats[l.val] := by
  induction order generalizing deficit heats with
  | nil => exact le_rfl
  | cons m rest ih =>
    refine (ih _ _).trans ?_
    rw [upd_get]
    split <;> omega

section
variable (room : Fin 6 → Nat) {order : List (Fin 6)} (deficit : Nat) (heats : Vector Nat 6)

/-- No line gives up more than its room. -/
theorem walk_taken_le_room (nodup : order.Nodup) (l : Fin 6) :
    heats[l.val] - (walk room order deficit heats).2[l.val] ≤ room l := by
  induction order generalizing deficit heats with
  | nil => simp [walk]
  | cons m rest ih =>
    obtain ⟨hm, hrest⟩ := List.nodup_cons.1 nodup
    rw [walk_cons]
    by_cases hml : m = l
    · subst hml
      rw [walk_of_notMem _ _ _ hm, upd_get_self]
      omega
    · have later := ih (deficit - min deficit (room m)) (upd heats m fun a => a - min deficit (room m)) hrest
      rwa [upd_get_ne _ _ _ _ hml] at later

/-- A line gives up heat only after each line before it has given up all of its room. -/
theorem walk_earlier_exhausted (nodup : order.Nodup) :
    order.Pairwise fun l m => (walk room order deficit heats).2[m.val] < heats[m.val] →
      (walk room order deficit heats).2[l.val] = heats[l.val] - room l := by
  induction order generalizing deficit heats with
  | nil => exact .nil
  | cons k rest ih =>
    obtain ⟨hk, hrest⟩ := List.nodup_cons.1 nodup
    have unchanged : ∀ m ∈ rest, (upd heats k fun a => a - min deficit (room k))[m.val] = heats[m.val] :=
      fun m hm => upd_get_ne _ _ _ _ (ne_of_mem_of_not_mem hm hk).symm
    simp only [walk_cons]
    refine List.pairwise_cons.2 ⟨fun m hm cut => ?_, ?_⟩
    · rw [walk_of_notMem _ _ _ hk, upd_get_self]
      have left : deficit - min deficit (room k) ≠ 0 := fun spent => by
        simp [spent, walk_zero, unchanged m hm] at cut
      omega
    · refine (ih (deficit - min deficit (room k)) (upd heats k fun a => a - min deficit (room k)) hrest).imp_of_mem
        fun hl hm h => ?_
      rwa [unchanged _ hl, unchanged _ hm] at h

variable {room heats}

/-- A walk takes from its lines, in all, the lesser of the deficit and the sum of their rooms. -/
theorem walk_sum (nodup : order.Nodup) (within : ∀ l ∈ order, room l ≤ heats[l.val]) :
    (order.map fun l => (walk room order deficit heats).2[l.val]).sum + min deficit (order.map room).sum =
      (order.map fun l => heats[l.val]).sum := by
  induction order generalizing deficit heats with
  | nil => simp
  | cons k rest ih =>
    obtain ⟨hk, hrest⟩ := List.nodup_cons.1 nodup
    obtain ⟨hroom, hwithin⟩ := List.forall_mem_cons.1 within
    have unchanged : ∀ m ∈ rest, (upd heats k fun a => a - min deficit (room k))[m.val] = heats[m.val] :=
      fun m hm => upd_get_ne _ _ _ _ (ne_of_mem_of_not_mem hm hk).symm
    have later := ih (deficit - min deficit (room k)) (heats := upd heats k fun a => a - min deficit (room k))
      hrest fun m hm => (hwithin m hm).trans (unchanged m hm).ge
    rw [List.map_congr_left unchanged] at later
    simp only [walk_cons, List.map_cons, List.sum_cons, walk_of_notMem _ _ _ hk, upd_get_self]
    omega

variable {deficit}

/-- Where the deficit is at least the sum of the rooms, each line of the order gives up all of its room. -/
theorem walk_exhausts (nodup : order.Nodup) (enough : (order.map room).sum ≤ deficit) {l : Fin 6}
    (hl : l ∈ order) :
    (walk room order deficit heats).2[l.val] = heats[l.val] - room l := by
  induction order generalizing deficit heats with
  | nil => simp at hl
  | cons m rest ih =>
    obtain ⟨hm, hrest⟩ := List.nodup_cons.1 nodup
    rw [List.map_cons, List.sum_cons] at enough
    rw [walk_cons]
    obtain rfl | hl := List.mem_cons.1 hl
    · rw [walk_of_notMem _ _ _ hm, upd_get_self]
      omega
    · rw [ih hrest (by omega) hl, upd_get_ne _ _ _ _ (ne_of_mem_of_not_mem hl hm).symm]

theorem walk_exhausts_before (nodup : order.Nodup) {l m : Fin 6} (hm : m ∈ order)
    (before : order.idxOf l < order.idxOf m) (cut : (walk room order deficit heats).2[m.val] < heats[m.val]) :
    (walk room order deficit heats).2[l.val] = heats[l.val] - room l :=
  rel_of_idxOf_lt (walk_earlier_exhausted room deficit heats nodup) hm before cut

end

/-! ### The sharing of the ceiling (R80) -/

theorem sum_map_of_perm {order : List (Fin 6)} (all : order.Perm (List.finRange 6)) (f : Fin 6 → Nat) :
    (order.map f).sum = f 0 + f 1 + f 2 + f 3 + f 4 + f 5 := by
  rw [(all.map f).sum_eq]
  simp [List.finRange_succ, Nat.add_assoc]

theorem sum6_eq {order : List (Fin 6)} (all : order.Perm (List.finRange 6)) (v : Vector Nat 6) :
    sum6 v = (order.map fun l => v[l.val]).sum := (sum_map_of_perm all fun l => v[l.val]).symm

/-- What a line can give up before it comes to its floor. -/
def marginOf (requested floor : Vector Nat 6) (l : Fin 6) : Nat := requested[l.val] - floor[l.val]

/-- The heats after the walk to the floors. -/
def afterFirstWalk (order : List (Fin 6)) (ceiling : Nat) (requested floor : Vector Nat 6) : Vector Nat 6 :=
  (walk (marginOf requested floor) order (sum6 requested - ceiling) requested).2

theorem apportion_within {order : List (Fin 6)} {ceiling : Nat} {requested floor : Vector Nat 6}
    (within : sum6 requested ≤ ceiling) : apportion order ceiling requested floor = requested := if_pos within

/-- Above the ceiling the second walk takes what the margins leave of the deficit from the heats after the first. -/
theorem apportion_above {order : List (Fin 6)} {ceiling : Nat} {requested floor : Vector Nat 6}
    (above : ceiling < sum6 requested) :
    apportion order ceiling requested floor =
      (walk (fun l => (afterFirstWalk order ceiling requested floor)[l.val]) order
        (sum6 requested - ceiling - (order.map (marginOf requested floor)).sum)
        (afterFirstWalk order ceiling requested floor)).2 := by
  rw [← walk_deficit _ _ _ requested]
  exact if_neg above.not_ge

theorem apportion_le (order : List (Fin 6)) (ceiling : Nat) (requested floor : Vector Nat 6) (l : Fin 6) :
    (apportion order ceiling requested floor)[l.val] ≤ requested[l.val] := by
  obtain h | h := le_or_gt (sum6 requested) ceiling
  · rw [apportion_within h]
  · rw [apportion_above h]
    exact (walk_le _ _ _ _ l).trans (walk_le _ _ _ _ l)

section
variable {order : List (Fin 6)} {ceiling : Nat} {requested floor : Vector Nat 6}

/-- A walk along all six lines takes the lesser of the deficit and the sum of the rooms from the total. -/
theorem walk_sum6 (all : order.Perm (List.finRange 6)) {room : Fin 6 → Nat} (deficit : Nat) {heats : Vector Nat 6}
    (within : ∀ l, room l ≤ heats[l.val]) :
    sum6 (walk room order deficit heats).2 + min deficit (order.map room).sum = sum6 heats := by
  rw [sum6_eq all heats, sum6_eq all (walk room order deficit heats).2]
  exact walk_sum _ (all.nodup_iff.2 (List.nodup_finRange 6)) fun l _ => within l

/-- Above the ceiling the allowed heats add up to it: what the first walk leaves of the deficit is no more than what it
leaves of the heats. -/
theorem apportion_sum (all : order.Perm (List.finRange 6)) (above : ceiling < sum6 requested) :
    sum6 (apportion order ceiling requested floor) = ceiling := by
  have first := walk_sum6 all (room := marginOf requested floor) (heats := requested) (sum6 requested - ceiling)
    fun l => Nat.sub_le _ _
  have second := walk_sum6 all (sum6 requested - ceiling - (order.map (marginOf requested floor)).sum)
    (heats := afterFirstWalk order ceiling requested floor) fun l => le_rfl
  rw [← sum6_eq all (afterFirstWalk order ceiling requested floor)] at second
  rw [← afterFirstWalk] at first
  rw [apportion_above above]
  omega

/-- Where the margins cover the deficit, the first walk leaves nothing to the second: no line gives up more than its
margin, and a line is cut only after each line before it is down to its floor. -/
theorem apportion_covered (all : order.Perm (List.finRange 6)) (above : ceiling < sum6 requested)
    (covered : sum6 requested - ceiling ≤ (order.map (marginOf requested floor)).sum) :
    (∀ l : Fin 6, requested[l.val] - (apportion order ceiling requested floor)[l.val] ≤ marginOf requested floor l) ∧
      ∀ l m : Fin 6, order.idxOf l < order.idxOf m →
        (apportion order ceiling requested floor)[m.val] < requested[m.val] →
          requested[l.val] - (apportion order ceiling requested floor)[l.val] = marginOf requested floor l := by
  have nodup : order.Nodup := all.nodup_iff.2 (List.nodup_finRange 6)
  have first (l : Fin 6) : (apportion order ceiling requested floor)[l.val] =
      (afterFirstWalk order ceiling requested floor)[l.val] := by
    rw [apportion_above above, Nat.sub_eq_zero_of_le covered, walk_zero]
  simp only [first, afterFirstWalk]
  refine ⟨walk_taken_le_room _ _ _ nodup, fun l m before cut => ?_⟩
  rw [walk_exhausts_before nodup (all.mem_iff.2 (List.mem_finRange m)) before cut]
  exact Nat.sub_sub_self (Nat.sub_le _ _)

/-- Where the margins do not cover the deficit, the first walk takes them all: every line gives up its margin, and a line
gives up more only after each line before it is down to 0. -/
theorem apportion_short (all : order.Perm (List.finRange 6)) (above : ceiling < sum6 requested)
    (short : (order.map (marginOf requested floor)).sum < sum6 requested - ceiling) :
    (∀ l : Fin 6, (apportion order ceiling requested floor)[l.val] + marginOf requested floor l ≤ requested[l.val]) ∧
      ∀ l m : Fin 6, order.idxOf l < order.idxOf m →
        (apportion order ceiling requested floor)[m.val] + marginOf requested floor m < requested[m.val] →
          (apportion order ceiling requested floor)[l.val] = 0 := by
  have nodup : order.Nodup := all.nodup_iff.2 (List.nodup_finRange 6)
  have mem (l : Fin 6) : l ∈ order := all.mem_iff.2 (List.mem_finRange l)
  have first (l : Fin 6) : (afterFirstWalk order ceiling requested floor)[l.val] =
      requested[l.val] - marginOf requested floor l := walk_exhausts nodup short.le (mem l)
  rw [apportion_above above]
  refine ⟨fun l => ?_, fun l m before cut => ?_⟩
  · exact Nat.add_le_of_le_sub (Nat.sub_le _ _) ((walk_le _ _ _ _ l).trans (first l).le)
  · rw [walk_exhausts_before nodup (mem m) before ((Nat.lt_sub_of_add_lt cut).trans_eq (first m).symm), Nat.sub_self]

end

/-! ### What a line is handed (R82) -/

theorem compareRates_share (now : Nat) (r : Line) :
    (compareRates now r).allowed = r.allowed ∧ (compareRates now r).cut = r.cut := by
  unfold compareRates
  split
  · split
    · split <;> exact ⟨rfl, rfl⟩
    · exact ⟨rfl, rfl⟩
  · exact ⟨rfl, rfl⟩

theorem Line.handed_share (r : Line) (now requested allowed : Nat) :
    (r.handed now requested allowed).allowed = allowedRate r requested allowed ∧
      (r.handed now requested allowed).cut = decide (allowed < requested) := by
  unfold Line.handed
  dsimp only
  split
  · exact ⟨rfl, rfl⟩
  · exact compareRates_share _ _

/-! ### The evaluation -/

/-- The heats that the lines request in an evaluation. -/
def State.requestedHeats (s : State) (period : Nat → Option Nat) : Vector Nat 6 :=
  mapAt s.lines fun i r => requestedHeat r (period i)

/-- The floor heats of the lines. -/
def State.floorHeats (s : State) : Vector Nat 6 := mapAt s.lines fun _ r => floorHeat r

/-- The heats that the lines are allowed in an evaluation. -/
def State.allowedHeats (s : State) (period : Nat → Option Nat) : Vector Nat 6 :=
  apportion (cutOrderOf fun l => s.lines[l.val].priority) (s.evaluateAt period).heat.effective (s.requestedHeats period)
    s.floorHeats

theorem State.evaluateAt_entry (s : State) (period : Nat → Option Nat) (l : Fin 6) :
    (s.evaluateAt period).heat.entries[l].requested = (s.requestedHeats period)[l.val] ∧
      (s.evaluateAt period).heat.entries[l].floor = s.floorHeats[l.val] ∧
      (s.evaluateAt period).heat.entries[l].allowed = (s.allowedHeats period)[l.val] := by
  simp [State.evaluateAt, State.requestedHeats, State.floorHeats, State.allowedHeats]

theorem State.evaluateAt_line (s : State) (period : Nat → Option Nat) (l : Fin 6) :
    (s.evaluateAt period).lines[l] =
      s.lines[l].handed s.floorTime (s.requestedHeats period)[l.val] (s.allowedHeats period)[l.val] := by
  simp [State.evaluateAt, State.requestedHeats, State.floorHeats, State.allowedHeats]

theorem State.evaluateAt_totalRequested (s : State) (period : Nat → Option Nat) :
    (s.evaluateAt period).heat.totalRequested = sum6 (s.requestedHeats period) := rfl

theorem State.evaluateAt_cutOrder (s : State) (period : Nat → Option Nat) :
    (s.evaluateAt period).heat.cutOrder = cutOrderOf fun l => s.lines[l.val].priority := rfl

theorem State.evaluateAt_sameBut (s : State) (period : Nat → Option Nat) :
    SameBut [.lines, .heat] s (s.evaluateAt period) := by
  intro b hb
  cases b <;> simp_all [Block.Same]

end Sys2Proof.Machine

open Sys2Proof Sys2Proof.Machine

/-- Settles O40: the cut order is a sorted permutation of the lines; above the ceiling the two walks take the whole deficit,
where the margins cover it the second takes nothing, and where they do not the first takes all of them. -/
theorem heatShared : Obligations.HeatShared := by
  intro s period
  have all := cutOrderOf_perm fun l => s.lines[l.val].priority
  have margins := sum_map_of_perm all (marginOf (s.requestedHeats period) s.floorHeats)
  simp only [State.evaluateAt_entry, State.evaluateAt_line, State.evaluateAt_totalRequested, State.evaluateAt_cutOrder]
  refine ⟨s.evaluateAt_sameBut period, rfl, cutOrderOf_length _, idxOf_cutOrderOf_lt_iff _, fun l => ⟨?_, ?_, ?_, ?_⟩,
    fun within l => ?_, fun above => ⟨apportion_sum all above, fun covered => ?_, fun short => ?_⟩⟩
  · exact apportion_le _ _ _ _ l
  · exact (Line.handed_share _ _ _ _).2
  · intro kind
    rw [(Line.handed_share _ _ _ _).1, allowedRate, kind]
    rfl
  · intro kind
    rw [(Line.handed_share _ _ _ _).1, allowedRate, kind]
  · rw [State.allowedHeats, apportion_within within]
  · exact apportion_covered all above (covered.trans margins.ge)
  · exact apportion_short all above (margins.trans_lt short)

end

section
/-! The attention unit: what a change of its flags does to the frame owed, what its three requests change, and a request
raised at the instant of one of them (R149 to R154). -/

namespace Sys2Proof.Machine

/-! ### A change of the flags (R149, R151) -/

@[simp] theorem Attention.setFlags_request (a : Attention) (request arm : ClassSet) :
    (a.setFlags request arm).request = request := rfl

@[simp] theorem Attention.setFlags_arm (a : Attention) (request arm : ClassSet) :
    (a.setFlags request arm).arm = arm := rfl

theorem Attention.setFlags_owed_iff (a : Attention) (request arm : ClassSet) :
    (a.setFlags request arm).owed = true ↔
      a.owed = true ∨ (a.request &&& a.arm = 0#8 ∧ request &&& arm ≠ 0#8) := by
  simp [Attention.setFlags, Attention.vector]

/-- A change of the flags that leaves an empty vector empty owes no frame. -/
theorem Attention.setFlags_of_empty_kept {a : Attention} {request arm : ClassSet}
    (kept : a.request &&& a.arm = 0#8 → request &&& arm = 0#8) :
    a.setFlags request arm = { a with request := request, arm := arm } := by
  by_cases empty : a.request &&& a.arm = 0#8
  · simp [Attention.setFlags, kept empty]
  · simp [Attention.setFlags, Attention.vector, empty]

/-- Disarming an empty vector's classes disarms none (R152). -/
theorem Attention.read_eq (a : Attention) : a.read = { a with arm := a.arm &&& ~~~(a.request &&& a.arm) } :=
  setFlags_of_empty_kept fun empty => by rw [vector, empty, BitVec.not_zero, BitVec.and_allOnes, empty]

/-- With fewer requests an empty vector stays empty (R154). -/
theorem Attention.setFlags_dismissed (a : Attention) (named : ClassSet) :
    a.setFlags (a.request &&& ~~~named) a.arm = { a with request := a.request &&& ~~~named } :=
  setFlags_of_empty_kept fun empty =>
    calc a.request &&& ~~~named &&& a.arm
      _ = a.request &&& a.arm &&& ~~~named := by rw [BitVec.and_assoc, BitVec.and_comm (~~~named), BitVec.and_assoc]
      _ = 0#8 := by rw [empty, BitVec.zero_and]

/-! ### A class among the named (R149) -/

theorem AttentionClass.ctorIdx_lt (c : AttentionClass) : c.ctorIdx < 8 := by
  cases c <;> decide

/-- A class is one bit, so a class that is among the named is not among the others. -/
theorem AttentionClass.set_and_not {c : AttentionClass} {named : ClassSet} (among : c.set &&& named ≠ 0#8) :
    c.set &&& ~~~named = 0#8 := by
  have one (classes : ClassSet) : c.set &&& classes = if classes.getLsbD c.ctorIdx then c.set else 0#8 := by
    rw [BitVec.and_comm]
    exact BitVec.and_twoPow classes c.ctorIdx
  have bit : named.getLsbD c.ctorIdx = true := by
    by_contra clear
    exact among (by simp [one, clear])
  simp [one, bit]

/-- DISMISS of a class clears its request where it has just been raised too (R154). -/
theorem AttentionClass.dismiss_raised {c : AttentionClass} {named : ClassSet} (among : c.set &&& named ≠ 0#8)
    (request : ClassSet) : (request ||| c.set) &&& ~~~named = request &&& ~~~named := by
  rw [BitVec.and_or_distrib_right, set_and_not among, BitVec.or_zero]

/-- A class raised after its DISMISS joins the vector where it is armed (R150). -/
theorem Attention.raised_after_dismiss_owed_iff (a : Attention) (named cls : ClassSet) :
    (({ a with request := a.request &&& ~~~named } : Attention).setFlags (a.request &&& ~~~named ||| cls) a.arm).owed
        = true ↔
      a.owed = true ∨ (a.request &&& ~~~named &&& a.arm = 0#8 ∧ cls &&& a.arm ≠ 0#8) := by
  rw [setFlags_owed_iff]
  refine or_congr_right (and_congr_right fun empty => ?_)
  rw [BitVec.and_or_distrib_right, empty, BitVec.zero_or]

/-! ### The three requests (R152 to R154) -/

theorem State.attentionBytes_head (s : State) : s.attentionBytes.head? = some s.attention.vector := rfl

theorem exec_readAttention_ready {s : State} (ready : s.Ready) (tag : Byte) :
    exec (.readAttention tag) s =
      .next ((s.taken.modAttention Attention.read).replied 0x48 tag .done s.taken.attentionBytes) :=
  congrArg _ (State.request_ready ready _ _ _)

theorem exec_rearm_ready {s : State} (ready : s.Ready) (tag : Byte) (named : ClassSet) :
    exec (.rearm tag named) s =
      .next ((s.taken.modAttention fun a => a.setFlags a.request (a.arm ||| named)).replied 0x49 tag .done []) :=
  congrArg _ (State.request_ready ready _ _ _)

theorem exec_dismiss_ready {s : State} (ready : s.Ready) (tag : Byte) (named : ClassSet) :
    exec (.dismiss tag named) s =
      .next ((s.taken.modAttention fun a => a.setFlags (a.request &&& ~~~named) a.arm).replied 0x4A tag .done []) :=
  congrArg _ (State.request_ready ready _ _ _)

end Sys2Proof.Machine

open Sys2Proof Sys2Proof.Machine

/-- Settles O13: READ ATTENTION and DISMISS leave an empty vector empty, and so owe no frame; a class is one bit, so a
DISMISS that names it clears it where it was raised first. -/
theorem attentionRequests : Obligations.AttentionRequests := by
  intro s tag named ready
  refine ⟨?read, s.taken.attentionBytes_head, exec_rearm_ready ready tag named, ?dismiss,
    fun c => ⟨rfl, rfl, fun among => ⟨AttentionClass.dismiss_raised among _, rfl, ?owed⟩⟩⟩
  case read =>
    rw [exec_readAttention_ready ready, State.modAttention, Attention.read_eq]
  case dismiss =>
    rw [exec_dismiss_ready ready, State.modAttention, Attention.setFlags_dismissed]
  case owed =>
    simp only [Attention.setFlags_dismissed]
    exact Attention.raised_after_dismiss_owed_iff _ named c.set

end

section
/-! What each command does, once: the decision of each request, the effect of each event, and how `exec` comes to them. The
proofs about all commands (the frame of all commands, the laws that every step keeps) go through these. -/

namespace Sys2Proof.Machine

open Sys2Proof

/-! ### What a request is answered (Table 11-4) -/

/-- The decision of the owner of a request, on the state in which the request is taken; an event has none. -/
def decision : Instr → State → Answer
  | .readBurner _, s => s.done s.burnerBytes
  | .setBurner _ f, s => decideSetBurner f s
  | .resetLockout _, s => decideResetLockout s
  | .startPurge _, s => decideStartPurge s
  | .stopBurner _, s => decideStopBurner s
  | .emergencyStop _, s => (s.emergency .hostStop).settle.done []
  | .mainLight _ lines, s => decideMainLight lines s
  | .homeActuator _ a, s => decideHome a s
  | .moveActuator _ a target, s => decideMove a target.toNat s
  | .stepActuator _ a count, s => decideStep a count.toInt s
  | .stopActuator _ a, s => decideStopActuator a s
  | .configureLine _ line f, s => decideConfigure line f s
  | .postOrders _ line orders, s => decidePost line orders s
  | .clearLine _ line, s => decideClear line s
  | .openLine _ line, s => decideOpen line s
  | .shutLine _ line, s => decideShut line s
  | .readLine _ line, s => decideReadLine line s
  | .readCompletions _ line, s => decideReadCompletions line s
  | .setEnvelope _ f, s => decideSetEnvelope f s
  | .setOperatorCeiling _ value, s => decideSetOperator value.toNat s
  | .clearOperatorCeiling _, s => (s.setOperator none).settle.done []
  | .readHeatBalance _, s => s.done s.heatBytes
  | .startCooler _, s => decideStartCooler s
  | .stopCooler _, s => decideStopCooler s
  | .setGrate _ grate mode value, s => decideSetGrate grate mode value.toNat s
  | .setFanSpeed _ chamber speed, s => decideSetFanSpeed chamber speed.toNat s
  | .blastersOn _, s => (s.modCooler fun c => { c with blasters := true }).done []
  | .blastersOff _, s => (s.endBlasting.modCooler fun c => { c with blasters := false }).done []
  | .setCooler _ f, s => decideSetCooler f s
  | .readCooler _, s => s.done s.coolerBytes
  | .readField _ part, s => decideReadField part s
  | .clearDiagnostics _ record, s => decideClearDiagnostics record s
  | .setDiagMasks _ masks, s => decideSetMasks masks s
  | .setField _ f, s => decideSetField f s
  | .defineAlarm _ point f, s => decideDefine point f s
  | .setAlarm _ threshold window silence, s => decideSetAlarm threshold.toNat window.toNat silence.toNat s
  | .acknowledgePoint _ target point, s => decideAcknowledge target point s
  | .acknowledgeClass _ cls, s => decideAcknowledgeClass cls s
  | .shelve _ point minutes, s => decideShelve point minutes.toNat s
  | .unshelve _ point, s => decideUnshelve point s
  | .disable _ point, s => decideDisable point s
  | .enable _ point, s => decideEnable point s
  | .readAlarmPoint _ point, s => decideReadPoint point s
  | .readAlarmTable _, s => s.done s.tableBytes
  | .readAlarmChanges _, s => decideReadChanges s
  | .readAttention _, s => decideReadAttention s
  | .rearm _ named, s => (s.modAttention fun a => a.setFlags a.request (a.arm ||| named)).done []
  | .dismiss _ named, s => (s.modAttention fun a => a.setFlags (a.request &&& ~~~named) a.arm).done []
  | .setClock _ f, s => decideSetClock f s
  | .setSchedule _ times, s => decideSetSchedule (times.map BitVec.toNat) s
  | .closeShift _, s => decideCloseShift s
  | .peekShift _, s => (s.modShift fun h => { h with peek := some s.snapshot }).done (b4 s.shift.current.sequence)
  | .readPeek _ part, s => decideReadPeek part.toNat s
  | .listReports _, s => s.done s.listBytes
  | .readReport _ sequence part, s => decideReadReport sequence.toNat part.toNat s
  | .releaseReport _ sequence, s => decideRelease sequence.toNat s
  | .ping _, s => s.done s.pingBytes
  | .readStatus _, s => decideReadStatus s
  | .lockGroup _ group, s => decideLock group s
  | .unlockGroup _ group, s => decideUnlock group s
  | .restartCold _ kind, s => decideRestart kind s
  | .restartWarm _, s => ({ s with restartPending := some .warm } : State).done []
  | .unknownTypeRequest _ _, s => s.refuse .unknownType
  | .badLengthRequest _ _ _, s => s.refuse .badLength
  | _, s => s.done []

/-! ### What an event brings about -/

/-- The state that an event's effect leaves, where the event takes place. -/
def occurs (happens : Bool) (after : State) : Option State := if happens then some after else none

theorem occurs_eq_some {happens : Bool} {after t : State} :
    occurs happens after = some t ↔ happens = true ∧ after = t := by
  cases happens <;> simp [occurs]

/-- A phase of a slot that is over brings its effect about, and settles. -/
def State.phaseEnded (s : State) (b : Fin 2) (phase : SlotPhase) (effect : State → Slot → State) : Option State :=
  (s.batches[b.val].slotDue phase s.floorTime).map fun w => (effect s w).settle

/-- What an event that neither starts nor ends a reset brings about while no reset is in progress, before the frames that it
owes are sent; `none` where it does not take place, and for a request. -/
def effect : Instr → State → Option State
  | .frameDiscarded, s => some s.discardFrame
  | .frameGapTimeout, s =>
    some (s.modLink fun l => { l with receiver := l.receiver.afterGap Config.frameGap s.floorTime }).discardFrame
  | .earlyFrameDiscarded, s => occurs s.link.unanswered s.validFrame.discardFrame
  | .scanFrame scan, s => some (s.takeScan scan).settle
  | .scanIgnored, s => some s.ignoreScan
  | .scanGapTimeout, s =>
    some (s.modField fun f =>
      { f with ignoredScans := wrap32 f.ignoredScans, receiver := f.receiver.afterGap Config.scanGap s.floorTime })
  | .scanTimeout, s => occurs (isDue s.field.scanAt s.floorTime) s.loseScans.settle
  | .driveFrameBegin, s => occurs s.field.changedAt.isSome s.beginDrive
  | .driveFrameRefresh, s => occurs (s.field.frameAt + Config.driveRefresh ≤ s.floorTime) s.beginDrive
  | .diRawChange n level, s => some (s.rawChange n level).settle
  | .debounceExpiry n, s =>
    occurs (isDue s.field.inputs[n.val].dueAt s.floorTime) (s.accept n s.field.inputs[n.val].raw).settle
  | .weighPulse l, s => some (s.weigh l).settle
  | .strokePulse g, s => some (s.stroke g).settle
  | .indexPulse, s => some s.indexPulse.settle
  | .kilnStopTimerExpiry, s => occurs (isDue s.field.rotation.stopAt s.floorTime) s.kilnStop.settle
  | .giveUpTimerExpiry, s => occurs (s.burner.giveUpDue s.floorTime) (s.sequenceEnd .purgeTimeout).settle
  | .purgeComplete, s => occurs (s.burner.purgeDue s.floorTime) s.toPrepare.settle
  | .ignitionTrialExpiry, s => occurs (s.burner.ignitionTrialDue s.floorTime) (s.enterLockout .ignitionFail none).settle
  | .flameProofExpiry, s => occurs (s.burner.flameProofDue s.floorTime) s.toPilot.settle
  | .pilotHoldExpiry, s => occurs (s.burner.pilotHoldDue s.floorTime) (s.toIdle .pilotTimeout).settle
  | .mainTrialExpiry, s => occurs (s.burner.mainTrialDue s.floorTime) s.endMainTrial.settle
  | .flameLossExpiry, s => occurs (s.burner.flameLossDue s.floorTime) (s.enterLockout .flameFail none).settle
  | .airLossExpiry, s => occurs (s.burner.airLossDue s.floorTime) (s.enterLockout .airLost none).settle
  | .ceilingRampTick, s =>
    occurs (s.burner.rampDue s.floorTime)
      (s.rampCeiling (secondsSince (s.burner.rampFrom.getD 0) s.floorTime)).settle
  | .actuatorStep a, s =>
    occurs (s.burner.actuators[a.val].stepDue s.floorTime)
      (s.modActuator a fun r => r.stepped s.floorTime s.burner.cfg.stepRate[a.val]).settle
  | .homeStepLimit a, s => occurs s.burner.actuators[a.val].limitReached (s.homeFailed a).settle
  | .actuatorSettleEnd a, s => occurs (s.burner.actuators[a.val].settleDue s.floorTime) (s.settled a).settle
  | .valveProofExpiry v, s => occurs (s.field.valves[v.val].proofDue s.floorTime) (s.proofExpired v).settle
  | .rateRampTick l, s => occurs (s.lines[l.val].rampDue s.floorTime) (s.rampRate l).settle
  | .shutRampTick l, s => occurs (s.lines[l.val].shutRampDue s.floorTime) (s.rampShut l).settle
  | .holdExpiry l, s => occurs (isDue s.lines[l.val].holdAt s.floorTime) (s.completeHead l).settle
  | .measuredRateTick l, s =>
    occurs (s.lines[l.val].measureDue s.floorTime) (s.modLine l fun r => r.measure s.floorTime).settle
  | .deviationTimerExpiry l, s =>
    occurs (isDue s.lines[l.val].deviationAt s.floorTime) (s.modLine l Line.setDeviation).settle
  | .noticeDelayExpiry l, s =>
    occurs (isDue s.lines[l.val].noticeAt s.floorTime)
      ((s.modLine l fun r => { r with noticeAt := none }).setReason l .completion).settle
  | .gateDelayEnd b, s => s.phaseEnded b .gateDelay fun s w => s.beginDrop b w
  | .dropPulseEnd b, s => s.phaseEnded b .drop fun s w => s.endDrop b w
  | .batchSettleEnd b, s => s.phaseEnded b .settle fun s w => s.weighSlot b w
  | .fanStartDelayExpiry, s =>
    occurs (s.cooler.state = .starting && s.cooler.sequenceDue .fanStart s.floorTime) s.startNext.settle
  | .grateStaggerExpiry, s => occurs (s.cooler.sequenceDue .stagger s.floorTime) s.stagger.settle
  | .fanRunOnExpiry, s => occurs (s.cooler.sequenceDue .runOn s.floorTime) s.endRunOn.settle
  | .bedUpdateTick, s => occurs (isDue s.cooler.bedAt s.floorTime) (s.modCooler Cooler.bedTick).settle
  | .releaseTimerExpiry, s =>
    occurs (s.cooler.state = .surge && isDue s.cooler.releaseAt s.floorTime) s.release.settle
  | .grateWatchExpiry g, s => occurs (isDue s.cooler.grates[g.val].watchAt s.floorTime) (s.watchFailed g).settle
  | .lowCurrentExpiry k, s => occurs (isDue s.cooler.chambers[k.val].lowAt s.floorTime) (s.currentFailed k).settle
  | .blasterDue, s => (s.cooler.blasterDue s.floorTime).map fun b => s.decideBlaster b.1 b.2
  | .blasterPulseEnd, s =>
    occurs (isDue (s.cooler.blasterOut.map Prod.snd) s.floorTime) (s.modCooler fun c => { c with blasterOut := none })
  | .onDelayExpiry i, s => occurs (s.alarm.points[i.val].delayDue false s.floorTime) (s.becomeActive i).settle
  | .offDelayExpiry i, s => occurs (s.alarm.points[i.val].delayDue true s.floorTime) (s.becomeInactive i).settle
  | .shelfExpiry, s => (s.alarm.shelfDue s.floorTime).map fun i => (s.unshelvePoint i).settle
  | .reviewTimerExpiry, s => occurs (isDue s.alarm.reviewAt s.floorTime) s.reviewFlood.settle
  | .linkSilenceExpiry, s =>
    occurs (isDue s.link.silenceAt s.floorTime)
      (s.modLink fun l => { l with silenceAt := none, silent := true }).settle
  | .clockSecondTick, s => (s.shift.secondDue s.floorTime).map fun d => (s.advanceClock d.1 d.2).settle
  | _, _ => none

/-! ### How a command comes to its decision or its effect -/

/-- A request's frame goes to its owner's decision (R169). -/
theorem exec_request {c : Instr} {type : Nat} {tag : Byte} (request : requestOf? c = some (type, tag)) (s : State) :
    exec c s = .next (s.request type tag (decision c)) := by
  cases c
  all_goals simp only [requestOf?, reduceCtorEq, Option.some.injEq, Prod.mk.injEq] at request
  all_goals
    obtain ⟨rfl, rfl⟩ := request
    rfl

/-- An event leaves what its effect leaves, with the frames that it owes sent, and nothing where it does not take place. -/
def State.after (s : State) (effect : Option State) : State := effect.elim s State.pump

@[simp] theorem State.after_none (s : State) : s.after none = s := rfl

@[simp] theorem State.after_some (s t : State) : s.after (some t) = t.pump := by
  unfold State.after
  rfl

theorem State.eventIf_after {s : State} (live : s.resetRun = none) (happens : Bool) (f : State → State) :
    s.eventIf happens f = s.after (occurs happens (f s)) := by
  cases happens
  · rfl
  · rw [State.eventIf_live live rfl, occurs, if_pos rfl, State.after_some]

theorem State.event_after {s : State} (live : s.resetRun = none) (f : State → State) :
    s.event f = s.after (some (f s)) := by
  rw [State.event_live live, State.after_some]

theorem State.endPhase_after {s : State} (live : s.resetRun = none) (b : Fin 2) (phase : SlotPhase)
    (f : State → Slot → State) : s.endPhase b phase f = s.after (s.phaseEnded b phase f) := by
  unfold State.endPhase State.phaseEnded
  cases s.batches[b.val].slotDue phase s.floorTime with
  | none => rfl
  | some w => exact State.event_after live _

theorem next_eventIf {s : State} (live : s.resetRun = none) (happens : Bool) (f : State → State) :
    (Host.Outcome.next (s.eventIf happens f) : Result) = .next (s.after (occurs happens (f s))) :=
  congrArg _ (State.eventIf_after live happens f)

theorem next_endPhase {s : State} (live : s.resetRun = none) (b : Fin 2) (phase : SlotPhase)
    (f : State → Slot → State) : (Host.Outcome.next (s.endPhase b phase f) : Result) = .next
      (s.after (s.phaseEnded b phase f)) :=
  congrArg _ (State.endPhase_after live b phase f)

/-- While no reset is in progress an event that neither starts nor ends one leaves what its effect leaves. -/
theorem exec_event {c : Instr} (event : requestOf? c = none) (keeps : resets c = false) {s : State}
    (live : s.resetRun = none) : exec c s = .next (s.after (effect c s)) := by
  cases c
  all_goals simp only [requestOf?, reduceCtorEq] at event
  all_goals simp only [resets, reduceCtorEq] at keeps
  case diRawChange n level =>
    simp only [exec.eq_def, execDiRawChange, live, Option.isSome_none, Bool.false_eq_true, if_false, effect.eq_def,
      State.after_some]
  case blasterDue =>
    simp only [exec.eq_def, execBlasterDue, effect.eq_def]
    cases s.cooler.blasterDue s.floorTime with
    | none => rfl
    | some b => exact congrArg _ (State.event_after live _)
  case shelfExpiry =>
    simp only [exec.eq_def, execShelfExpiry, effect.eq_def]
    cases s.alarm.shelfDue s.floorTime with
    | none => rfl
    | some i => exact congrArg _ (State.event_after live _)
  case clockSecondTick =>
    simp only [exec.eq_def, execClockSecondTick, effect.eq_def]
    cases s.shift.secondDue s.floorTime with
    | none => rfl
    | some d => exact congrArg _ (State.event_after live _)
  case gateDelayEnd b => exact next_endPhase live b _ _
  case dropPulseEnd b => exact next_endPhase live b _ _
  case batchSettleEnd b => exact next_endPhase live b _ _
  case frameDiscarded | frameGapTimeout | scanFrame | scanIgnored | scanGapTimeout | weighPulse | strokePulse |
      indexPulse =>
    rw [effect.eq_def, State.after_some]
    change Host.Outcome.next (s.event _) = _
    rw [State.event_live live]
  all_goals exact next_eventIf live _ _

/-- During a reset an event other than a raw level has no effect (log entry 20). -/
theorem exec_event_in_reset {c : Instr} (event : requestOf? c = none) (keeps : resets c = false) {s : State}
    (held : s.resetRun.isSome = true) (notRaw : ∀ n level, c ≠ .diRawChange n level) : exec c s = .next s := by
  cases c
  all_goals simp only [requestOf?, reduceCtorEq] at event
  all_goals simp only [resets, reduceCtorEq] at keeps
  case diRawChange n level => exact absurd rfl (notRaw n level)
  case blasterDue =>
    simp only [exec.eq_def, execBlasterDue]
    split
    · exact congrArg _ (State.event_reset held _)
    · rfl
  case shelfExpiry =>
    simp only [exec.eq_def, execShelfExpiry]
    split
    · exact congrArg _ (State.event_reset held _)
    · rfl
  case clockSecondTick =>
    simp only [exec.eq_def, execClockSecondTick]
    split
    · exact congrArg _ (State.event_reset held _)
    · rfl
  case gateDelayEnd b | dropPulseEnd b | batchSettleEnd b =>
    unfold exec
    simp only [execGateDelayEnd, execDropPulseEnd, execBatchSettleEnd, State.endPhase]
    split
    · exact congrArg _ (State.event_reset held _)
    · rfl
  case frameDiscarded | frameGapTimeout | scanFrame | scanIgnored | scanGapTimeout | weighPulse | strokePulse |
      indexPulse => exact congrArg _ (State.event_reset held _)
  all_goals exact congrArg _ (State.eventIf_reset held _ _)

/-- A raw level that comes during a reset is the raw level, and nothing else (R110). -/
theorem exec_diRawChange_in_reset {s : State} (held : s.resetRun.isSome = true) (n : Fin 24) (level : Bool) :
    exec (.diRawChange n level) s =
      .next (s.modField fun f => { f with inputs := upd f.inputs n fun d => { d with raw := level } }) := by
  simp only [exec.eq_def, execDiRawChange, held, if_true]

end Sys2Proof.Machine
end

section
/-! What a request's decision can leave: the state as the request found it, or the one change that its command makes. -/

namespace Sys2Proof.Machine

open Sys2Proof

/-- What the decision of a command can make of the state in which the request is taken, with what it has checked that later
proofs need. -/
inductive Decided (s : State) : Instr → State → Prop
  | unchanged (c : Instr) : Decided s c s
  | setBurner {tag f c} (written : s.locked .burner = false ∧ burnerSettings f = some c) :
    Decided s (.setBurner tag f) (s.modBurner fun b => { b with cfg := c }).voteFlame
  | resetLockout {tag} (state : s.burner.state = .lockout) : Decided s (.resetLockout tag) s.leaveLockout.settle
  | startPurge {tag} (state : s.burner.state = .idle) : Decided s (.startPurge tag) s.toPurge.settle
  | stopSequence {tag} (state : s.burner.state = .purge ∨ s.burner.state = .prepare) :
    Decided s (.stopBurner tag) (s.sequenceEnd .stopRequest).settle
  | stopIdle {tag} (state : s.burner.state ≠ .lockout) (closed : s.burner.state.fuel = false ∨ s.anyLive = false) :
    Decided s (.stopBurner tag) (s.toIdle .stopRequest).settle
  | stopFiring {tag} (state : s.burner.state = .mainTrial ∨ s.burner.state = .mainFiring) :
    Decided s (.stopBurner tag) s.toStopping.settle
  | emergencyStop {tag} : Decided s (.emergencyStop tag) (s.emergency .hostStop).settle
  | mainLight {tag set} (named : List (Fin 6)) (state : s.burner.state = .pilot) :
    Decided s (.mainLight tag set) (s.toMainTrial named).settle
  | homeActuator {tag b} (a : Fin 2) : Decided s (.homeActuator tag b) ((s.claimForHost a).startHome a).settle
  | moveActuator {tag b w} (a : Fin 2) (target : Nat) :
    Decided s (.moveActuator tag b w) ((s.claimForHost a).startMove a target).settle
  | stepActuator {tag b w} (a : Fin 2) (target : Nat) :
    Decided s (.stepActuator tag b w) ((s.claimForHost a).startMove a target).settle
  | stopActuator {tag b} (a : Fin 2) : Decided s (.stopActuator tag b) (s.endWork a .stopped).settle
  | configureLine {tag b f} (l : Fin 6) (c : LineSettings) : Decided s (.configureLine tag b f) (s.configure l c).settle
  | postOrders {tag b fields} (l : Fin 6) (orders : List Order)
      (room : s.lines[l.val].queue.length + orders.length ≤ 16 ∨ orders = []) :
    Decided s (.postOrders tag b fields) (s.post l orders).settle
  | clearLine {tag b} (l : Fin 6) : Decided s (.clearLine tag b) (s.clearQueue l).settle
  | openLine {tag b} (l : Fin 6) (state : s.burner.state = .mainFiring) :
    Decided s (.openLine tag b) (s.admitLine l).settle
  | shutOpen {tag b} (l : Fin 6) (state : s.lines[l.val].state = .admitting ∨ s.lines[l.val].state = .opened) :
    Decided s (.shutLine tag b) (s.beginShut l).settle
  | shutFault {tag b} (l : Fin 6) (state : s.lines[l.val].state = .fault) :
    Decided s (.shutLine tag b) (s.enterShut l).settle
  | readLine {tag b} (l : Fin 6) : Decided s (.readLine tag b) (s.modLine l Line.clearReasons)
  | readCompletions {tag b} (l : Fin 6) :
    Decided s (.readCompletions tag b) (s.modLine l fun r => { r with completions := r.completions.drop 8, overrun :=
      false })
  | setEnvelope {tag f} (c : EnvelopeSettings) :
    Decided s (.setEnvelope tag f) ({ s with envelope := c } : State).evaluate.settle
  | setOperator {tag v} (value : Nat) : Decided s (.setOperatorCeiling tag v) (s.setOperator (some value)).settle
  | clearOperator {tag} : Decided s (.clearOperatorCeiling tag) (s.setOperator none).settle
  | startCooler {tag} : Decided s (.startCooler tag) s.beginStart.settle
  | stopCooler {tag} : Decided s (.stopCooler tag) s.beginStop.settle
  | setGrate {tag b m v} (g : Fin 4) (r : Grate) : Decided s (.setGrate tag b m v) (s.modGrate g fun _ => r).settle
  | setFanSpeed {tag b v} (k : Fin 12) (speed : Nat) :
    Decided s (.setFanSpeed tag b v) (s.modChamber k fun r => { r with setSpeed := speed }).settle
  | blastersOn {tag} : Decided s (.blastersOn tag) (s.modCooler fun c => { c with blasters := true })
  | blastersOff {tag} : Decided s (.blastersOff tag) (s.endBlasting.modCooler fun c => { c with blasters := false })
  | setCooler {tag f} (c : CoolerSettings) : Decided s (.setCooler tag f) (s.modCooler fun k => k.withSettings c).settle
  | clearDiagnostics {tag b} (named : List (Fin 23)) : Decided s (.clearDiagnostics tag b) (s.clearRecords named).settle
  | setDiagMasks {tag masks} : Decided s (.setDiagMasks tag masks) (s.remask masks).settle
  | setField {tag f} (c : FieldSettings) : Decided s (.setField tag f) (s.modField fun k => { k with cfg := c })
  | defineAlarm {tag b f} (i : Fin 96) (d : PointDef) (state : s.alarm.points[i.val].state = .disabled) :
    Decided s (.defineAlarm tag b f) (s.modPoint i fun p => { p with defn := d })
  | setAlarm {tag t w q} : Decided s (.setAlarm tag t w q) (s.setAlarm t.toNat w.toNat q.toNat).settle
  | acknowledgePoint {tag t b} (i : Fin 96) : Decided s (.acknowledgePoint tag t b) (s.acknowledge i).1.settle
  | acknowledgeClass {tag b} (cls : PointClass) : Decided s (.acknowledgeClass tag b) (s.acknowledgeClass cls).1.settle
  | shelve {tag b m} (i : Fin 96) (expiry : Nat)
      (room : s.alarm.points[i.val].state = .shelved ∨ s.alarm.shelf.length < 16) :
    Decided s (.shelve tag b m) (s.shelvePoint i expiry).settle
  | unshelve {tag b} (i : Fin 96) (state : s.alarm.points[i.val].state = .shelved) :
    Decided s (.unshelve tag b) (s.unshelvePoint i).settle
  | disable {tag b} (i : Fin 96) : Decided s (.disable tag b) (s.disablePoint i).settle
  | enable {tag b} (i : Fin 96) (state : s.alarm.points[i.val].state = .disabled) :
    Decided s (.enable tag b) (s.enablePoint i).settle
  | readAlarmChanges {tag} :
    Decided s (.readAlarmChanges tag) (s.modAlarm fun a => { a with changes := a.changes.drop 12, overrun := false })
  | attention (c : Instr) (f : Attention → Attention) : Decided s c (s.modAttention f)
  | setClock {tag f} (d : DateTime) :
    Decided s (.setClock tag f)
      ((s.addEvent (.clockSet s.shift.calendar d)).modShift fun h => { h with clock := some (d, s.floorTime + 1000) })
  | setSchedule {tag w} (times : List Nat) : Decided s (.setSchedule tag w)
    (s.modShift fun h => { h with schedule := times })
  | closeShift {tag} : Decided s (.closeShift tag) (s.closeShift .request .request 0).settle
  | peekShift {tag} : Decided s (.peekShift tag) (s.modShift fun h => { h with peek := some s.snapshot })
  | releaseReport {tag w} (sequence : Nat) :
    Decided s (.releaseReport tag w) (s.modShift fun h => { h with store := release sequence h.store })
  | readStatus {tag} : Decided s (.readStatus tag) (s.modLink fun l => { l with discarded := 0 })
  | lockGroup {tag b} (g : LockGroup) : Decided s (.lockGroup tag b) (s.setLock g true)
  | unlockGroup {tag b} (g : LockGroup) : Decided s (.unlockGroup tag b) (s.setLock g false)
  | restart (c : Instr) (kind : ResetKind) : Decided s c { s with restartPending := some kind }

/-- A refusal, and an answer that only reads, leave the state as the request found it. -/
theorem Decided.refuse (s : State) (c : Instr) (status : Status) : Decided s c (s.refuse status).state := .unchanged c

theorem Decided.refuseWith (s : State) (c : Instr) (status : Status) (content : List Byte) :
    Decided s c (s.refuseWith status content).state := .unchanged c

theorem Decided.done (s : State) (c : Instr) (content : List Byte) : Decided s c (s.done content).state := .unchanged c

/-- Says once what each decision can leave. -/
theorem decision_decided (c : Instr) (s : State) : Decided s c (decision c s).state := by
  have refuse := Decided.refuse s
  have refuseWith := Decided.refuseWith s
  have done := Decided.done s
  cases c
  case setBurner tag f =>
    rw [decision, decideSetBurner]
    split
    · exact refuse _ _
    · rename_i unlocked
      split
      · exact .setBurner ⟨by simpa using unlocked, ‹_›⟩
      · exact refuse _ _
  case resetLockout =>
    rw [decision, decideResetLockout]
    split
    · split
      · exact .resetLockout ‹_›
      · exact refuse _ _
    · exact refuse _ _
  case startPurge =>
    rw [decision, decideStartPurge]
    split
    · split
      · exact .startPurge ‹_›
      · exact refuseWith _ _ _
    · exact refuseWith _ _ _
  case stopBurner =>
    rw [decision, decideStopBurner]
    split
    case h_1 state | h_2 state => exact .stopSequence (by simp [state])
    case h_3 state | h_4 state => exact .stopIdle (by simp [state]) (.inl (by simp [state, BurnerState.fuel]))
    case h_5 state | h_6 state =>
      split
      · exact .stopFiring (by simp [state])
      · exact .stopIdle (by simp [state]) (.inr (by simp_all))
    all_goals exact refuse _ _
  case emergencyStop => exact .emergencyStop
  case mainLight =>
    rw [decision, decideMainLight]
    split
    · exact refuse _ _
    · split
      · dsimp only
        split
        · exact .mainLight _ ‹_›
        · exact refuseWith _ _ _
      · exact refuseWith _ _ _
  case homeActuator =>
    rw [decision, decideHome]
    split
    · exact refuse _ _
    · split
      · exact refuse _ _
      · exact .homeActuator _
  case moveActuator =>
    rw [decision, decideMove]
    split
    · exact refuse _ _
    · split
      · exact refuse _ _
      · exact refuse _ _
      · split
        · exact .moveActuator _ _
        · exact refuse _ _
  case stepActuator =>
    rw [decision, decideStep]
    split
    · exact refuse _ _
    · split
      · exact refuse _ _
      · exact refuse _ _
      · split
        · exact .stepActuator _ _
        · exact refuse _ _
  case stopActuator =>
    rw [decision, decideStopActuator]
    split
    · exact refuse _ _
    · split
      · exact refuse _ _
      · split
        · exact done _ _
        · exact .stopActuator _
  case configureLine =>
    rw [decision, decideConfigure]
    split
    · exact refuse _ _
    · split
      · exact refuse _ _
      · split
        · exact refuse _ _
        · dsimp only
          split
          · exact refuse _ _
          · split
            · exact refuse _ _
            · exact .configureLine _ _
  case postOrders tag b fields =>
    rw [decision, decidePost]
    split
    · exact refuse _ _
    · split
      · exact refuse _ _
      · split
        · exact refuse _ _
        · split
          · exact refuse _ _
          · dsimp only
            split
            · exact refuse _ _
            · rename_i orders _ room
              refine .postOrders _ _ ?_
              rw [← List.length_eq_zero_iff]
              omega
  case clearLine =>
    rw [decision, decideClear]
    split
    · exact refuse _ _
    · exact .clearLine _
  case openLine =>
    rw [decision, decideOpen]
    split
    · exact refuse _ _
    · split
      · exact refuse _ _
      · rename_i firing
        split
        · exact refuse _ _
        · split
          · exact refuse _ _
          · exact .openLine _ (not_not.1 firing)
  case shutLine =>
    rw [decision, decideShut]
    split
    · exact refuse _ _
    · split
      case h_1 state | h_2 state => exact .shutOpen _ (by simp [state])
      case h_3 | h_4 => exact done _ _
      case h_5 state => exact .shutFault _ state
  case readLine =>
    rw [decision, decideReadLine]
    split
    · exact refuse _ _
    · exact .readLine _
  case readCompletions =>
    rw [decision, decideReadCompletions]
    split
    · exact refuse _ _
    · exact .readCompletions _
  case setEnvelope =>
    rw [decision, decideSetEnvelope]
    split
    · exact refuse _ _
    · split
      · exact .setEnvelope _
      · exact refuse _ _
  case setOperatorCeiling =>
    rw [decision, decideSetOperator]
    split
    · exact .setOperator _
    · exact refuse _ _
  case clearOperatorCeiling => exact .clearOperator
  case startCooler =>
    rw [decision, decideStartCooler]
    split
    · split
      · exact refuse _ _
      · exact .startCooler
    · exact refuse _ _
    · exact refuse _ _
    · exact done _ _
    · exact done _ _
  case stopCooler =>
    rw [decision, decideStopCooler]
    split
    case h_1 | h_2 => exact done _ _
    all_goals
      split
      · exact .stopCooler
      · exact refuse _ _
  case setGrate =>
    rw [decision, decideSetGrate]
    split
    · exact refuse _ _
    · split
      · exact .setGrate _ _
      · exact refuse _ _
  case setFanSpeed =>
    rw [decision, decideSetFanSpeed]
    split
    · exact refuse _ _
    · split
      · exact .setFanSpeed _ _
      · exact refuse _ _
  case blastersOn => exact .blastersOn
  case blastersOff => exact .blastersOff
  case setCooler =>
    rw [decision, decideSetCooler]
    split
    · exact refuse _ _
    · split
      · exact .setCooler _
      · exact refuse _ _
  case readField =>
    rw [decision, decideReadField]
    split
    · exact done _ _
    · exact done _ _
    · exact done _ _
    · exact refuse _ _
  case clearDiagnostics =>
    rw [decision, decideClearDiagnostics]
    split
    · exact refuse _ _
    · exact .clearDiagnostics _
  case setDiagMasks =>
    rw [decision, decideSetMasks]
    split
    · exact refuse _ _
    · exact .setDiagMasks
  case setField =>
    rw [decision, decideSetField]
    split
    · exact refuse _ _
    · split
      · exact .setField _
      · exact refuse _ _
  case defineAlarm =>
    rw [decision, decideDefine]
    split
    · exact refuse _ _
    · split
      · exact refuse _ _
      · split
        · exact refuse _ _
        · rename_i disabled
          split
          · exact .defineAlarm _ _ (not_not.1 disabled)
          · exact refuse _ _
  case setAlarm =>
    rw [decision, decideSetAlarm]
    split
    · exact refuse _ _
    · split
      · exact .setAlarm
      · exact refuse _ _
  case acknowledgePoint =>
    rw [decision, decideAcknowledge]
    split
    · exact refuse _ _
    · split
      · exact refuse _ _
      · exact .acknowledgePoint _
  case acknowledgeClass =>
    rw [decision, decideAcknowledgeClass]
    split
    · exact refuse _ _
    · exact .acknowledgeClass _
  case shelve =>
    rw [decision, decideShelve]
    split
    · exact refuse _ _
    · split
      · exact refuse _ _
      · dsimp only
        split
        · exact refuse _ _
        · split
          · exact refuse _ _
          · split
            · exact refuse _ _
            · rename_i room
              refine .shelve _ _ ?_
              simp only [ne_eq, Bool.and_eq_true, decide_eq_true_eq, not_and, not_le] at room
              exact (em _).imp_right room
  case unshelve =>
    rw [decision, decideUnshelve]
    split
    · exact refuse _ _
    · split
      · exact .unshelve _ ‹_›
      · exact done _ _
  case disable =>
    rw [decision, decideDisable]
    split
    · exact refuse _ _
    · dsimp only
      split
      · exact done _ _
      · split
        · exact refuse _ _
        · exact .disable _
  case enable =>
    rw [decision, decideEnable]
    split
    · exact refuse _ _
    · split
      · exact .enable _ ‹_›
      · exact done _ _
  case readAlarmPoint =>
    rw [decision, decideReadPoint]
    split
    · exact refuse _ _
    · exact done _ _
  case readAlarmChanges => exact .readAlarmChanges
  case readAttention => exact .attention _ _
  case rearm | dismiss =>
    rw [decision, (State.done_parts _ _).1]
    exact .attention _ _
  case setClock =>
    rw [decision, decideSetClock]
    split
    · exact refuse _ _
    · exact .setClock _
  case setSchedule =>
    rw [decision, decideSetSchedule]
    split
    · exact refuse _ _
    · split
      · exact refuse _ _
      · split
        · exact .setSchedule _
        · exact refuse _ _
  case closeShift => exact .closeShift
  case peekShift => exact .peekShift
  case readPeek =>
    rw [decision, decideReadPeek]
    split
    · split
      · exact done _ _
      · exact refuse _ _
    · exact refuse _ _
  case readReport =>
    rw [decision, decideReadReport]
    split
    · split
      · exact done _ _
      · exact refuse _ _
    · exact refuse _ _
  case releaseReport =>
    rw [decision, decideRelease]
    split
    · exact .releaseReport _
    · exact refuse _ _
  case readStatus => exact .readStatus
  case lockGroup =>
    rw [decision, decideLock]
    split
    · exact refuse _ _
    · exact .lockGroup _
  case unlockGroup =>
    rw [decision, decideUnlock]
    split
    · exact refuse _ _
    · split
      · exact refuse _ _
      · exact .unlockGroup _
  case restartCold =>
    rw [decision, decideRestart]
    split
    · exact .restart _ _
    · exact refuse _ _
  case restartWarm => exact .restart _ _
  all_goals exact .unchanged _

end Sys2Proof.Machine
end

section
/-! How a law is carried through a step: what a law must be kept by, so that every step keeps it. -/

namespace Sys2Proof.Machine

open Sys2Proof

/-- `t` differs from `s` in nothing that a law of the blocks speaks of: in the floor time, the pins and causes of a reset,
the link port, the attention unit and the queue only, and the part is in a reset in the one as in the other. -/
def Beside (s t : State) : Prop :=
  t.resetRun.isSome = s.resetRun.isSome ∧ SameBut [.time, .reset, .link, .attention, .queue] s t

/-- What a law must be kept by. -/
structure Kept (P : State → Prop) : Prop where
  beside : ∀ {s t : State}, Beside s t → P s → P t
  settle : ∀ {s : State}, P s → P s.settle
  decision : ∀ (c : Instr) {s : State}, s.resetRun = none → P s → P (decision c s).state
  effect : ∀ (c : Instr) {s t : State}, s.resetRun = none → effect c s = some t → P s → P t
  raw : ∀ {s : State} (n : Fin 24) (level : Bool), P s →
    P (s.modField fun f => { f with inputs := upd f.inputs n fun d => { d with raw := level } })
  beginReset : ∀ {s : State} (kind : ResetKind) (cause : RestartCause) (restart : Bool), P s →
    P (s.beginReset kind cause restart)
  endReset : ∀ {s : State}, P s → P s.endReset

theorem Beside.trans {s t u : State} (first : Beside s t) (second : Beside t u) : Beside s u := by
  refine ⟨second.1.trans first.1, fun b hb => ?_⟩
  have h1 := first.2 b hb
  have h2 := second.2 b hb
  cases b <;> simp_all [Block.Same]

theorem Beside.pump (s : State) : Beside s s.pump := by
  refine ⟨by simp, fun b hb => ?_⟩
  cases b <;> simp_all [Block.Same]

theorem Beside.discardFrame (s : State) : Beside s s.discardFrame := by
  refine ⟨by simp, fun b hb => ?_⟩
  cases b <;> simp_all [Block.Same]

theorem Beside.modLink (s : State) (f : Link → Link) : Beside s (s.modLink f) := by
  refine ⟨by simp, fun b hb => ?_⟩
  cases b <;> simp_all [Block.Same]

theorem Beside.queued (s : State) (queue : List Instr) : Beside s { s with pending := queue } := by
  refine ⟨rfl, fun b hb => ?_⟩
  cases b <;> simp_all [Block.Same]

theorem Beside.timed (s : State) (now : Nat) : Beside s { s with floorTime := now } := by
  refine ⟨rfl, fun b hb => ?_⟩
  cases b <;> simp_all [Block.Same]

theorem Beside.pins (s : State) (pin supply : Bool) : Beside s { s with pinLow := pin, supplyLow := supply } := by
  refine ⟨rfl, fun b hb => ?_⟩
  cases b <;> simp_all [Block.Same]

theorem Beside.run {s : State} {run : ResetRun} (held : s.resetRun = some run) (other : ResetRun) :
    Beside s { s with resetRun := some other } := by
  refine ⟨by simp [held], fun b hb => ?_⟩
  cases b <;> simp_all [Block.Same]

namespace Kept

variable {P : State → Prop} (kept : Kept P)
include kept

theorem validFrame {s : State} (law : P s) : P s.validFrame := by
  unfold State.validFrame
  dsimp only
  split
  · exact kept.settle (kept.beside (Beside.modLink s _) law)
  · exact kept.beside (Beside.modLink s _) law

theorem request {s : State} (law : P s) {c : Instr} {type : Nat} {tag : Byte} :
    P (s.request type tag (Machine.decision c)) := by
  unfold State.request
  split
  · exact law
  · rename_i live
    have heard := kept.validFrame law
    dsimp only
    split
    · exact kept.beside ((Beside.discardFrame _).trans (Beside.pump _)) heard
    · refine kept.beside ((Beside.modLink _ _).trans (Beside.pump _)) (kept.decision c ?_ ?_)
      · simpa using live
      · exact kept.beside (Beside.modLink _ _) heard

theorem endFrame {s : State} (law : P s) : P s.endFrame := by
  unfold State.endFrame
  split
  · exact law
  · dsimp only
    split
    · exact kept.beginReset _ _ _ (kept.beside (Beside.modLink _ _) law)
    · exact kept.beside ((Beside.modLink _ _).trans (Beside.pump _)) law

theorem endRestart {s : State} (law : P s) : P s.endRestart := by
  unfold State.endRestart
  split
  · rename_i run held
    split
    · exact kept.endReset (kept.beside (Beside.run held _) law)
    · exact law
  · exact law

/-- A command that starts or ends a reset keeps the law. -/
theorem resetting {c : Instr} (resetting : resets c = true) {s t : State} (law : P s) (done : exec c s = .next t) :
    P t := by
  have pins (pin supply : Bool) := kept.beside (Beside.pins s pin supply) law
  cases c
  all_goals simp only [resets, reduceCtorEq] at resetting
  case frameSendEnd =>
    obtain rfl := Host.Outcome.next.inj done
    split
    · exact law
    · exact kept.endFrame law
  case restartResetEnd =>
    obtain rfl := Host.Outcome.next.inj done
    exact kept.endRestart law
  case resetPinAssert =>
    obtain rfl := Host.Outcome.next.inj done
    split
    · exact law
    · exact kept.beginReset _ _ _ (pins true s.supplyLow)
  case resetPinRelease =>
    obtain rfl := Host.Outcome.next.inj done
    split
    · exact kept.endReset (pins false s.supplyLow)
    · exact law
  case supplyFall =>
    obtain rfl := Host.Outcome.next.inj done
    split
    · exact law
    · exact kept.beginReset _ _ _ (pins s.pinLow true)
  case supplyRestore =>
    obtain rfl := Host.Outcome.next.inj done
    split
    · exact kept.endReset (pins s.pinLow false)
    · exact law

/-- A command keeps the law. -/
theorem exec {c : Instr} {s t : State} (law : P s) (done : exec c s = .next t) : P t := by
  match request : requestOf? c with
  | some (type, tag) =>
    rw [exec_request request] at done
    obtain rfl := Host.Outcome.next.inj done
    exact kept.request law
  | none =>
    cases starts : resets c with
    | true => exact kept.resetting starts law done
    | false =>
      cases held : s.resetRun with
      | none =>
        rw [exec_event request starts held] at done
        obtain rfl := Host.Outcome.next.inj done
        cases brought : Machine.effect c s with
        | none => exact law
        | some u => exact kept.beside (Beside.pump u) (kept.effect c held brought law)
      | some run =>
        have held : s.resetRun.isSome = true := by rw [held]; rfl
        by_cases raw : ∃ n level, c = .diRawChange n level
        · obtain ⟨n, level, rfl⟩ := raw
          rw [exec_diRawChange_in_reset held] at done
          obtain rfl := Host.Outcome.next.inj done
          exact kept.raw n level law
        · rw [exec_event_in_reset request starts held fun n level e => raw ⟨n, level, e⟩] at done
          obtain rfl := Host.Outcome.next.inj done
          exact law

/-- Every step keeps the law. -/
theorem step {s t : State} (law : P s) (done : step s = .next t) : P t := by
  unfold Machine.step at done
  split at done
  · exact kept.exec (kept.beside (Beside.queued s _) law) done
  · obtain rfl := Host.Outcome.next.inj done
    unfold State.idle
    split
    · unfold State.tick
      split
      · exact law
      · exact kept.beside (Beside.timed s _) law
    · exact kept.beside (Beside.queued s _) law

end Kept

end Sys2Proof.Machine
end

section
/-! The control law and the flame law through every step (R2, R4, R13, R34, R35). -/

namespace Sys2Proof.Machine

open Sys2Proof

/-! ### The control law -/

/-- Nothing of the control view is changed. -/
def SameControl (s t : State) : Prop := t.face = s.face ∧ t.lineState = s.lineState ∧ t.valveOpen = s.valveOpen

theorem SameControl.controlled {s t : State} (same : SameControl s t) (law : s.controlled) : t.controlled :=
  State.controlled_of same.1 same.2.1 same.2.2 law

theorem Beside.sameControl {s t : State} (beside : Beside s t) : SameControl s t :=
  ⟨State.face_of (beside.2 .burner (by decide)), State.lineState_of (beside.2 .lines (by decide)),
    State.valveOpen_of (beside.2 .field (by decide))⟩

/-- What a request's decision leaves is within the control law. -/
theorem Decided.controlled {c : Instr} {s t : State} (decided : Decided s c t) (law : s.controlled) : t.controlled := by
  have same {t : State} (h : SameControl s t) : t.controlled := h.controlled law
  have settled {t : State} (h : SameControl s t) : t.settle.controlled := State.settle_controlled (same h)
  cases decided
  case unchanged => exact law
  case setBurner => exact same ⟨by simp, by simp, by simp⟩
  case resetLockout state => exact State.settle_controlled (State.leaveLockout_controlled law state)
  case startPurge state => exact State.settle_controlled (State.toPurge_controlled law state)
  case stopSequence state => exact State.settle_controlled (State.sequenceEnd_controlled _ law state)
  case stopIdle state closed =>
    exact State.settle_controlled (State.toIdle_controlled law state (closed.elim law.noLive State.noLive_of))
  case stopFiring state => exact State.settle_controlled (State.toStopping_controlled law state)
  case emergencyStop => exact State.settle_controlled (State.emergency_controlled _ law)
  case mainLight named state => exact State.settle_controlled (State.toMainTrial_controlled named law state)
  case openLine l state =>
    exact State.settle_controlled (State.admitLine_controlled l law (by simp [state, BurnerState.fuel]))
  case shutOpen l state =>
    have live : (s.lineState l).live = true := by
      obtain state | state := state <;> simp [State.lineState, state, LineState.live]
    exact State.settle_controlled (State.beginShut_controlled l law live)
  case shutFault l state =>
    obtain ⟨-, -, -, -, -, valves⟩ := id law
    have closed : s.valveOpen (svOf l) = false := by
      by_contra opened
      simpa [State.lineState, state, LineState.live] using valves l (by simpa using opened)
    exact State.settle_controlled (State.enterShut_controlled l law closed)
  case stopCooler => exact State.settle_controlled (State.beginStop_controlled law)
  case clearDiagnostics => exact State.settle_controlled (State.clearRecords_controlled _ law)
  case setDiagMasks => exact State.settle_controlled (State.remask_controlled _ law)
  case unshelve => exact State.settle_controlled (State.unshelvePoint_controlled _ law)
  case enable => exact State.settle_controlled (State.enablePoint_controlled _ law)
  case setEnvelope => exact settled ⟨by simp; rfl, by simp; rfl, by simp; rfl⟩
  case readLine | readCompletions | blastersOn | blastersOff | setField | defineAlarm | readAlarmChanges | attention |
      setClock | setSchedule | peekShift | releaseReport | readStatus | lockGroup | unlockGroup =>
    exact same ⟨by simp, by simp, by simp⟩
  case restart => exact law
  all_goals exact settled ⟨by simp, by simp, by simp⟩

theorem Burner.state_of_due {b : Burner} {belongs : BurnerState → Bool} {t : Option Nat} {now : Nat}
    (due : b.due belongs t now = true) : belongs b.state = true := by
  simp only [Burner.due, Bool.and_eq_true] at due
  exact due.1

/-- What an event brings about is within the control law. -/
theorem effect_controlled {c : Instr} {s t : State} (brought : effect c s = some t) (law : s.controlled) :
    t.controlled := by
  have same {t : State} (h : SameControl s t) : t.controlled := h.controlled law
  have settled {t : State} (h : SameControl s t) : t.settle.controlled := State.settle_controlled (same h)
  have entered (cause : Cause) : (s.enterLockout cause none).settle.controlled :=
    State.settle_controlled (s.enterLockout_controlled cause none)
  cases c
  all_goals simp only [effect.eq_def, reduceCtorEq, Option.some.injEq, occurs_eq_some, State.phaseEnded,
  Option.map_eq_some_iff]
    at brought
  case frameDiscarded | frameGapTimeout | scanIgnored | scanGapTimeout =>
    subst brought
    exact same ⟨by simp, by simp, by simp⟩
  case earlyFrameDiscarded =>
    obtain ⟨-, rfl⟩ := brought
    exact SameControl.controlled ⟨by simp, by simp, by simp⟩ (State.validFrame_controlled law)
  case driveFrameBegin | driveFrameRefresh | blasterPulseEnd =>
    obtain ⟨-, rfl⟩ := brought
    exact same ⟨by simp, by simp, by simp⟩
  case diRawChange n level =>
    subst brought
    exact State.settle_controlled (State.rawChange_controlled n level law)
  case debounceExpiry n =>
    obtain ⟨-, rfl⟩ := brought
    exact State.settle_controlled (State.accept_controlled n _ law)
  case giveUpTimerExpiry =>
    obtain ⟨due, rfl⟩ := brought
    have state : s.burner.state = .purge := by simpa using Burner.state_of_due due
    exact State.settle_controlled (State.sequenceEnd_controlled _ law (.inl state))
  case purgeComplete =>
    obtain ⟨due, rfl⟩ := brought
    have state : s.burner.state = .purge := by simpa using Burner.state_of_due due
    exact State.settle_controlled (State.toPrepare_controlled law state)
  case flameProofExpiry =>
    obtain ⟨due, rfl⟩ := brought
    have state : s.burner.state = .ignition := by simpa using Burner.state_of_due due
    exact State.settle_controlled (State.toPilot_controlled law state)
  case pilotHoldExpiry =>
    obtain ⟨due, rfl⟩ := brought
    have state : s.burner.state = .pilot := by simpa using Burner.state_of_due due
    exact State.settle_controlled
      (State.toIdle_controlled law (by simp [state]) (law.noLive (by simp [state, BurnerState.fuel])))
  case mainTrialExpiry =>
    obtain ⟨due, rfl⟩ := brought
    have state : s.burner.state = .mainTrial := by simpa using Burner.state_of_due due
    exact State.settle_controlled (State.endMainTrial_controlled law state)
  case ignitionTrialExpiry | flameLossExpiry | airLossExpiry =>
    obtain ⟨-, rfl⟩ := brought
    exact entered _
  case homeStepLimit a =>
    obtain ⟨-, rfl⟩ := brought
    exact State.settle_controlled (State.homeFailed_controlled a law)
  case actuatorSettleEnd a =>
    obtain ⟨-, rfl⟩ := brought
    exact State.settle_controlled (State.settled_controlled a law)
  case valveProofExpiry v =>
    obtain ⟨-, rfl⟩ := brought
    exact State.settle_controlled (State.proofExpired_controlled v law)
  case shutRampTick l =>
    obtain ⟨-, rfl⟩ := brought
    exact State.settle_controlled (State.rampShut_controlled l law)
  case fanRunOnExpiry =>
    obtain ⟨-, rfl⟩ := brought
    exact State.settle_controlled (State.endRunOn_controlled law)
  case grateWatchExpiry g =>
    obtain ⟨-, rfl⟩ := brought
    exact State.settle_controlled (State.watchFailed_controlled g law)
  case lowCurrentExpiry k =>
    obtain ⟨-, rfl⟩ := brought
    exact State.settle_controlled (State.currentFailed_controlled k law)
  case onDelayExpiry i =>
    obtain ⟨-, rfl⟩ := brought
    exact State.settle_controlled (State.becomeActive_controlled i law)
  case offDelayExpiry i =>
    obtain ⟨-, rfl⟩ := brought
    exact State.settle_controlled (State.becomeInactive_controlled i law)
  case shelfExpiry =>
    obtain ⟨i, -, rfl⟩ := brought
    exact State.settle_controlled (State.unshelvePoint_controlled i law)
  case reviewTimerExpiry =>
    obtain ⟨-, rfl⟩ := brought
    exact State.settle_controlled (State.reviewFlood_controlled law)
  case blasterDue =>
    obtain ⟨b, -, rfl⟩ := brought
    exact same ⟨by simp, by simp, by simp⟩
  case gateDelayEnd | dropPulseEnd | batchSettleEnd | clockSecondTick =>
    obtain ⟨w, -, rfl⟩ := brought
    exact settled ⟨by simp, by simp, by simp⟩
  case scanFrame | weighPulse | strokePulse | indexPulse =>
    subst brought
    exact settled ⟨by simp, by simp, by simp⟩
  all_goals
    obtain ⟨-, rfl⟩ := brought
    exact settled ⟨by simp, by simp, by simp⟩

theorem controlLaw_kept : Kept ControlLaw where
  beside beside law live := beside.sameControl.controlled (law (by simpa [live] using beside.1))
  settle law live := State.settle_controlled (law (by simpa using live))
  decision c s live law _ := (decision_decided c s).controlled (law live)
  effect _ _ _ live brought law _ := effect_controlled brought (law live)
  raw n level law live := SameControl.controlled ⟨by simp, by simp, by simp⟩ (law (by simpa using live))
  beginReset kind cause restart _ := State.beginReset_law _ kind cause restart
  endReset law := State.endReset_law _ law

/-! ### The flame law -/

theorem Decided.flameLaw {c : Instr} {s t : State} (decided : Decided s c t) (law : FlameLaw s) : FlameLaw t := by
  cases decided
  case unchanged => exact law
  case setBurner => exact State.voteFlame_law _
  case restart => exact law.of rfl rfl rfl
  all_goals exact law.of (by simp) (by simp) (by simp)

theorem effect_flameLaw {c : Instr} {s t : State} (brought : effect c s = some t) (law : FlameLaw s) : FlameLaw t := by
  have settled {u : State} (h : FlameLaw u) : FlameLaw u.settle := h.of (by simp) (by simp) (by simp)
  cases c
  all_goals simp only [effect.eq_def, reduceCtorEq, Option.some.injEq, occurs_eq_some, State.phaseEnded,
  Option.map_eq_some_iff]
    at brought
  case diRawChange n level =>
    subst brought
    exact settled (State.rawChange_law n level law)
  case debounceExpiry n =>
    obtain ⟨-, rfl⟩ := brought
    exact settled (State.accept_law n _ law)
  case frameDiscarded | frameGapTimeout | scanIgnored | scanGapTimeout | scanFrame | weighPulse | strokePulse |
      indexPulse =>
    subst brought
    exact law.of (by simp) (by simp) (by simp)
  case gateDelayEnd | dropPulseEnd | batchSettleEnd | clockSecondTick | blasterDue | shelfExpiry =>
    obtain ⟨w, -, rfl⟩ := brought
    exact law.of (by simp) (by simp) (by simp)
  all_goals
    obtain ⟨-, rfl⟩ := brought
    exact law.of (by simp) (by simp) (by simp)

theorem Beside.flameLaw {s t : State} (beside : Beside s t) (law : FlameLaw s) : FlameLaw t := by
  have burner : t.burner = s.burner := beside.2 .burner (by decide)
  have field : t.field = s.field := beside.2 .field (by decide)
  exact law.of (by rw [burner]) (by rw [burner]) (by rw [field])

theorem flameLaw_kept : Kept FlameLaw where
  beside := Beside.flameLaw
  settle law := law.of (by simp) (by simp) (by simp)
  decision c s _ law := (decision_decided c s).flameLaw law
  effect _ _ _ _ brought law := effect_flameLaw brought law
  raw n level law := law.modInput n _ fun _ _ => rfl
  beginReset kind cause restart law := State.beginReset_flameLaw kind cause restart law
  endReset law := State.endReset_flameLaw law

end Sys2Proof.Machine

open Sys2Proof Sys2Proof.Machine

/-- Settles O55: each law is kept by every decision, every effect, what settles and both ends of a reset. -/
theorem stepKeepsControlAndFlameLaws : Obligations.StepKeepsControlAndFlameLaws :=
  ⟨fun _ _ law done => controlLaw_kept.step law done, fun _ _ law done => flameLaw_kept.step law done⟩

end

section
/-! What the operations within an event keep, block by block, said once for all of them: the settings and the signals, and
the laws of the counts, the capacities, the report sequence, the heat, the shelf and the horn. An operation that writes a
setting, brings a signal, or is in the midst of a change of a point's state keeps all but that. -/

namespace Sys2Proof.Machine

open Sys2Proof

/-! ### The laws of one block -/

/-- The count law of one line (R43). -/
def Line.accounted (r : Line) : Prop :=
  r.posted = r.queue.length + r.retired + r.discarded ∧ r.queue.length ≤ 16

/-- The heat law of the heat table (R80, R82). -/
def Heat.balanced (h : Heat) : Prop :=
  h.totalAllowed ≤ h.effective ∧ h.totalAllowed = (h.entries.toList.map HeatEntry.allowed).sum ∧
    ∀ l : Fin 6, h.entries[l.val].allowed ≤ h.entries[l.val].requested

/-- The shelf law of the alarm unit (R137, R138). -/
def Alarm.shelved (a : Alarm) : Prop :=
  (a.shelf.map Prod.fst).Nodup ∧ a.shelf.length ≤ 16 ∧ a.shelf.Pairwise (fun x y => x.2 ≤ y.2) ∧
    ∀ i : Fin 96, a.points[i.val].state = .shelved ↔ i ∈ a.shelf.map Prod.fst

/-- The horn law of the alarm unit outside a reset (R135). -/
def Alarm.rung (a : Alarm) : Prop := a.horn = hornOf a.points ∧ a.standing = standingOf a.points

/-- The sequences of the stored reports and of the open shift (R163). -/
def Shift.sequences (h : Shift) : List Nat := h.store.map (fun r => r.shift.sequence) ++ [h.current.sequence]

/-! ### What a block keeps -/

structure Line.Kept (writes : Bool) (r q : Line) : Prop where
  cfg : writes = false → q.cfg = r.cfg
  accounted : r.accounted → q.accounted
  completions : r.completions.length ≤ 16 → q.completions.length ≤ 16

structure Field.Kept (writes hears : Bool) (f g : Field) : Prop where
  cfg : writes = false → g.cfg = f.cfg
  checked : writes = false → ∀ r : Fin 23, g.records[r.val].checked = f.records[r.val].checked
  kinds : writes = false →
    (g.openCheck, g.closeCheck, g.motionCheck) = (f.openCheck, f.closeCheck, f.motionCheck)
  signals : hears = false →
    g.inputs = f.inputs ∧ g.counters = f.counters ∧ g.rotation = f.rotation ∧ g.channels = f.channels ∧
      g.scanAt = f.scanAt ∧ g.linkFault = f.linkFault ∧ g.lastScan = f.lastScan ∧ g.validScans = f.validScans ∧
      g.ignoredScans = f.ignoredScans

structure Alarm.Kept (writes points : Bool) (a b : Alarm) : Prop where
  defn : writes = false → ∀ i : Fin 96, b.points[i.val].defn = a.points[i.val].defn
  cfg : writes = false →
    b.floodThreshold = a.floodThreshold ∧ b.floodWindow = a.floodWindow ∧ b.silenceTime = a.silenceTime
  changes : a.changes.length ≤ 128 → b.changes.length ≤ 128
  shelved : points = false → a.shelved → b.shelved
  rung : points = false → a.rung → b.rung

structure Shift.Kept (writes : Bool) (h g : Shift) : Prop where
  schedule : writes = false → g.schedule = h.schedule
  events : h.current.events.length ≤ 48 → g.current.events.length ≤ 48
  store : h.store.length ≤ 8 → g.store.length ≤ 8
  sequences : h.sequences.IsChain (fun a b => b = nextSequence a) → g.sequences.IsChain (fun a b => b = nextSequence a)

theorem Line.Kept.refl (writes : Bool) (r : Line) : Line.Kept writes r r := ⟨fun _ => rfl, id, id⟩

theorem Line.Kept.trans {writes : Bool} {r q z : Line} (first : Line.Kept writes r q) (second : Line.Kept writes q z) :
    Line.Kept writes r z :=
  ⟨fun w => (second.cfg w).trans (first.cfg w), second.accounted ∘ first.accounted, second.completions ∘ first.completions⟩

/-- An update of a line that leaves its settings, its queue, its counts and its completions. -/
theorem Line.Kept.of_eq {writes : Bool} {r q : Line}
    (same : (q.cfg, q.posted, q.queue, q.retired, q.discarded, q.completions) =
      (r.cfg, r.posted, r.queue, r.retired, r.discarded, r.completions)) : Line.Kept writes r q := by
  simp only [Prod.mk.injEq] at same
  obtain ⟨cfg, posted, queue, retired, discarded, completions⟩ := same
  exact ⟨fun _ => cfg, fun h => by simpa only [Line.accounted, posted, queue, retired, discarded] using h,
    fun h => by rwa [completions]⟩

theorem Field.Kept.refl (writes hears : Bool) (f : Field) : Field.Kept writes hears f f :=
  ⟨fun _ => rfl, fun _ _ => rfl, fun _ => rfl, fun _ => ⟨rfl, rfl, rfl, rfl, rfl, rfl, rfl, rfl, rfl⟩⟩

theorem Field.Kept.trans {writes hears : Bool} {f g k : Field} (first : Field.Kept writes hears f g)
    (second : Field.Kept writes hears g k) : Field.Kept writes hears f k := by
  refine ⟨fun w => (second.cfg w).trans (first.cfg w), fun w r => (second.checked w r).trans (first.checked w r),
    fun w => (second.kinds w).trans (first.kinds w), fun h => ?_⟩
  obtain ⟨a1, a2, a3, a4, a5, a6, a7, a8, a9⟩ := first.signals h
  obtain ⟨b1, b2, b3, b4, b5, b6, b7, b8, b9⟩ := second.signals h
  exact ⟨b1.trans a1, b2.trans a2, b3.trans a3, b4.trans a4, b5.trans a5, b6.trans a6, b7.trans a7, b8.trans a8,
    b9.trans a9⟩

/-- An update of the field unit that leaves its settings and its signals. -/
theorem Field.Kept.of_eq {writes hears : Bool} {f g : Field}
    (settings : (g.cfg, g.records, g.openCheck, g.closeCheck, g.motionCheck) =
      (f.cfg, f.records, f.openCheck, f.closeCheck, f.motionCheck))
    (signals : (g.inputs, g.counters, g.rotation, g.channels, g.scanAt, g.linkFault, g.lastScan, g.validScans,
      g.ignoredScans) = (f.inputs, f.counters, f.rotation, f.channels, f.scanAt, f.linkFault, f.lastScan, f.validScans,
      f.ignoredScans)) : Field.Kept writes hears f g := by
  simp only [Prod.mk.injEq] at settings signals
  obtain ⟨cfg, records, openCheck, closeCheck, motionCheck⟩ := settings
  exact ⟨fun _ => cfg, fun _ _ => by rw [records], fun _ => by rw [openCheck, closeCheck, motionCheck], fun _ => signals⟩

theorem Alarm.Kept.refl (writes points : Bool) (a : Alarm) : Alarm.Kept writes points a a :=
  ⟨fun _ _ => rfl, fun _ => ⟨rfl, rfl, rfl⟩, id, fun _ => id, fun _ => id⟩

theorem Alarm.Kept.trans {writes points : Bool} {a b c : Alarm} (first : Alarm.Kept writes points a b)
    (second : Alarm.Kept writes points b c) : Alarm.Kept writes points a c := by
  refine ⟨fun w i => (second.defn w i).trans (first.defn w i), fun w => ?_, second.changes ∘ first.changes,
    fun h => second.shelved h ∘ first.shelved h, fun h => second.rung h ∘ first.rung h⟩
  obtain ⟨a1, a2, a3⟩ := first.cfg w
  obtain ⟨b1, b2, b3⟩ := second.cfg w
  exact ⟨b1.trans a1, b2.trans a2, b3.trans a3⟩

/-- An update of the alarm unit that leaves the points, the lists that are kept, the horn and the settings. -/
theorem Alarm.Kept.of_eq {writes marks : Bool} {a b : Alarm}
    (same : (b.points, b.shelf, b.changes, b.horn, b.standing, b.floodThreshold, b.floodWindow, b.silenceTime) =
      (a.points, a.shelf, a.changes, a.horn, a.standing, a.floodThreshold, a.floodWindow, a.silenceTime)) :
    Alarm.Kept writes marks a b := by
  simp only [Prod.mk.injEq] at same
  obtain ⟨points, shelf, changes, horn, standing, threshold, window, silence⟩ := same
  exact ⟨fun _ _ => by rw [points], fun _ => ⟨threshold, window, silence⟩, fun h => by rwa [changes],
    fun _ h => by simpa only [Alarm.shelved, shelf, points] using h,
    fun _ h => by simpa only [Alarm.rung, horn, standing, points] using h⟩

theorem Shift.Kept.refl (writes : Bool) (h : Shift) : Shift.Kept writes h h := ⟨fun _ => rfl, id, id, id⟩

/-- An update of the recorder that leaves its schedule, its events, its store and the sequence of the open shift. -/
theorem Shift.Kept.of_eq {writes : Bool} {h g : Shift}
    (same : (g.schedule, g.current.events, g.store, g.current.sequence) =
      (h.schedule, h.current.events, h.store, h.current.sequence)) : Shift.Kept writes h g := by
  simp only [Prod.mk.injEq] at same
  obtain ⟨schedule, events, store, sequence⟩ := same
  exact ⟨fun _ => schedule, fun r => by rwa [events], fun r => by rwa [store],
    fun c => by simpa only [Shift.sequences, store, sequence] using c⟩

theorem Shift.Kept.trans {writes : Bool} {h g k : Shift} (first : Shift.Kept writes h g) (second : Shift.Kept writes g k) :
    Shift.Kept writes h k :=
  ⟨fun w => (second.schedule w).trans (first.schedule w), second.events ∘ first.events, second.store ∘ first.store,
    second.sequences ∘ first.sequences⟩

/-! ### What an operation keeps -/

/-- `t` keeps of `s` what every operation within an event keeps: but for the settings where `writes`, the signals where
`hears`, and the laws of the points where `points`. -/
structure Keeps (writes hears points : Bool) (s t : State) : Prop where
  reset : t.resetRun = s.resetRun
  locks : writes = false → t.link.locks = s.link.locks
  burner : writes = false → t.burner.cfg = s.burner.cfg
  lines : ∀ l : Fin 6, Line.Kept writes s.lines[l.val] t.lines[l.val]
  batches : ∀ b : Fin 2, s.batches[b.val].credit ≤ 199 → t.batches[b.val].credit ≤ 199
  envelope : writes = false → t.envelope = s.envelope
  heat : s.heat.balanced → t.heat.balanced
  cooler : writes = false → t.cooler.cfg = s.cooler.cfg
  field : Field.Kept writes hears s.field t.field
  alarm : Alarm.Kept writes points s.alarm t.alarm
  shift : Shift.Kept writes s.shift t.shift

/-- What every operation keeps that neither writes a setting nor brings a signal. -/
abbrev KeepsAll (s t : State) : Prop := Keeps false false false s t

namespace Keeps

theorem refl (writes hears points : Bool) (s : State) : Keeps writes hears points s s :=
  ⟨rfl, fun _ => rfl, fun _ => rfl, fun _ => .refl _ _, fun _ => id, fun _ => rfl, id, fun _ => rfl, .refl _ _ _,
    .refl _ _ _, .refl _ _⟩

variable {writes hears points : Bool} {s t u : State}

theorem trans (first : Keeps writes hears points s t) (second : Keeps writes hears points t u) :
    Keeps writes hears points s u where
  reset := second.reset.trans first.reset
  locks w := (second.locks w).trans (first.locks w)
  burner w := (second.burner w).trans (first.burner w)
  lines l := (first.lines l).trans (second.lines l)
  batches b := second.batches b ∘ first.batches b
  envelope w := (second.envelope w).trans (first.envelope w)
  heat := second.heat ∘ first.heat
  cooler w := (second.cooler w).trans (first.cooler w)
  field := first.field.trans second.field
  alarm := first.alarm.trans second.alarm
  shift := first.shift.trans second.shift

/-! ### What the settings and the laws say of it -/

theorem signals (k : Keeps writes hears points s t) (hear : hears = false) : t.signals = s.signals := by
  obtain ⟨h1, h2, h3, h4, h5, h6, h7, h8, h9⟩ := k.field.signals hear
  simp only [State.signals, h1, h2, h3, h4, h5, h6, h7, h8, h9]

theorem settings (k : Keeps writes hears points s t) (write : writes = false) : t.settings = s.settings := by
  obtain ⟨threshold, window, silence⟩ := k.alarm.cfg write
  have kinds := k.field.kinds write
  have fuel : (mapAt t.lines fun _ r => r.cfg) = mapAt s.lines fun _ r => r.cfg := by
    ext i hi
    simpa using (k.lines ⟨i, hi⟩).cfg write
  have definitions : (mapAt t.alarm.points fun _ p => p.defn) = mapAt s.alarm.points fun _ p => p.defn := by
    ext i hi
    simpa using k.alarm.defn write ⟨i, hi⟩
  have masks : (mapAt t.field.records fun _ r => r.checked) = mapAt s.field.records fun _ r => r.checked := by
    ext i hi
    simpa using k.field.checked write ⟨i, hi⟩
  simp only [State.settings, fuel, definitions, masks, kinds, k.burner write, k.envelope write, k.cooler write, threshold,
    window, silence, k.field.cfg write, k.shift.schedule write, k.locks write]

theorem countLaw (k : Keeps writes hears points s t) (law : CountLaw s) : CountLaw t :=
  fun l => (k.lines l).accounted (law l)

theorem capacityLaw (k : Keeps writes hears points s t) (law : CapacityLaw s) : CapacityLaw t := by
  obtain ⟨completions, changes, events, store, credit⟩ := law
  exact ⟨fun l => (k.lines l).completions (completions l), k.alarm.changes changes, k.shift.events events,
    k.shift.store store, fun b => k.batches b (credit b)⟩

theorem storeLaw (k : Keeps writes hears points s t) (law : StoreLaw s) : StoreLaw t := k.shift.sequences law

theorem heatLaw (k : Keeps writes hears points s t) (law : HeatLaw s) : HeatLaw t := k.heat law

theorem shelfLaw (k : Keeps writes hears false s t) (law : ShelfLaw s) : ShelfLaw t := k.alarm.shelved rfl law

theorem hornLaw (k : Keeps writes hears false s t) (law : HornLaw s) : HornLaw t := fun live =>
  k.alarm.rung rfl (law (by rw [← k.reset]; exact live))

/-! ### Updates of one block -/

variable (k : Keeps writes hears points s t)
include k

theorem weaken : Keeps writes hears true s t where
  reset := k.reset
  locks := k.locks
  burner := k.burner
  lines := k.lines
  batches := k.batches
  envelope := k.envelope
  heat := k.heat
  cooler := k.cooler
  field := k.field
  alarm := ⟨k.alarm.defn, k.alarm.cfg, k.alarm.changes, nofun, nofun⟩
  shift := k.shift

theorem modLink (f : Link → Link) (locks : writes = false → (f t.link).locks = t.link.locks) :
    Keeps writes hears points s (t.modLink f) :=
  k.trans { refl writes hears points t with locks }

theorem modBurner (f : Burner → Burner) (cfg : writes = false → (f t.burner).cfg = t.burner.cfg) :
    Keeps writes hears points s (t.modBurner f) :=
  k.trans { refl writes hears points t with burner := cfg }

theorem modActuator (a : Fin 2) (f : Actuator → Actuator) : Keeps writes hears points s (t.modActuator a f) :=
  k.modBurner _ fun _ => rfl

theorem modLine (l : Fin 6) (f : Line → Line)
    (line : Line.Kept writes t.lines[l.val] (f t.lines[l.val])) :
    Keeps writes hears points s (t.modLine l f) := by
  refine k.trans { refl writes hears points t with lines := fun m => ?_ }
  simp only [State.modLine, upd_get]
  split
  · subst m
    exact line
  · exact .refl _ _

theorem modBatch (b : Fin 2) (f : Batch → Batch)
    (credit : t.batches[b.val].credit ≤ 199 → (f t.batches[b.val]).credit ≤ 199) :
    Keeps writes hears points s (t.modBatch b f) := by
  refine k.trans { refl writes hears points t with batches := fun c => ?_ }
  simp only [State.modBatch, upd_get]
  split
  · subst c
    exact credit
  · exact id

theorem modHeat (f : Heat → Heat) (heat : t.heat.balanced → (f t.heat).balanced) :
    Keeps writes hears points s (t.modHeat f) :=
  k.trans { refl writes hears points t with heat }

theorem modCooler (f : Cooler → Cooler) (cfg : writes = false → (f t.cooler).cfg = t.cooler.cfg) :
    Keeps writes hears points s (t.modCooler f) :=
  k.trans { refl writes hears points t with cooler := cfg }

theorem modGrate (g : Fin 4) (f : Grate → Grate) : Keeps writes hears points s (t.modGrate g f) := k.modCooler _ fun _ => rfl

theorem modChamber (c : Fin 12) (f : Chamber → Chamber) : Keeps writes hears points s (t.modChamber c f) :=
  k.modCooler _ fun _ => rfl

theorem modField (f : Field → Field)
    (field : Field.Kept writes hears t.field (f t.field)) :
    Keeps writes hears points s (t.modField f) :=
  k.trans { refl writes hears points t with field }

theorem modAlarm (f : Alarm → Alarm)
    (alarm : Alarm.Kept writes points t.alarm (f t.alarm)) :
    Keeps writes hears points s (t.modAlarm f) :=
  k.trans { refl writes hears points t with alarm }

theorem modAttention (f : Attention → Attention) : Keeps writes hears points s (t.modAttention f) :=
  k.trans { refl writes hears points t with reset := rfl }

theorem modShift (f : Shift → Shift)
    (shift : Shift.Kept writes t.shift (f t.shift)) :
    Keeps writes hears points s (t.modShift f) :=
  k.trans { refl writes hears points t with shift }

theorem modTotals (f : Totals → Totals) : Keeps writes hears points s (t.modTotals f) :=
  k.modShift _ (.of_eq rfl)

theorem modLineTotals (l : Fin 6) (f : LineTotals → LineTotals) : Keeps writes hears points s (t.modLineTotals l f) :=
  k.modTotals _

theorem raise (c : AttentionClass) : Keeps writes hears points s (t.raise c) := k.modAttention _

/-- A fold of an operation. -/
theorem foldl {α : Type} {f : State → α → State}
    (each : ∀ {u : State} (a : α), Keeps writes hears points s u → Keeps writes hears points s (f u a)) (l : List α) :
    Keeps writes hears points s (l.foldl f t) := by
  induction l generalizing t with
  | nil => exact k
  | cons a l ih => exact ih (each a k)

end Keeps

end Sys2Proof.Machine
end

section
/-! The operations that every block uses keep what `Keeps` says: the recorder's and the valves', an evaluation of the heat
balance, and the fuel lines'. -/

namespace Sys2Proof.Machine

open Sys2Proof

/-! ### The recorder (R160 to R163) -/

/-- The store that a close leaves: the report behind those kept, the oldest lost from a full store. -/
def kept (store : List Report) : List Report := if store.length < 8 then store else store.tail

theorem kept_length_le {store : List Report} (room : store.length ≤ 8) : (kept store).length ≤ 7 := by
  unfold kept
  split
  · omega
  · simp only [List.length_tail]
    omega

theorem kept_suffix (store : List Report) : kept store <:+ store := by
  unfold kept
  split
  · exact List.suffix_refl _
  · exact List.tail_suffix _

/-- A close appends the open shift to the store and opens the shift of the next sequence. -/
theorem Shift.sequences_close {store : List Report} {current opened : OpenShift} {report : Report}
    (stored : report.shift.sequence = current.sequence) (next : opened.sequence = nextSequence current.sequence)
    (chain : (store.map (fun r => r.shift.sequence) ++ [current.sequence]).IsChain fun a b => b = nextSequence a) :
    ((kept store ++ [report]).map (fun r => r.shift.sequence) ++ [opened.sequence]).IsChain
      fun a b => b = nextSequence a := by
  have run : ((kept store).map (fun r => r.shift.sequence) ++ [current.sequence]).IsChain fun a b => b = nextSequence a := by
    obtain ⟨lost, whole⟩ := kept_suffix store
    refine chain.suffix ⟨lost.map fun r => r.shift.sequence, ?_⟩
    rw [← List.append_assoc, ← List.map_append, whole]
  simp only [List.map_append, List.map_cons, List.map_nil, stored]
  exact run.append (List.isChain_singleton _) (by simp [next])

/-! ### An evaluation (R79 to R84) -/

theorem compareRates_kept (writes : Bool) (now : Nat) (r : Line) : Line.Kept writes r (compareRates now r) := by
  unfold compareRates
  split
  · split
    · split
      · exact .refl _ _
      · exact .of_eq rfl
    · exact .of_eq rfl
  · exact .refl _ _

theorem Line.handed_kept (writes : Bool) (now requested allowed : Nat) (r : Line) :
    Line.Kept writes r (r.handed now requested allowed) := by
  unfold Line.handed
  dsimp only
  split
  · exact .of_eq rfl
  · refine Line.Kept.trans ?_ (compareRates_kept writes now _)
    exact .of_eq rfl

theorem sum6_eq_toList_sum (v : Vector Nat 6) : sum6 v = v.toList.sum := by
  rw [sum6_eq (.refl _)]
  congr 1
  exact List.ext_getElem (by simp) (by simp)

/-- An evaluation gives out no more than its ceiling, and no line more than it requested (R80). -/
theorem State.evaluateAt_balanced (s : State) (period : Nat → Option Nat) : (s.evaluateAt period).heat.balanced := by
  have entry := fun l => (s.evaluateAt_entry period l)
  refine ⟨?_, ?_, fun l => ?_⟩
  · change sum6 (s.allowedHeats period) ≤ (s.evaluateAt period).heat.effective
    obtain within | above := le_or_gt (sum6 (s.requestedHeats period)) (s.evaluateAt period).heat.effective
    · exact (congrArg sum6 (apportion_within within)).trans_le within
    · exact (apportion_sum (cutOrderOf_perm _) above).le
  · change sum6 (s.allowedHeats period) = _
    rw [sum6_eq_toList_sum]
    congr 1
    refine List.ext_getElem (by simp) fun i h _ => ?_
    simpa using (entry ⟨i, by simpa using h⟩).2.2.symm
  · obtain ⟨requested, -, allowed⟩ := entry l
    exact allowed.trans_le ((apportion_le _ _ _ _ l).trans requested.ge)

namespace Keeps

variable {writes hears points : Bool} {s t : State} (k : Keeps writes hears points s t)
include k

theorem addEvent (e : EventKind) : Keeps writes hears points s (t.addEvent e) := by
  refine k.modShift _ ?_
  dsimp only
  split
  · refine ⟨fun _ => rfl, fun _ => ?_, id, id⟩
    simp only [List.length_append, List.length_singleton]
    omega
  · exact ⟨fun _ => rfl, id, id, id⟩

theorem commandValve (v : Fin 7) (toOpen : Bool) : Keeps writes hears points s (t.commandValve v toOpen) := by
  unfold State.commandValve
  split
  · exact k
  · exact k.modField _ (.of_eq rfl rfl)

theorem handDurations : Keeps writes hears points s t.handDurations := by
  unfold State.handDurations
  exact k.modTotals _

theorem closeShift (cause : CloseCause) (opens : OpenCause) (index : Nat) :
    Keeps writes hears points s (t.closeShift cause opens index) := by
  unfold State.closeShift
  dsimp only
  refine raise ?_ _
  have closed (report : Report) (stored : report.shift.sequence = t.shift.current.sequence) (opened : OpenShift)
      (next : opened.sequence = nextSequence t.shift.current.sequence) (empty : opened.events = []) :
      Keeps writes hears points s
        { t with shift := { t.shift with current := opened, store := kept t.shift.store ++ [report] } } := by
    refine k.modShift (fun h => { h with current := opened, store := kept t.shift.store ++ [report] })
      ⟨fun _ => rfl, fun _ => by simp [empty], fun room => ?_, Shift.sequences_close stored next⟩
    have := kept_length_le room
    simp only [List.length_append, List.length_singleton]
    omega
  split
  · exact ((closed _ rfl _ rfl rfl).addEvent _).modAlarm _ (.of_eq rfl)
  · exact closed _ rfl _ rfl rfl

theorem deliver (l : Fin 6) (grams : Nat) : Keeps writes hears points s (t.deliver l grams) := by
  unfold State.deliver
  dsimp only
  split
  · exact ((k.closeShift _ _ _).modLineTotals l _).modLine l _ (.of_eq rfl)
  · exact (k.modLineTotals l _).modLine l _ (.of_eq rfl)

theorem evaluateAt (period : Nat → Option Nat) : Keeps writes hears points s (t.evaluateAt period) := by
  refine k.trans { refl writes hears points t with lines := fun l => ?_, heat := fun _ => t.evaluateAt_balanced period }
  exact (congrArg (Line.Kept writes _) (t.evaluateAt_line period l)).mpr (Line.handed_kept _ _ _ _ _)

theorem evaluate : Keeps writes hears points s t.evaluate := k.evaluateAt _

theorem handPeriod (before : Option Nat) : Keeps writes hears points s (t.handPeriod before) := (k.evaluateAt _).evaluate

end Keeps

end Sys2Proof.Machine
end

section
/-! The fuel lines' and the burner's operations keep what `Keeps` says (Chapters 1, 2 and 3). -/

namespace Sys2Proof.Machine

open Sys2Proof

/-! ### Updates of a line (R43, R55) -/

theorem Line.addCompletion_kept (writes : Bool) (r : Line) (c : Completion) : Line.Kept writes r (r.addCompletion c) := by
  unfold Line.addCompletion
  split
  · refine ⟨fun _ => rfl, id, fun _ => ?_⟩
    simp only [List.length_append, List.length_singleton]
    omega
  · refine ⟨fun _ => rfl, id, fun _ => ?_⟩
    simp only [List.length_append, List.length_tail, List.length_singleton]
    omega

theorem Line.unnoticed_kept (writes : Bool) (r : Line) : Line.Kept writes r { r with noticeAt := none } :=
  .of_eq rfl

/-- A line whose head order `o` retires with the record `c`. -/
def Line.retire (r : Line) (o : Order) (rest : List Order) (c : Completion) : Line :=
  let q : Line := { r with queue := rest, progress := none, retired := r.retired + 1 }
  if o.notify then q.addCompletion c else q

/-- A line whose head order `o` is discarded with the record `c`. -/
def Line.discard (r : Line) (o : Order) (rest : List Order) (c : Completion) : Line :=
  let q : Line := { r with queue := rest, discarded := r.discarded + 1 }
  if o.notify then q.addCompletion c else q

theorem Line.retire_kept (writes : Bool) {r : Line} {o : Order} {rest : List Order} (head : r.queue = o :: rest)
    (c : Completion) : Line.Kept writes r (r.retire o rest c) := by
  have counted : Line.Kept writes r { r with queue := rest, progress := none, retired := r.retired + 1 } := by
    refine ⟨fun _ => rfl, fun law => ?_, id⟩
    simp only [Line.accounted, head, List.length_cons] at law ⊢
    omega
  unfold Line.retire
  split
  · exact counted.trans (Line.addCompletion_kept _ _ _)
  · exact counted

theorem Line.discard_kept (writes : Bool) {r : Line} {o : Order} {rest : List Order} (head : r.queue = o :: rest)
    (c : Completion) : Line.Kept writes r (r.discard o rest c) := by
  have counted : Line.Kept writes r { r with queue := rest, discarded := r.discarded + 1 } := by
    refine ⟨fun _ => rfl, fun law => ?_, id⟩
    simp only [Line.accounted, head, List.length_cons] at law ⊢
    omega
  unfold Line.discard
  split
  · exact counted.trans (Line.addCompletion_kept _ _ _)
  · exact counted

theorem Line.addCompletion_queue (r : Line) (c : Completion) : (r.addCompletion c).queue = r.queue := by
  unfold Line.addCompletion
  split <;> rfl

theorem Line.discard_queue (r : Line) (o : Order) (rest : List Order) (c : Completion) :
    (r.discard o rest c).queue = rest := by
  unfold Line.discard
  split
  · exact Line.addCompletion_queue _ _
  · rfl

theorem State.notice_queue (s : State) (l : Fin 6) (o : Order) : (s.notice l o).lines[l.val].queue = s.lines[l.val].queue
    := by
  unfold State.notice
  split
  · split
    · exact s.modLine_queue l _ fun _ => rfl
    · rw [State.setReason_queue]
      exact s.modLine_queue l _ fun _ => rfl
  · rfl

/-- The head ends: its record, the counts, and the gate of a batch line. -/
theorem State.endHead_eq {s : State} {l : Fin 6} {o : Order} {rest : List Order} (outcome : OrderOutcome)
    (head : s.lines[l.val].queue = o :: rest) :
    s.endHead l outcome =
      (let c := completionOf o outcome s.lines[l.val].progress s.floorTime (s.batchCounts l o)
       let t := (s.modLine l fun r => r.retire o rest c).modLineTotals l fun t => { t with retired := add32 t.retired 1 }
       match o.body with
       | .batch _ _ _ => t.closeGate l
       | .rate _ _ _ | .context _ _ => t) := by
  unfold State.endHead
  rw [head]
  rfl

theorem State.endHead_nil {s : State} {l : Fin 6} (outcome : OrderOutcome) (empty : s.lines[l.val].queue = []) :
    s.endHead l outcome = s := by
  unfold State.endHead
  rw [empty]

theorem State.discardQueue_cons (s : State) (l : Fin 6) (notices : Bool) (o : Order) (rest : List Order) :
    s.discardQueue l notices (o :: rest) =
      (let c := completionOf o .discarded none s.floorTime (s.batchCounts l o)
       let t := s.modLine l fun r => r.discard o rest c
       (if notices then t.notice l o else t).discardQueue l notices rest) := rfl

/-- Orders join a queue with room for them and are counted posted (R44). -/
theorem Line.posted_kept (writes : Bool) {r : Line} {orders : List Order}
    (room : r.queue.length + orders.length ≤ 16 ∨ orders = []) :
    Line.Kept writes r { r with queue := r.queue ++ orders, posted := r.posted + orders.length } := by
  refine ⟨fun _ => rfl, fun law => ?_, id⟩
  simp only [Line.accounted, List.length_append] at law ⊢
  obtain room | rfl := room
  · omega
  · simpa using law

theorem creditShare_capped (credit requested allowed : Nat) :
    min Config.creditCap (credit + creditShare requested allowed) ≤ 199 := min_le_left _ _

namespace Keeps

variable {writes hears points : Bool} {s t : State} (k : Keeps writes hears points s t)
include k

omit k in
theorem ite (c : Prop) [Decidable c] {u v : State} (first : Keeps writes hears points s u)
    (second : Keeps writes hears points s v) : Keeps writes hears points s (if c then u else v) := by
  split
  · exact first
  · exact second

/-! ### Reasons, completions and notices (R54 to R57) -/

theorem setReason (l : Fin 6) (r : Reason) : Keeps writes hears points s (t.setReason l r) := by
  refine raise (k.modLine l _ ?_) _
  cases r <;> exact .of_eq rfl

theorem notice (l : Fin 6) (o : Order) : Keeps writes hears points s (t.notice l o) := by
  unfold State.notice
  split
  · split
    · exact k.modLine l _ (.of_eq rfl)
    · exact (k.modLine l _ (.of_eq rfl)).setReason l _
  · exact k

/-! ### The gate and the slots (R66 to R70) -/

theorem closeGate (l : Fin 6) : Keeps writes hears points s (t.closeGate l) := by
  unfold State.closeGate
  split
  · exact k.modBatch _ _ id
  · exact k

theorem recordSlot (b : Fin 2) (sr : SlotRecord) : Keeps writes hears points s (t.recordSlot b sr) := by
  refine modLineTotals (k.modBatch b _ ?_) _ _
  dsimp only
  cases sr.outcome <;> exact id

theorem abortSlot (l : Fin 6) : Keeps writes hears points s (t.abortSlot l) := by
  unfold State.abortSlot
  split
  · exact k
  · split
    · exact k
    · dsimp only
      refine recordSlot (modBatch ?_ _ _ id) _ _
      split
      · exact k.deliver l _
      · exact k

/-! ### The end of an order (R43, R54, R57, R59) -/

theorem queueReasons (l : Fin 6) : Keeps writes hears points s (t.queueReasons l) := by
  unfold State.queueReasons
  dsimp only
  have lowWater : Keeps writes hears points s
      (if t.lines[l.val].cfg.lowWater ≠ 0 ∧ t.lines[l.val].queue.length = t.lines[l.val].cfg.lowWater then
        t.setReason l .lowWater
      else t) := by
    split
    · exact k.setReason l _
    · exact k
  split
  · exact lowWater.setReason l _
  · exact lowWater

theorem endHead (l : Fin 6) (outcome : OrderOutcome) : Keeps writes hears points s (t.endHead l outcome) := by
  match head : t.lines[l.val].queue with
  | [] => rwa [State.endHead_nil _ head]
  | o :: rest =>
    rw [State.endHead_eq outcome head]
    have ended (c : Completion) := k.modLine l (fun r => r.retire o rest c) (Line.retire_kept writes head c)
    dsimp only
    split
    · exact closeGate (modLineTotals (ended _) l _) l
    · exact modLineTotals (ended _) l _
    · exact modLineTotals (ended _) l _

theorem retireHead (l : Fin 6) (outcome : OrderOutcome) : Keeps writes hears points s (t.retireHead l outcome) := by
  unfold State.retireHead
  split
  · exact k
  · exact ((k.endHead l _).notice l _).queueReasons l

theorem discardQueue (l : Fin 6) (notices : Bool) (queue : List Order) (whole : t.lines[l.val].queue = queue) :
    Keeps writes hears points s (t.discardQueue l notices queue) := by
  induction queue generalizing t with
  | nil => exact k
  | cons o rest ih =>
    rw [State.discardQueue_cons]
    have left (c : Completion) := k.modLine l (fun r => r.discard o rest c) (Line.discard_kept writes whole c)
    have queue (c : Completion) : (t.modLine l fun r => r.discard o rest c).lines[l.val].queue = rest := by
      simp only [State.modLine, upd_get_self, Line.discard_queue]
    dsimp only
    split
    · exact ih ((left _).notice l o) ((State.notice_queue _ _ _).trans (queue _))
    · exact ih (left _) (queue _)

/-! ### Taking up the head order (R45 to R47, R61) -/

theorem takeUp (l : Fin 6) (queue : List Order) : Keeps writes hears points s (t.takeUp l queue) := by
  induction queue generalizing t with
  | nil => exact k
  | cons o rest ih =>
    unfold State.takeUp
    split
    · exact ih ((((k.modLine l _ (.of_eq rfl)).evaluate).retireHead l _).addEvent _)
    · split
      · dsimp only
        split
        · exact ih (((k.modLine l _ (.of_eq rfl)).evaluate).retireHead l _)
        · exact (k.modLine l _ (.of_eq rfl)).evaluate
      · exact k
    · split
      · dsimp only
        split
        · exact ((k.modLine l _ (.of_eq rfl)).modBatch _ _ fun _ => show 100 ≤ 199 by decide).evaluate
        · exact (k.modLine l _ (.of_eq rfl)).evaluate
      · exact k

theorem completeHead (l : Fin 6) : Keeps writes hears points s (t.completeHead l) :=
  ((k.retireHead l _).takeUp l _).evaluate

/-! ### Line states (R34 to R42) -/

theorem admitLine (l : Fin 6) : Keeps writes hears points s (t.admitLine l) :=
  ((k.modLine l _ (.of_eq rfl)).commandValve _ _).evaluate

theorem openLine (l : Fin 6) : Keeps writes hears points s (t.openLine l) := by
  unfold State.openLine
  have opened := ((k.modLine l (fun r => r.enter .opened) (.of_eq rfl)).addEvent (.lineAdmitted l)).evaluate
  dsimp only
  split
  · exact opened.setReason l _
  · exact opened.takeUp l _

theorem rampEnd (l : Fin 6) : Keeps writes hears points s (t.rampEnd l) := (k.modLine l _ (.of_eq rfl)).commandValve _ _

theorem beginShut (l : Fin 6) : Keeps writes hears points s (t.beginShut l) := by
  unfold State.beginShut
  have shutting := ((((k.abortSlot l).modLine l (fun r => r.enter .shutting) (.of_eq rfl)).closeGate l).retireHead l
    .abortedShut)
  dsimp only
  refine evaluate ?_
  split
  · exact (shutting.takeUp l _).rampEnd l
  · exact (shutting.takeUp l _).modLine l _ (.of_eq rfl)

theorem enterShut (l : Fin 6) : Keeps writes hears points s (t.enterShut l) :=
  ((k.modLine l _ (.of_eq rfl)).addEvent _).evaluate

theorem faultLine (l : Fin 6) : Keeps writes hears points s (t.faultLine l) := by
  unfold State.faultLine
  have faulted := (((k.abortSlot l).modLine l (fun r => { r.enter .fault with requested := 0, shutRamp := none })
    (.of_eq rfl)).closeGate
    l).commandValve (svOf l) false
  dsimp only
  refine evaluate (addEvent (setReason (takeUp ?_ l _) l _) _)
  split
  · exact faulted.retireHead l _
  · exact faulted

theorem tripLine (l : Fin 6) : Keeps writes hears points s (t.tripLine l) := by
  unfold State.tripLine
  dsimp only
  have ended := ((((k.abortSlot l).modLine l (fun r => { r.enter .shut with requested := 0, shutRamp := none })
    (.of_eq rfl)).closeGate
    l).commandValve (svOf l) false).endHead l .abortedTrip
  have emptied := (ended.discardQueue l false _ rfl).modLine l
    (fun r => { r with noticeAt := none }) (Line.unnoticed_kept _ _)
  have recorded := ite (anyNotify t.lines[l.val].queue = true) (emptied.setReason l .completion) emptied
  refine ite _ (addEvent (setReason ?_ l .state) _) ?_
  · exact recorded
  · exact recorded

theorem clearQueue (l : Fin 6) : Keeps writes hears points s (t.clearQueue l) := by
  unfold State.clearQueue
  split
  · exact k
  · have cleared := (((k.abortSlot l).endHead l .abortedClear).notice l ‹_›).discardQueue l true _ rfl
    dsimp only
    refine evaluate ?_
    split
    · exact cleared.setReason l _
    · exact cleared

theorem lineProof (l : Fin 6) (toOpen : Bool) : Keeps writes hears points s (t.lineProof l toOpen) := by
  unfold State.lineProof
  split
  · exact k.openLine l
  · exact k.enterShut l
  · exact k

theorem lineLatch (l : Fin 6) (kind : FaultKind) : Keeps writes hears points s (t.lineLatch l kind) := by
  unfold State.lineLatch
  split
  · exact k.faultLine l
  · exact k.faultLine l
  · exact k.faultLine l
  · exact k.faultLine l
  · exact k

/-! ### Slots (R61, R63 to R66) -/

theorem endSlot (b : Fin 2) (sr : SlotRecord) : Keeps writes hears points s (t.endSlot b sr) := by
  unfold State.endSlot
  dsimp only
  split
  · split
    · exact (k.recordSlot b sr).completeHead _
    · exact k.recordSlot b sr
  · exact k.recordSlot b sr

theorem beginDrop (b : Fin 2) (slot : Slot) : Keeps writes hears points s (t.beginDrop b slot) := k.modBatch b _ id

theorem openSlot (b : Fin 2) : Keeps writes hears points s (t.openSlot b) := by
  unfold State.openSlot
  have credited (requested allowed : Nat) := k.modBatch b
    (fun x => { x with opened := x.opened + 1, credit := min Config.creditCap (x.credit + creditShare requested allowed) })
    fun _ => creditShare_capped _ _ _
  have taken (requested allowed : Nat) := (credited requested allowed).modBatch b
    (fun x => { x with credit := x.credit - 100 }) fun room => (Nat.sub_le _ _).trans room
  dsimp only
  split
  · exact (credited _ _).endSlot b _
  · split
    · exact (credited _ _).endSlot b _
    · split
      · exact (credited _ _).endSlot b _
      · split
        · exact (taken _ _).beginDrop b _
        · exact (taken _ _).modBatch b _ id

theorem gateIdle (b : Fin 2) : Keeps writes hears points s (t.gateIdle b) := by
  refine k.modBatch b _ ?_
  split
  · exact id
  · split <;> exact id

theorem batchPulse (b : Fin 2) : Keeps writes hears points s (t.batchPulse b) := by
  unfold State.batchPulse
  dsimp only
  split
  · exact k
  · refine gateIdle ?_ b
    split
    · split
      · exact (k.modBatch b _ id).openSlot b
      · exact k.modBatch b _ id
    · exact k

theorem readyLost (b : Fin 2) : Keeps writes hears points s (t.readyLost b) := by
  unfold State.readyLost
  split
  · split
    · exact (k.modBatch b _ id).endSlot b _
    · exact k
  · exact k

theorem weighSlot (b : Fin 2) (slot : Slot) : Keeps writes hears points s (t.weighSlot b slot) :=
  ((k.modBatch b _ id).deliver _ _).endSlot b _

/-! ### Requests and timers of the lines -/

theorem post (l : Fin 6) (orders : List Order) (room : t.lines[l.val].queue.length + orders.length ≤ 16 ∨ orders = []) :
    Keeps writes hears points s (t.post l orders) := by
  unfold State.post
  have posted := k.modLine l (fun r => { r with queue := r.queue ++ orders, posted := r.posted + orders.length })
    (Line.posted_kept writes room)
  dsimp only
  refine evaluate ?_
  split
  · exact posted.takeUp l _
  · split
    · exact posted.completeHead l
    · exact posted

theorem rampRate (l : Fin 6) : Keeps writes hears points s (t.rampRate l) := by
  unfold State.rampRate
  split
  · dsimp only
    split
    · exact ((k.modLine l _ (.of_eq rfl)).evaluate).completeHead l
    · exact (k.modLine l _ (.of_eq rfl)).evaluate
  · exact k

theorem rampShut (l : Fin 6) : Keeps writes hears points s (t.rampShut l) := by
  unfold State.rampShut
  split
  · dsimp only
    split
    · exact ((k.modLine l _ (.of_eq rfl)).evaluate).rampEnd l
    · exact (k.modLine l _ (.of_eq rfl)).evaluate
  · exact k

theorem endDrop (b : Fin 2) (w : Slot) : Keeps writes hears points s (t.endDrop b w) := k.modBatch b _ id

end Keeps

end Sys2Proof.Machine
end

section
/-! The burner's and the alarm unit's operations keep what `Keeps` says (Chapters 1 and 7). A point's change of state is
kept as
a whole: while it is made the laws of the points are not asked for. -/

namespace Sys2Proof.Machine

open Sys2Proof

/-! ### The points (R135, R137) -/

/-- What the laws of the points read of a point. -/
def Point.view (p : Point) : PointState × Bool × Bool := (p.state, stands p.defn.cls p.state, sounds p)

theorem toList_map_view {points others : Vector Point 96}
    (same : ∀ i : Fin 96, others[i.val].view = points[i.val].view) :
    others.toList.map Point.view = points.toList.map Point.view :=
  List.ext_getElem (by simp) fun i h _ => by simpa using same ⟨i, by simpa using h⟩

theorem hornOf_eq_any (points : Vector Point 96) : hornOf points = (points.toList.map Point.view).any fun v => v.2.2 := by
  simp [hornOf, Point.view, List.any_map, Function.comp_def]

theorem standingOf_eq_countP (points : Vector Point 96) :
    standingOf points = (points.toList.map Point.view).countP fun v => v.2.1 := by
  simp [standingOf, Point.view, List.countP_map, Function.comp_def]

theorem Alarm.rung_of_view {a b : Alarm} (same : ∀ i : Fin 96, b.points[i.val].view = a.points[i.val].view)
    (horn : b.horn = a.horn) (standing : b.standing = a.standing) (law : a.rung) : b.rung := by
  obtain ⟨lawHorn, lawStanding⟩ := law
  have views := toList_map_view same
  exact ⟨by rw [horn, lawHorn, hornOf_eq_any, hornOf_eq_any, views],
    by rw [standing, lawStanding, standingOf_eq_countP, standingOf_eq_countP, views]⟩

theorem Alarm.shelved_of_view {a b : Alarm} (same : ∀ i : Fin 96, b.points[i.val].view = a.points[i.val].view)
    (shelf : b.shelf = a.shelf) (law : a.shelved) : b.shelved := by
  have state (i : Fin 96) : b.points[i.val].state = a.points[i.val].state := congrArg Prod.fst (same i)
  simpa only [Alarm.shelved, shelf, state] using law

theorem upd_point_view {points : Vector Point 96} {i : Fin 96} {f : Point → Point}
    (view : (f points[i.val]).view = points[i.val].view) (j : Fin 96) :
    (upd points i f)[j.val].view = points[j.val].view := by
  rw [upd_get]
  split
  · subst j
    exact view
  · rfl

/-- A change between two states of which neither is SHELVED leaves the shelf as it is. -/
theorem Alarm.shelved_enter {a b : Alarm} {i : Fin 96} {f : Point → Point} (points : b.points = upd a.points i f)
    (shelf : b.shelf = a.shelf) (old : a.points[i.val].state ≠ .shelved) (new : (f a.points[i.val]).state ≠ .shelved)
    (law : a.shelved) : b.shelved := by
  obtain ⟨nodup, room, sorted, members⟩ := law
  refine ⟨by rwa [shelf], by rwa [shelf], by rwa [shelf], fun j => ?_⟩
  rw [shelf, ← members j, points, upd_get]
  split
  · subst j
    exact iff_of_false new old
  · rfl

theorem Alarm.addChange_kept (writes points : Bool) (a : Alarm) (c : Change) :
    Alarm.Kept writes points a (a.addChange c) := by
  unfold Alarm.addChange
  dsimp only
  split
  · refine ⟨fun _ _ => rfl, fun _ => ⟨rfl, rfl, rfl⟩, fun _ => ?_, fun _ => id, fun _ => id⟩
    simp only [List.length_append, List.length_singleton]
    omega
  · rename_i full
    have room : (roomFor c.cls a.changes).length + 1 = a.changes.length := by
      have long : 0 < a.changes.length := by omega
      have tail : a.changes.tail.length + 1 = a.changes.length := by
        rw [List.length_tail]
        omega
      unfold roomFor
      split
      · exact tail
      · split
        · rename_i some
          obtain ⟨r, member, low⟩ := List.any_eq_true.1 some
          rw [List.length_eraseP_of_mem member low]
          omega
        · exact tail
    refine ⟨fun _ _ => rfl, fun _ => ⟨rfl, rfl, rfl⟩, fun law => ?_, fun _ => id, fun _ => id⟩
    simp only [List.length_append, List.length_singleton]
    omega

theorem State.listChange_points (s : State) (i : Fin 96) (new : PointState) :
    (s.listChange i new).alarm.points = s.alarm.points ∧ (s.listChange i new).alarm.shelf = s.alarm.shelf := by
  have added (a : Alarm) (c : Change) : (a.addChange c).points = a.points ∧ (a.addChange c).shelf = a.shelf := by
    unfold Alarm.addChange
    dsimp only
    split <;> exact ⟨rfl, rfl⟩
  unfold State.listChange
  dsimp only
  split
  · exact ⟨rfl, rfl⟩
  · split <;> exact added _ _

theorem State.enterPoint_alarm (s : State) (i : Fin 96) (new : PointState) :
    (s.enterPoint i new).alarm =
      (let t := (s.listChange i new).modPoint i fun q => { q with state := new, lastChange := some s.floorTime }
       { t.alarm with horn := hornOf t.alarm.points, standing := standingOf t.alarm.points }) := by
  have claimed (u : State) : u.formHorn.alarm =
      { u.alarm with horn := hornOf u.alarm.points, standing := standingOf u.alarm.points } := rfl
  unfold State.enterPoint
  dsimp only
  rw [claimed]
  simp

theorem State.enterPoint_points (s : State) (i : Fin 96) (new : PointState) :
    (s.enterPoint i new).alarm.points =
      upd s.alarm.points i fun q => { q with state := new, lastChange := some s.floorTime } := by
  simp only [State.enterPoint_alarm, State.modPoint, State.modAlarm, (s.listChange_points i new).1]

theorem State.enterPoint_shelf (s : State) (i : Fin 96) (new : PointState) :
    (s.enterPoint i new).alarm.shelf = s.alarm.shelf := by
  rw [State.enterPoint_alarm]
  exact (s.listChange_points i new).2

theorem State.enterPoint_rung (s : State) (i : Fin 96) (new : PointState) : (s.enterPoint i new).alarm.rung := by
  rw [State.enterPoint_alarm]
  exact ⟨rfl, rfl⟩

namespace Keeps

variable {writes hears points : Bool} {s t : State} (k : Keeps writes hears points s t)
include k

/-! ### The burner (R1 to R31) -/

theorem burnerTo (st : BurnerState) : Keeps writes hears points s (t.burnerTo st) :=
  (k.modBurner _ (fun _ => rfl)).commandValve _ _

theorem toIdle (reason : StopReason) : Keeps writes hears points s (t.toIdle reason) :=
  (((k.burnerTo _).modBurner _ (fun _ => rfl)).raise _).addEvent _

theorem setOwners (o : Owner) : Keeps writes hears points s (t.setOwners o) := k.modBurner _ (fun _ => rfl)

theorem completeWork (a : Fin 2) (o : WorkOutcome) : Keeps writes hears points s (t.completeWork a o) :=
  (k.modActuator a _).raise _

theorem endWork (a : Fin 2) (o : WorkOutcome) : Keeps writes hears points s (t.endWork a o) :=
  ite _ k ((k.modActuator a _).completeWork a o)

theorem abortWork : Keeps writes hears points s t.abortWork := k.foldl (fun a ku => ku.endWork a _) _

theorem startMove (a : Fin 2) (target : Nat) : Keeps writes hears points s (t.startMove a target) := k.modActuator a _

theorem homeDone (a : Fin 2) : Keeps writes hears points s (t.homeDone a) := by
  have done := (k.modActuator a fun r =>
    { r with
      position := some 0, target := some 0, verify := .verified, homeFault := false, mismatchHeld := false }).completeWork
    a .done
  exact ite _ (done.startMove a _) done

theorem startHome (a : Fin 2) : Keeps writes hears points s (t.startHome a) :=
  ite _ ((k.modActuator a _).homeDone a) (k.modActuator a _)

theorem sequenceEnd (reason : StopReason) : Keeps writes hears points s (t.sequenceEnd reason) :=
  (k.abortWork.setOwners _).toIdle reason

theorem sequenceFault : Keeps writes hears points s t.sequenceFault := ite _ (k.sequenceEnd _) k

theorem toIgnition : Keeps writes hears points s t.toIgnition :=
  ((((k.setOwners _).burnerTo _).modBurner _ (fun _ => rfl)).raise _).addEvent _

theorem homeFailed (a : Fin 2) : Keeps writes hears points s (t.homeFailed a) :=
  ((k.modActuator a _).completeWork a _).sequenceFault

theorem settled (a : Fin 2) : Keeps writes hears points s (t.settled a) := by
  unfold State.settled
  have verified (verify : Bool → Verify) (ok : Bool) := (k.modActuator a fun r =>
    { r with verify := verify ok, mismatchHeld := false }).completeWork a (if ok then .done else .fault)
  dsimp only
  split
  · split
    · exact toIgnition ((k.modActuator a _).completeWork a _)
    · exact (k.modActuator a _).completeWork a _
  · exact sequenceFault ((k.modActuator a _).completeWork a _)

theorem enterLockout (cause : Cause) (point : Option Nat) : Keeps writes hears points s (t.enterLockout cause point) := by
  have lockout := ((((k.burnerTo .lockout).modBurner (fun b =>
    { b with
      firstOut := some { cause := cause, point := point, stateAtTrip := t.burner.state, time := t.floorTime }
      claims := 0 }) (fun _ => rfl)).addEvent (.lockout cause point)).raise .trip).modTotals fun t =>
        { t with trips := add32 t.trips 1 }
  have tripped := (lockout.foldl (f := fun s l => s.tripLine l) (fun l ku => ku.tripLine l) allLines).raise .feed
  exact (tripped.abortWork.setOwners .sequence).evaluate

theorem countClaim : Keeps writes hears points s t.countClaim := k.modBurner _ (fun _ => rfl)

theorem tripClaim (point : Nat) : Keeps writes hears points s (t.tripClaim point) := by
  unfold State.tripClaim
  split
  case h_1 => exact k.countClaim
  case h_2 => exact k
  all_goals exact k.enterLockout _ _

theorem emergency (cause : Cause) : Keeps writes hears points s (t.emergency cause) :=
  ite _ k.countClaim (k.enterLockout _ _)

theorem coolerStop : Keeps writes hears points s t.coolerStop := by
  unfold State.coolerStop
  split
  case h_1 => exact k.countClaim
  case h_2 => exact k
  all_goals exact k.enterLockout _ _

theorem claimForPurge (a : Fin 2) : Keeps writes hears points s (t.claimForPurge a) :=
  ite _ (k.startHome a) (k.startMove a _)

theorem toPurge : Keeps writes hears points s t.toPurge := by
  have purge := (((k.burnerTo .purge).modBurner (fun b =>
    { b with
      giveUpAt := some (t.floorTime + 3 * b.cfg.purgeTime * 1000), purgeSince := none, purgeStarted := false })
        (fun _ => rfl)).raise
    .burner).modTotals fun t => { t with purgeStarts := add32 t.purgeStarts 1 }
  exact (purge.abortWork.setOwners .sequence).foldl (f := fun s a => s.claimForPurge a) (fun a ku => ku.claimForPurge a) _

theorem toPrepare : Keeps writes hears points s t.toPrepare :=
  ((k.burnerTo .prepare).raise .burner).foldl (fun a ku => ku.startMove a _) _

theorem toPilot : Keeps writes hears points s t.toPilot := ((k.burnerTo _).modBurner _ (fun _ => rfl)).raise _

theorem toMainTrial (named : List (Fin 6)) : Keeps writes hears points s (t.toMainTrial named) :=
  foldl (((k.burnerTo _).modBurner _ (fun _ => rfl)).raise _) (fun l ku => ku.admitLine l) named

theorem toMainFiring : Keeps writes hears points s t.toMainFiring :=
  ((((k.burnerTo _).modBurner _ (fun _ => rfl)).raise _).addEvent _).evaluate

theorem rampCeiling (seconds : Nat) : Keeps writes hears points s (t.rampCeiling seconds) :=
  evaluate (ite _ (k.modBurner _ (fun _ => rfl)) (k.modBurner _ (fun _ => rfl)))

theorem toStopping : Keeps writes hears points s t.toStopping :=
  (((k.burnerTo .stopping).raise .burner).evaluate).foldl (fun l ku => ite _ (ku.beginShut l) ku) _

theorem watchLines : Keeps writes hears points s t.watchLines := ite _ k (ite _ (k.toIdle _) (ite _ (k.toIdle _) k))

theorem voteFlame : Keeps writes hears points s t.voteFlame := k.modBurner _ (fun _ => rfl)

theorem watchBurner : Keeps writes hears points s t.watchBurner := by
  unfold State.watchBurner
  refine k.modBurner _ fun _ => ?_
  unfold Burner.watchPurge
  dsimp only
  split <;> rfl

theorem leaveLockout : Keeps writes hears points s t.leaveLockout := ((k.modBurner _ (fun _ => rfl)).setOwners _).toIdle _

theorem claimForHost (a : Fin 2) : Keeps writes hears points s (t.claimForHost a) := k.modActuator a _

theorem endMainTrial : Keeps writes hears points s t.endMainTrial := ite _ k.toMainFiring (k.enterLockout _ _)

/-! ### A change of a point's state (R131, R134, R135, R142) -/

theorem modPoint (i : Fin 96) (f : Point → Point)
    (view : points = false → (f t.alarm.points[i.val]).view = t.alarm.points[i.val].view)
    (defn : writes = false → (f t.alarm.points[i.val]).defn = t.alarm.points[i.val].defn) :
    Keeps writes hears points s (t.modPoint i f) := by
  refine k.modAlarm _ ⟨fun w j => ?_, fun _ => ⟨rfl, rfl, rfl⟩, id, fun p => ?_, fun p => ?_⟩
  · simp only [upd_get]
    split
    · subst j
      exact defn w
    · rfl
  · exact Alarm.shelved_of_view (upd_point_view (view p)) rfl
  · exact Alarm.rung_of_view (upd_point_view (view p)) rfl rfl

theorem listChange (i : Fin 96) (new : PointState) : Keeps writes hears points s (t.listChange i new) := by
  unfold State.listChange
  dsimp only
  split
  · exact k
  · exact ite _ (k.modAlarm _ (Alarm.addChange_kept _ _ _ _)) ((k.modAlarm _ (Alarm.addChange_kept _ _ _ _)).raise _)

theorem claimCutBack (i : Fin 96) (cutBack : Nat) (old new : PointState) :
    Keeps writes hears points s (t.claimCutBack i cutBack old new) :=
  ite _ k (ite _ (k.modHeat _ id).evaluate (k.modHeat _ id).evaluate)

theorem formHorn : Keeps writes hears points s t.formHorn := by
  unfold State.formHorn
  have formed := k.modAlarm (fun a => { a with horn := hornOf a.points, standing := standingOf t.alarm.points })
    ⟨fun _ _ => rfl, fun _ => ⟨rfl, rfl, rfl⟩, id, fun _ => id, fun _ _ => ⟨rfl, rfl⟩⟩
  exact formed.modTotals _

/-- A change of state leaves the shelf and forms the horn and the standing count. -/
theorem enterPoint (i : Fin 96) (new : PointState)
    (offShelf : points = false → t.alarm.points[i.val].state ≠ .shelved ∧ new ≠ .shelved) :
    Keeps writes hears points s (t.enterPoint i new) := by
  have whole : Keeps writes hears true s (t.enterPoint i new) :=
    (((k.weaken.listChange i new).modPoint i _ nofun (fun _ => rfl)).claimCutBack i _ _ _).formHorn
  refine { whole with alarm := ⟨whole.alarm.defn, whole.alarm.cfg, whole.alarm.changes, fun p law => ?_, fun _ _ => ?_⟩ }
  · obtain ⟨old, new'⟩ := offShelf p
    refine Alarm.shelved_enter (State.enterPoint_points t i new) (State.enterPoint_shelf t i new) old new' ?_
    exact k.alarm.shelved p law
  · exact State.enterPoint_rung t i new

theorem restPoint (i : Fin 96) (offShelf : points = false → t.alarm.points[i.val].state ≠ .shelved) :
    Keeps writes hears points s (t.restPoint i) :=
  k.enterPoint i _ fun p => ⟨offShelf p, by split <;> decide⟩

/-! ### Raises and floods (R131, R133, R145) -/

omit k in
/-- What a raise adds to the change of state. -/
theorem raiseOnce_of_entered {i : Fin 96} (entered : Keeps writes hears points s (t.enterPoint i .raised)) :
    Keeps writes hears points s (t.raiseOnce i) := by
  have raised := entered.modTotals fun totals =>
    { totals with
      raises := upd totals.raises ⟨t.alarm.points[i.val].defn.cls.ctorIdx, by
        cases t.alarm.points[i.val].defn.cls <;> decide⟩ fun n => add32 n 1 }
  unfold State.raiseOnce
  refine modAlarm ?_ _ (.of_eq rfl)
  exact ite _ ((raised.raise .trip).addEvent _) raised

theorem raiseOnce (i : Fin 96) (offShelf : points = false → t.alarm.points[i.val].state ≠ .shelved) :
    Keeps writes hears points s (t.raiseOnce i) :=
  raiseOnce_of_entered (k.enterPoint i .raised fun p => ⟨offShelf p, by decide⟩)

theorem raiseFlood : Keeps writes hears points s t.raiseFlood := by
  unfold State.raiseFlood
  dsimp only
  split
  · exact k
  · have set := k.modPoint 12 (fun q => { q with condition := true, active := true }) (fun _ => rfl) (fun _ => rfl)
    split
    · rename_i resting
      refine set.raiseOnce 12 fun _ shelved => ?_
      have state : t.alarm.points[12].state = .shelved := by simpa [State.modPoint, State.modAlarm, upd] using shelved
      simp [state] at resting
    · exact set

theorem watchFlood : Keeps writes hears points s t.watchFlood :=
  ite _ ((((k.modAlarm _ (.of_eq rfl)).addEvent _).modTotals _).raiseFlood) k

omit k in
theorem raisePoint_of_entered {i : Fin 96} (entered : Keeps writes hears points s (t.enterPoint i .raised)) :
    Keeps writes hears points s (t.raisePoint i) :=
  ite _ ((raiseOnce_of_entered entered).watchFlood.tripClaim _) (raiseOnce_of_entered entered).watchFlood

theorem raisePoint (i : Fin 96) (offShelf : points = false → t.alarm.points[i.val].state ≠ .shelved) :
    Keeps writes hears points s (t.raisePoint i) :=
  raisePoint_of_entered (k.enterPoint i .raised fun p => ⟨offShelf p, by decide⟩)

/-! ### Active state and condition (R130, R131) -/

theorem becomeActive (i : Fin 96) : Keeps writes hears points s (t.becomeActive i) := by
  unfold State.becomeActive
  dsimp only
  have set := k.modPoint i (fun q => { q with active := true, delayAt := none }) (fun _ => rfl) (fun _ => rfl)
  split
  · rename_i resting
    refine set.raisePoint i fun _ shelved => ?_
    have state : t.alarm.points[i.val].state = .shelved := by simpa [State.modPoint, State.modAlarm] using shelved
    simp [state] at resting
  · exact set

theorem becomeInactive (i : Fin 96) : Keeps writes hears points s (t.becomeInactive i) := by
  unfold State.becomeInactive
  dsimp only
  have set := k.modPoint i (fun q => { q with active := false, delayAt := none }) (fun _ => rfl) (fun _ => rfl)
  have state (shelved : (t.modPoint i fun q => { q with active := false, delayAt := none }).alarm.points[i.val].state =
      .shelved) : t.alarm.points[i.val].state = .shelved := by simpa [State.modPoint, State.modAlarm] using shelved
  split
  · rename_i resting
    exact set.restPoint i fun _ shelved => by simp [state shelved] at resting
  · split
    · rename_i raised
      exact set.enterPoint i _ fun _ => ⟨fun shelved => by simp [state shelved] at raised, by decide⟩
    · exact set

theorem setCondition (i : Fin 96) (c : Bool) : Keeps writes hears points s (t.setCondition i c) := by
  unfold State.setCondition
  dsimp only
  have set := k.modPoint i (fun q => { q with condition := c }) (fun _ => rfl) (fun _ => rfl)
  split
  · exact k
  · split
    · exact set.modPoint i _ (fun _ => rfl) (fun _ => rfl)
    · split
      · exact ite _ (set.becomeActive i) (set.modPoint i _ (fun _ => rfl) (fun _ => rfl))
      · exact ite _ (set.becomeInactive i) (set.modPoint i _ (fun _ => rfl) (fun _ => rfl))

/-! ### Evaluation of the points (R128, R129, R136) -/

theorem syncGroup (i : Fin 96) (holds : Bool) : Keeps writes hears points s (t.syncGroup i holds) := by
  unfold State.syncGroup
  dsimp only
  split
  · rename_i normal
    exact k.enterPoint i _ fun _ => ⟨fun shelved => by simp [shelved] at normal, by decide⟩
  · split
    · rename_i suppressed
      have off : t.alarm.points[i.val].state ≠ .shelved := fun shelved => by simp [shelved] at suppressed
      exact ite _ (k.raisePoint i fun _ => off) (k.enterPoint i _ fun _ => ⟨off, by decide⟩)
    · exact k

theorem syncPoint (before : State) (i : Fin 96) : Keeps writes hears points s (t.syncPoint before i) :=
  ite _ k ((k.syncGroup i _).setCondition i _)

theorem handPoint (i : Fin 96) (c : Bool) : Keeps writes hears points s (t.handPoint i c) := ite _ k (k.setCondition i c)

theorem clearHanded : Keeps writes hears points s t.clearHanded := (k.modAlarm _ (.of_eq rfl)).modHeat _ id

theorem syncAlarms : Keeps writes hears points s t.syncAlarms := by
  unfold State.syncAlarms
  refine foldl (foldl k.clearHanded ?_ _) ?_ _
  · exact fun h ku => ku.handPoint h.1 h.2
  · exact fun i ku => ku.syncPoint t i

/-! ### Acknowledging, shelving, disabling (R132, R137 to R140) -/

theorem acknowledge (i : Fin 96) : Keeps writes hears points s (t.acknowledge i).1 := by
  unfold State.acknowledge
  dsimp only
  split
  · exact k
  · split
    · rename_i raised
      exact k.enterPoint i _ fun _ => ⟨fun shelved => by simp [shelved] at raised, by decide⟩
    · split
      · rename_i returned
        exact k.restPoint i fun _ shelved => by simp [shelved] at returned
      · exact k

theorem acknowledgeClass (c : PointClass) : Keeps writes hears points s (t.acknowledgeClass c).1 := by
  have each (l : List (Fin 96)) (acc : State × Nat) (ka : Keeps writes hears points s acc.1) :
      Keeps writes hears points s (l.foldl (fun acc i =>
        if acc.1.alarm.points[i.val].defn.cls = c then
          let r := acc.1.acknowledge i
          (r.1, acc.2 + r.2.toNat)
        else acc) acc).1 := by
    induction l generalizing acc with
    | nil => exact ka
    | cons i l ih =>
      refine ih _ ?_
      beta_reduce
      split
      · exact ka.acknowledge i
      · exact ka
  exact each _ (t, 0) k

theorem reviewFlood : Keeps writes hears points s t.reviewFlood := by
  have ended := k.modAlarm (fun a => { a with flood := false, reviewAt := none }) (.of_eq rfl)
  exact ite _ ((ite _ ended (ended.setCondition 12 false)).addEvent _) (k.modAlarm _ (.of_eq rfl))

end Keeps

end Sys2Proof.Machine
end

section
/-! The shelf (R137 to R140): a point that joins the shelf list and one that leaves it keep the shelf law. -/

namespace Sys2Proof.Machine

open Sys2Proof

theorem placeOnShelf_perm (i : Fin 96) (expiry : Nat) (l : List (Fin 96 × Nat)) :
    (placeOnShelf i expiry l).Perm ((i, expiry) :: l) := by
  induction l with
  | nil => exact .refl _
  | cons e rest ih =>
    unfold placeOnShelf
    split
    · exact (ih.cons e).trans (.swap _ _ _)
    · exact .refl _

theorem placeOnShelf_pairwise (i : Fin 96) (expiry : Nat) {l : List (Fin 96 × Nat)}
    (sorted : l.Pairwise fun x y => x.2 ≤ y.2) : (placeOnShelf i expiry l).Pairwise fun x y => x.2 ≤ y.2 := by
  induction l with
  | nil => exact List.pairwise_singleton _ _
  | cons e rest ih =>
    obtain ⟨first, others⟩ := List.pairwise_cons.1 sorted
    unfold placeOnShelf
    split
    · rename_i before
      refine List.pairwise_cons.2 ⟨fun x hx => ?_, ih others⟩
      obtain rfl | hx := List.mem_cons.1 ((placeOnShelf_perm i expiry rest).mem_iff.1 hx)
      · exact before
      · exact first x hx
    · rename_i after
      refine List.pairwise_cons.2 ⟨fun x hx => ?_, sorted⟩
      obtain rfl | hx := List.mem_cons.1 hx
      · exact (not_le.1 after).le
      · exact (not_le.1 after).le.trans (first x hx)

theorem mem_offShelf {i j : Fin 96} {l : List (Fin 96 × Nat)} :
    j ∈ (offShelf i l).map Prod.fst ↔ j ≠ i ∧ j ∈ l.map Prod.fst := by
  simp only [offShelf, List.mem_map, List.mem_filter, bne_iff_ne]
  constructor
  · rintro ⟨e, ⟨member, other⟩, rfl⟩
    exact ⟨other, e, member, rfl⟩
  · rintro ⟨other, e, member, rfl⟩
    exact ⟨e, ⟨member, other⟩, rfl⟩

theorem offShelf_sublist (i : Fin 96) (l : List (Fin 96 × Nat)) : (offShelf i l).Sublist l := List.filter_sublist

/-- A point that leaves the shelf list for another state. -/
theorem Alarm.shelved_leave {a b : Alarm} {i : Fin 96} (shelf : b.shelf = offShelf i a.shelf)
    (others : ∀ j : Fin 96, j ≠ i → b.points[j.val].state = a.points[j.val].state)
    (left : b.points[i.val].state ≠ .shelved) (law : a.shelved) : b.shelved := by
  obtain ⟨nodup, room, sorted, members⟩ := law
  have sub := offShelf_sublist i a.shelf
  rw [Alarm.shelved, shelf]
  refine ⟨nodup.sublist (sub.map _), sub.length_le.trans room, sorted.sublist sub, fun j => ?_⟩
  rw [mem_offShelf]
  by_cases same : j = i
  · subst j
    exact iff_of_false left fun h => h.1 rfl
  · rw [others j same, members j]
    exact (and_iff_right same).symm

/-- A point that is placed on the shelf list. -/
theorem Alarm.shelved_join {a b : Alarm} {i : Fin 96} {expiry : Nat}
    (shelf : b.shelf = placeOnShelf i expiry (offShelf i a.shelf))
    (others : ∀ j : Fin 96, j ≠ i → b.points[j.val].state = a.points[j.val].state)
    (joined : b.points[i.val].state = .shelved) (space : a.points[i.val].state = .shelved ∨ a.shelf.length < 16)
    (law : a.shelved) : b.shelved := by
  obtain ⟨nodup, room, sorted, members⟩ := law
  have sub := offShelf_sublist i a.shelf
  have perm := placeOnShelf_perm i expiry (offShelf i a.shelf)
  rw [Alarm.shelved, shelf]
  refine ⟨?_, ?_, placeOnShelf_pairwise i expiry (sorted.sublist sub), fun j => ?_⟩
  · rw [(perm.map Prod.fst).nodup_iff, List.map_cons, List.nodup_cons, mem_offShelf]
    exact ⟨fun h => h.1 rfl, nodup.sublist (sub.map _)⟩
  · rw [perm.length_eq, List.length_cons]
    obtain shelved | space := space
    · have shorter : (offShelf i a.shelf).length < a.shelf.length := by
        refine lt_of_le_of_ne sub.length_le fun same => ?_
        have whole : offShelf i a.shelf = a.shelf := sub.eq_of_length same
        have : i ∈ (offShelf i a.shelf).map Prod.fst := by rw [whole]; exact (members i).1 shelved
        exact (mem_offShelf.1 this).1 rfl
      omega
    · have := sub.length_le
      omega
  · rw [(perm.map Prod.fst).mem_iff, List.map_cons, List.mem_cons, mem_offShelf]
    by_cases same : j = i
    · subst j
      exact iff_of_true joined (.inl rfl)
    · rw [others j same, members j]
      exact ⟨fun h => .inr ⟨same, h⟩, fun h => h.elim (fun e => absurd e same) And.right⟩

theorem upd_state_of_ne {points : Vector Point 96} {i j : Fin 96} (f : Point → Point) (other : j ≠ i) :
    (upd points i f)[j.val].state = points[j.val].state := by
  rw [upd_get_ne _ _ _ _ other.symm]

theorem upd_state_self (points : Vector Point 96) (i : Fin 96) {f : Point → Point} (same : ∀ q, (f q).state = q.state) :
    (upd points i f)[i.val].state = points[i.val].state := by
  rw [upd_get_self, same]

theorem State.enterPoint_state_self (s : State) (i : Fin 96) (new : PointState) :
    (s.enterPoint i new).alarm.points[i.val].state = new := by
  simp only [State.enterPoint_points, upd_get_self]

theorem State.enterPoint_state_of_ne (s : State) {i j : Fin 96} (new : PointState) (other : j ≠ i) :
    (s.enterPoint i new).alarm.points[j.val].state = s.alarm.points[j.val].state := by
  simp only [State.enterPoint_points, upd_state_of_ne _ other]

/-- The part with a point in SHELVED, which it enters where it is not (R137). -/
def State.enterShelved (s : State) (i : Fin 96) : State :=
  if s.alarm.points[i.val].state = .shelved then s else s.enterPoint i .shelved

theorem State.shelvePoint_eq (s : State) (i : Fin 96) (expiry : Nat) :
    s.shelvePoint i expiry =
      (((s.enterShelved i).modPoint i fun q => { q with expiry := some expiry }).modAlarm fun a =>
        { a with shelf := placeOnShelf i expiry (offShelf i a.shelf) }).modTotals fun t =>
          { t with shelves := add32 t.shelves 1 } := rfl

theorem State.enterShelved_spec (s : State) (i : Fin 96) :
    (s.enterShelved i).alarm.shelf = s.alarm.shelf ∧ (s.enterShelved i).alarm.points[i.val].state = .shelved ∧
      (∀ j : Fin 96, j ≠ i → (s.enterShelved i).alarm.points[j.val].state = s.alarm.points[j.val].state) ∧
      (s.alarm.rung → (s.enterShelved i).alarm.rung) := by
  by_cases shelved : s.alarm.points[i.val].state = .shelved
  · rw [State.enterShelved, if_pos shelved]
    exact ⟨rfl, shelved, fun _ _ => rfl, id⟩
  · rw [State.enterShelved, if_neg shelved]
    exact ⟨State.enterPoint_shelf _ _ _, s.enterPoint_state_self i _, fun _ => s.enterPoint_state_of_ne _,
      fun _ => State.enterPoint_rung _ _ _⟩

namespace Keeps

variable {writes hears : Bool} {s t : State} (k : Keeps writes hears false s t)
include k

/-- A point taken off the shelf list enters a state other than SHELVED. -/
theorem leaveShelf (i : Fin 96) {new : PointState} (off : new ≠ .shelved) :
    Keeps writes hears false s
      (((t.modAlarm fun a => { a with shelf := offShelf i a.shelf }).modPoint i fun q =>
        { q with expiry := none }).enterPoint i new) := by
  have whole := ((k.weaken.modAlarm (fun a => { a with shelf := offShelf i a.shelf })
    ⟨fun _ _ => rfl, fun _ => ⟨rfl, rfl, rfl⟩, id, nofun, nofun⟩).modPoint i (fun q =>
      { q with expiry := none }) (fun _ => rfl) (fun _ => rfl)).enterPoint i new nofun
  refine { whole with alarm := ⟨whole.alarm.defn, whole.alarm.cfg, whole.alarm.changes, fun _ law => ?_, fun _ _ => ?_⟩ }
  · refine Alarm.shelved_leave (a := t.alarm) (i := i) (State.enterPoint_shelf _ _ _) (fun j other => ?_) ?_
      (k.alarm.shelved rfl law)
    · exact (State.enterPoint_state_of_ne _ _ other).trans (upd_state_of_ne _ other)
    · rwa [State.enterPoint_state_self]
  · exact State.enterPoint_rung _ _ _

theorem unshelvePoint (i : Fin 96) : Keeps writes hears false s (t.unshelvePoint i) :=
  ite _ (k.leaveShelf i (by decide))
    (ite _ (raisePoint_of_entered (k.leaveShelf i (by decide))) (k.leaveShelf i (by decide)))

theorem shelvePoint (i : Fin 96) (expiry : Nat)
    (space : t.alarm.points[i.val].state = .shelved ∨ t.alarm.shelf.length < 16) :
    Keeps writes hears false s (t.shelvePoint i expiry) := by
  obtain ⟨shelf, joined, others, rung⟩ := t.enterShelved_spec i
  rw [State.shelvePoint_eq]
  have kept : Keeps writes hears true s (t.enterShelved i) := by
    unfold State.enterShelved
    exact ite _ k.weaken (k.weaken.enterPoint i _ nofun)
  have whole := ((kept.modPoint i (fun q => { q with expiry := some expiry }) (fun _ => rfl) (fun _ => rfl)).modAlarm
    (fun a => { a with shelf := placeOnShelf i expiry (offShelf i a.shelf) })
    ⟨fun _ _ => rfl, fun _ => ⟨rfl, rfl, rfl⟩, id, nofun, nofun⟩).modTotals fun t => { t with shelves := add32 t.shelves 1 }
  refine { whole with alarm := ⟨whole.alarm.defn, whole.alarm.cfg, whole.alarm.changes, fun _ law => ?_, fun _ law => ?_⟩ }
  · refine Alarm.shelved_join (a := t.alarm) (i := i) (expiry := expiry) ?_ (fun j other => ?_) ?_ space
      (k.alarm.shelved rfl law)
    · rw [← shelf]
      rfl
    · exact (upd_state_of_ne _ other).trans (others j other)
    · exact (upd_state_self (f := fun q => { q with expiry := some expiry }) _ i fun _ => rfl).trans joined
  · exact Alarm.rung_of_view (a := (t.enterShelved i).alarm) (upd_point_view rfl) rfl rfl (rung (k.alarm.rung rfl law))

theorem disablePoint (i : Fin 96) : Keeps writes hears false s (t.disablePoint i) := by
  have whole := ((k.weaken.enterPoint i .disabled nofun).modAlarm (fun a => { a with shelf := offShelf i a.shelf })
    ⟨fun _ _ => rfl, fun _ => ⟨rfl, rfl, rfl⟩, id, nofun, nofun⟩).modPoint i (fun q =>
      { q with condition := false, active := false, delayAt := none, expiry := none }) (fun _ => rfl) (fun _ => rfl)
  refine { whole with alarm := ⟨whole.alarm.defn, whole.alarm.cfg, whole.alarm.changes, fun _ law => ?_, fun _ _ => ?_⟩ }
  · refine Alarm.shelved_leave (a := t.alarm) (i := i) ?_ (fun j other => ?_) ?_ (k.alarm.shelved rfl law)
    · exact congrArg (offShelf i) (State.enterPoint_shelf t i .disabled)
    · refine Eq.trans ?_ (t.enterPoint_state_of_ne .disabled other)
      exact upd_state_of_ne (points := (t.enterPoint i .disabled).alarm.points)
        (fun q => { q with condition := false, active := false, delayAt := none, expiry := none }) other
    · refine ne_of_eq_of_ne (b := PointState.disabled) ?_ (by decide)
      exact (upd_state_self (f := fun q => { q with condition := false, active := false, delayAt := none, expiry := none })
        _ i fun _ => rfl).trans (t.enterPoint_state_self i .disabled)
  · exact Alarm.rung_of_view (a := (t.enterPoint i .disabled).alarm) (upd_point_view rfl) rfl rfl
      (State.enterPoint_rung _ _ _)

theorem enablePoint (i : Fin 96) (disabled : t.alarm.points[i.val].state = .disabled) :
    Keeps writes hears false s (t.enablePoint i) := by
  have cleared := k.modPoint i (fun q => { q with condition := false, active := false, delayAt := none, expiry := none })
    (fun _ => rfl) (fun _ => rfl)
  refine syncPoint (cleared.enterPoint i .normal fun _ => ⟨fun shelved => ?_, by decide⟩) _ i
  have : t.alarm.points[i.val].state = .shelved := by simpa [State.modPoint, State.modAlarm] using shelved
  simp [this] at disabled

end Keeps

end Sys2Proof.Machine
end

section
/-! The cooler's and the field unit's operations keep what `Keeps` says, and with them what settles within an event
(Chapters 5 and 6). -/

namespace Sys2Proof.Machine

open Sys2Proof

theorem Cooler.formBed_cfg (c : Cooler) : c.formBed.cfg = c.cfg := by
  unfold Cooler.formBed
  split <;> rfl

/-- A new state of a record leaves the checks. -/
theorem upd_checked {v : Vector DiagRecord 23} (r : Fin 23) (f : DiagState → DiagState) (q : Fin 23) :
    (upd v r fun d => { d with state := f d.state })[q.val].checked = v[q.val].checked := by
  rw [upd_get]
  split
  · subst q
    rfl
  · rfl

theorem Field.cleared_checked (f : Field) (named : List (Fin 23)) (q : Fin 23) :
    (f.cleared named).records[q.val].checked = f.records[q.val].checked := by
  have each (v : Vector DiagRecord 23) :
      (named.foldl (fun v r => upd v r fun d => { d with state := .ok }) v)[q.val].checked = v[q.val].checked := by
    induction named generalizing v with
    | nil => rfl
    | cons r named ih => exact (ih _).trans (upd_checked r (fun _ => .ok) q)
  exact each _

/-- An update of the records that leaves their checks leaves the settings and the signals. -/
theorem Field.Kept.of_records {writes hears : Bool} {f : Field} {records : Vector DiagRecord 23}
    (checked : ∀ q : Fin 23, records[q.val].checked = f.records[q.val].checked) :
    Field.Kept writes hears f { f with records := records } :=
  ⟨fun _ => rfl, fun _ => checked, fun _ => rfl, fun _ => ⟨rfl, rfl, rfl, rfl, rfl, rfl, rfl, rfl, rfl⟩⟩

/-- An update of the signals leaves the settings. -/
theorem Field.Kept.of_settings {writes : Bool} {f g : Field} (cfg : g.cfg = f.cfg) (records : g.records = f.records)
    (openCheck : g.openCheck = f.openCheck) (closeCheck : g.closeCheck = f.closeCheck)
    (motionCheck : g.motionCheck = f.motionCheck) : Field.Kept writes true f g :=
  ⟨fun _ => cfg, fun _ _ => by rw [records], fun _ => by rw [openCheck, closeCheck, motionCheck], nofun⟩

/-- An update of the settings leaves the signals. -/
theorem Field.Kept.of_signals {hears : Bool} {f g : Field} (inputs : g.inputs = f.inputs)
    (counters : g.counters = f.counters)
    (rotation : g.rotation = f.rotation) (channels : g.channels = f.channels) (scanAt : g.scanAt = f.scanAt)
    (linkFault : g.linkFault = f.linkFault) (lastScan : g.lastScan = f.lastScan) (valid : g.validScans = f.validScans)
    (ignored : g.ignoredScans = f.ignoredScans) : Field.Kept true hears f g :=
  ⟨nofun, nofun, nofun, fun _ => ⟨inputs, counters, rotation, channels, scanAt, linkFault, lastScan, valid, ignored⟩⟩

namespace Keeps

variable {writes hears points : Bool} {s t : State} (k : Keeps writes hears points s t)
include k

/-! ### The cooler (R88 to R104) -/

theorem formCooler : Keeps writes hears points s t.formCooler := by
  unfold State.formCooler
  exact (k.modCooler _ (fun _ => rfl)).modCooler _ (fun _ => rfl)

theorem countFired : Keeps writes hears points s t.countFired := k.modTotals _

theorem countSkipped (n : Nat) : Keeps writes hears points s (t.countSkipped n) := k.modTotals _

theorem abandonCycle : Keeps writes hears points s t.abandonCycle := by
  unfold State.abandonCycle
  split
  · exact (k.modCooler _ (fun _ => rfl)).countSkipped _
  · exact k

theorem endBlasting : Keeps writes hears points s t.endBlasting := k.abandonCycle.modCooler _ (fun _ => rfl)

theorem blasterPulse : Keeps writes hears points s t.blasterPulse := by
  unfold State.blasterPulse
  refine ite _ (k.modCooler _ fun _ => ?_) k
  split <;> rfl

theorem decideBlaster (next due : Nat) : Keeps writes hears points s (t.decideBlaster next due) :=
  ite _ (k.modCooler _ (fun _ => rfl)).countFired ((k.modCooler _ (fun _ => rfl)).countSkipped _)

theorem coolerTo (st : CoolerState) : Keeps writes hears points s (t.coolerTo st) :=
  ((k.modCooler _ (fun _ => rfl)).raise _).addEvent _

theorem beginStart : Keeps writes hears points s t.beginStart := (k.coolerTo _).modCooler _ (fun _ => rfl)

theorem startNext : Keeps writes hears points s t.startNext := by
  unfold State.startNext
  have started := k.modGrate (turn t.cooler.started) fun g =>
    { g with state := if g.state = .fault then GrateState.fault else GrateState.running }
  exact ite _ (started.modCooler _ (fun _ => rfl)) ((started.modCooler _ (fun _ => rfl)).coolerTo _)

theorem stopNext : Keeps writes hears points s t.stopNext := by
  unfold State.stopNext
  dsimp only
  split
  · exact modCooler (modCooler (k.modGrate _ _) _ (fun _ => rfl)) _ (fun _ => rfl)
  · exact k.modCooler _ (fun _ => rfl)

theorem endSurge : Keeps writes hears points s t.endSurge :=
  evaluate (addEvent (modHeat (k.modCooler (fun c => { c.formBed with releaseAt := none }) fun _ =>
    Cooler.formBed_cfg _) _ id) _)

theorem beginStop : Keeps writes hears points s t.beginStop := by
  unfold State.beginStop
  exact coolerStop (stopNext (modCooler (coolerTo (ite _ k.endBlasting.endSurge k.endBlasting) _) _ (fun _ => rfl)))

theorem stopCooler : Keeps writes hears points s t.stopCooler := by
  unfold State.stopCooler
  split
  case h_1 | h_2 | h_3 => exact k.beginStop
  case h_4 | h_5 => exact k

theorem endRunOn : Keeps writes hears points s t.endRunOn := ((k.modCooler _ (fun _ => rfl)).coolerTo _).coolerStop

theorem beginSurge : Keeps writes hears points s t.beginSurge :=
  (((((k.endBlasting.modHeat _ id).modCooler _ (fun _ => rfl)).raise _).addEvent _).modTotals _).evaluate

theorem formBedMean : Keeps writes hears points s t.formBedMean := by
  unfold State.formBedMean
  dsimp only
  split
  · exact ite _ (k.modCooler _ (fun _ => rfl)).beginSurge (k.modCooler _ (fun _ => rfl))
  · exact (k.modCooler _ (fun _ => rfl)).modCooler _ (fun _ => rfl)
  · exact k.modCooler _ (fun _ => rfl)

theorem release : Keeps writes hears points s t.release := ((k.modCooler _ (fun _ => rfl)).raise _).endSurge

theorem faultGrate (g : Fin 4) : Keeps writes hears points s (t.faultGrate g) := ite _ k ((k.modGrate g _).raise _)

theorem clearGrate (g : Fin 4) : Keeps writes hears points s (t.clearGrate g) := ite _ (k.modGrate g _) k

theorem stagger : Keeps writes hears points s t.stagger := by
  unfold State.stagger
  split
  · exact k.startNext
  · exact k.stopNext
  all_goals exact k.modCooler _ (fun _ => rfl)

theorem bedTick : Keeps writes hears points s (t.modCooler Cooler.bedTick) :=
  k.modCooler _ fun _ => Cooler.formBed_cfg _

/-! ### Output diagnostic records and valve watches (R117 to R122) -/

theorem handLatch (r : Fin 23) (kind : FaultKind) : Keeps writes hears points s (t.handLatch r kind) := by
  unfold State.handLatch
  split
  · split
    · exact k.lineLatch _ _
    · exact k
  · exact k.faultGrate _
  · exact k.modChamber _ _

theorem latch (r : Fin 23) (kind : FaultKind) : Keeps writes hears points s (t.latch r kind) := by
  unfold State.latch
  exact handLatch (modField (ite _ k (k.raise _)) _ (.of_records (upd_checked r fun d => d.latch kind))) r kind

theorem testRecord (r : Fin 23) : Keeps writes hears points s (t.testRecord r) := by
  unfold State.testRecord
  split
  · exact ite _ (k.latch r _) k
  · exact k

theorem handClear (r : Fin 23) : Keeps writes hears points s (t.handClear r) := by
  unfold State.handClear
  split
  · exact k
  · exact k.clearGrate _
  · exact k.modChamber _ _

theorem handCleared (before : State) (r : Fin 23) : Keeps writes hears points s (before.handCleared t r) :=
  ite _ (k.handClear r) k

theorem clearRecords (named : List (Fin 23)) : Keeps writes hears points s (t.clearRecords named) := by
  unfold State.clearRecords
  refine foldl (foldl (k.modField _ (.of_records (Field.cleared_checked _ named))) ?_ _) ?_ _
  · exact fun r ku => ku.testRecord r
  · exact fun r ku => ku.handCleared t r

theorem retest (before : State) (r : Fin 23) : Keeps writes hears points s (before.retest t r) := by
  unfold State.retest
  split
  · exact ite _ (k.latch r _) k
  · exact k

theorem setPhase (v : Fin 7) (p : WatchPhase) : Keeps writes hears points s (t.setPhase v p) := k.modField _ (.of_eq rfl rfl)

theorem handProof (v : Fin 7) : Keeps writes hears points s (t.handProof v) := by
  unfold State.handProof
  split
  · exact k.lineProof _ _
  · exact k

theorem unprove (v : Fin 7) {masked : State → State}
    (hand : Keeps writes hears points s (masked (t.setPhase v .unproven))) :
    Keeps writes hears points s (t.unprove v masked) :=
  ite _ ((k.setPhase v _).latch _ _) hand

theorem watchValve (v : Fin 7) : Keeps writes hears points s (t.watchValve v) := by
  unfold State.watchValve
  split
  · exact ite _ ((k.setPhase v _).handProof v) k
  · exact ite _ (k.unprove v (k.setPhase v _)) k
  · exact ite _ (k.setPhase v _) k

theorem proofExpired (v : Fin 7) : Keeps writes hears points s (t.proofExpired v) :=
  k.unprove v ((k.setPhase v _).handProof v)

/-! ### Inputs (R110) -/

theorem handInput (n : Fin 24) (level : Bool) : Keeps writes hears points s (t.handInput n level) := by
  unfold State.handInput
  split
  · exact ite _ (k.emergency _) k
  · exact k.voteFlame
  · exact k.voteFlame
  · exact ite _ k (k.readyLost 0)
  · exact ite _ k (k.readyLost 1)
  · exact ite _ k.stopCooler k
  · exact k

/-! ### The image and the drive frames (R116) -/

theorem formImage : Keeps writes hears points s t.formImage := ite _ k ((k.modField _ (.of_eq rfl rfl)).modHeat _ id)

theorem beginDrive : Keeps writes hears points s t.beginDrive := k.modField _ (.of_eq rfl rfl)

/-! ### What settles within an event -/

theorem watchHome (a : Fin 2) : Keeps writes hears points s (t.watchHome a) := ite _ (k.homeDone a) k

theorem react : Keeps writes hears points s t.react := by
  have homed := k.foldl (f := fun s a => s.watchHome a) (fun a ku => ku.watchHome a) allActuators
  have watched := homed.foldl (f := fun s v => s.watchValve v) (fun v ku => ku.watchValve v) allValves
  exact watched.watchLines.formCooler.evaluate.formImage.watchBurner.syncAlarms

theorem settle : Keeps writes hears points s t.settle := k.react.react.react.formImage.handDurations

end Keeps

/-! ### What brings a signal (R109 to R115) -/

namespace Keeps

variable {writes points : Bool} {s t : State} (k : Keeps writes true points s t)
include k

theorem accept (n : Fin 24) (level : Bool) : Keeps writes true points s (t.accept n level) :=
  (k.modField _ (.of_settings rfl rfl rfl rfl rfl)).handInput n level

theorem rawChange (n : Fin 24) (level : Bool) : Keeps writes true points s (t.rawChange n level) := by
  unfold State.rawChange
  have heard := k.modField (fun f => { f with inputs := upd f.inputs n fun d => { d with raw := level } })
    (.of_settings rfl rfl rfl rfl rfl)
  exact ite _ k (ite _ (heard.modField _ (.of_settings rfl rfl rfl rfl rfl))
    (ite _ (heard.accept n level) (heard.modField _ (.of_settings rfl rfl rfl rfl rfl))))

theorem countPulse (n : Fin 11) : Keeps writes true points s (t.countPulse n) :=
  k.modField _ (.of_settings rfl rfl rfl rfl rfl)

theorem weigh (l : Fin 6) : Keeps writes true points s (t.weigh l) := by
  unfold State.weigh
  exact ite _ (((k.countPulse _).modLine l _ (.of_eq rfl)).deliver l _) (k.countPulse _)

theorem stroke (g : Fin 4) : Keeps writes true points s (t.stroke g) := by
  unfold State.stroke
  exact ((k.countPulse _).modGrate g _).modTotals _

theorem indexPulse : Keeps writes true points s t.indexPulse := by
  unfold State.indexPulse
  have handed := ((k.countPulse 10).modField (fun f =>
    { f with rotation := f.rotation.pulse t.floorTime f.cfg.kilnStopTime }) (.of_settings rfl rfl rfl rfl rfl)).handPeriod
      t.field.rotation.period
  exact ite _ ((handed.batchPulse 0).batchPulse 1).blasterPulse handed

theorem kilnStop : Keeps writes true points s t.kilnStop := by
  unfold State.kilnStop
  have stopped := k.modField (fun f => { f with rotation := Rotation.reset }) (.of_settings rfl rfl rfl rfl rfl)
  exact ite _ (((stopped.closeGate 4).closeGate 5).endBlasting.handPeriod _) stopped

theorem takeScan (scan : Vector ScanEntry 32) : Keeps writes true points s (t.takeScan scan) := by
  unfold State.takeScan
  have taken := k.modField (fun f =>
    { f with
      channels := mapAt scan fun _ e => scanned e, validScans := wrap32 f.validScans, lastScan := some t.floorTime,
      scanAt := some (t.floorTime + 3 * f.cfg.scanPeriod), linkFault := false }) (.of_settings rfl rfl rfl rfl rfl)
  exact (ite _ (taken.raise _) taken).formBedMean

theorem loseScans : Keeps writes true points s t.loseScans :=
  ((k.modField _ (.of_settings rfl rfl rfl rfl rfl)).raise _).formBedMean

theorem ignoreScan : Keeps writes true points s t.ignoreScan := k.modField _ (.of_settings rfl rfl rfl rfl rfl)

end Keeps

end Sys2Proof.Machine
end

section
/-! Every decision and every effect keeps what `Keeps` says, the settings but where a setting is written and the signals but
where a signal comes; so every step keeps the laws of the counts, the capacities, the report sequence, the heat, the shelf
and the horn. -/

namespace Sys2Proof.Machine

open Sys2Proof

/-! ### The writes (R33, R93, R122, R146, R165, R174) -/

theorem release_sequences (sequence : Nat) (store : List Report) :
    (release sequence store).map (fun r => r.shift.sequence) = store.map fun r => r.shift.sequence := by
  induction store with
  | nil => rfl
  | cons r rest ih =>
    unfold release
    split
    · rfl
    · simp only [List.map_cons, ih]

theorem release_length (sequence : Nat) (store : List Report) : (release sequence store).length = store.length := by
  simpa using congrArg List.length (release_sequences sequence store)

theorem Line.measure_kept (writes : Bool) (r : Line) (now : Nat) : Line.Kept writes r (r.measure now) := by
  unfold Line.measure
  dsimp only
  refine Line.Kept.trans ?_ (compareRates_kept writes now _)
  exact .of_eq rfl

namespace Keeps

theorem setEnvelope {points hears : Bool} {s t : State} (k : Keeps true hears points s t) (c : EnvelopeSettings) :
    Keeps true hears points s ({ t with envelope := c } : State) := k.trans
      { refl true hears points t with envelope := nofun }

theorem configure {points hears : Bool} {s t : State} (k : Keeps true hears points s t) (l : Fin 6) (c : LineSettings) :
    Keeps true hears points s (t.configure l c) := by
  unfold State.configure
  have written := k.modLine l (fun r =>
    { r with
      cfg := c, window := if c.kind = .batch then [] else r.window,
      measured := if c.kind = .batch then 0 else r.measured }) ⟨nofun, id, id⟩
  dsimp only
  split
  · exact (ite _ (written.modBatch _ _ fun _ => show 0 ≤ 199 by decide) written).evaluate
  · exact written.evaluate

theorem setAlarm {points hears : Bool} {s t : State} (k : Keeps true hears points s t) (threshold window silence : Nat) :
    Keeps true hears points s (t.setAlarm threshold window silence) := by
  unfold State.setAlarm
  exact (k.modAlarm (fun a => { a with floodThreshold := threshold, floodWindow := window, silenceTime := silence })
    ⟨nofun, nofun, id, fun _ => id, fun _ => id⟩).modLink _ nofun

theorem remask {points hears : Bool} {s t : State} (k : Keeps true hears points s t) (masks : BitVec 32) :
    Keeps true hears points s (t.remask masks) := by
  unfold State.remask
  refine foldl (k.modField (fun f => f.withMasks masks) (.of_signals rfl rfl rfl rfl rfl rfl rfl rfl rfl)) ?_ _
  exact fun r ku => ku.retest t r

variable {writes hears points : Bool} {s t : State} (k : Keeps writes hears points s t)
include k

theorem advanceClock (d : DateTime) (due : Nat) : Keeps writes hears points s (t.advanceClock d due) := by
  unfold State.advanceClock
  split
  · exact k.modShift _ (.of_eq rfl)
  · dsimp only
    split
    · exact (k.modShift _ (.of_eq rfl)).closeShift _ _ _
    · exact k.modShift _ (.of_eq rfl)

theorem watchFailed (g : Fin 4) : Keeps writes hears points s (t.watchFailed g) := ite _ (k.latch _ _) (k.modGrate g _)

theorem currentFailed (c : Fin 12) : Keeps writes hears points s (t.currentFailed c) := by
  unfold State.currentFailed
  exact ite _ ((k.modChamber c _).latch _ _) (k.modChamber c _)

theorem releaseReport (sequence : Nat) :
    Keeps writes hears points s (t.modShift fun h => { h with store := Machine.release sequence h.store }) :=
  k.modShift _ ⟨fun _ => rfl, id, fun room => by rwa [release_length], fun chain => by
    rwa [Shift.sequences, release_sequences]⟩

theorem restart (kind : ResetKind) : Keeps writes hears points s ({ t with restartPending := some kind } : State) :=
  k.trans { refl writes hears points t with reset := rfl }

end Keeps

/-- A definition leaves a DISABLED point out of the horn and the standing count (R141). -/
theorem Point.define_view {p : Point} (state : p.state = .disabled) (d : PointDef) : 
    ({ p with defn := d } : Point).view = p.view := by
  simp [Point.view, sounds, stands, state]

/-! ### Frames, and the silence that one ends (R170, R173) -/

namespace Keeps

variable {writes hears points : Bool} {s t : State} (k : Keeps writes hears points s t)
include k

theorem queueOwed : Keeps writes hears points s t.queueOwed := ite _ (k.modLink _ (fun _ => rfl)) k

theorem sendNext : Keeps writes hears points s t.sendNext := by
  unfold State.sendNext
  split
  · exact ite _ (k.modLink _ (fun _ => rfl)) ((k.modLink _ (fun _ => rfl)).modAttention _)
  · exact k

theorem pump : Keeps writes hears points s t.pump := k.queueOwed.sendNext

theorem discardFrame : Keeps writes hears points s t.discardFrame :=
  ite _ ((k.modLink _ (fun _ => rfl)).raise _) (k.modLink _ (fun _ => rfl))

theorem validFrame : Keeps writes hears points s t.validFrame :=
  ite _ (k.modLink _ (fun _ => rfl)).settle (k.modLink _ (fun _ => rfl))

end Keeps

/-! ### Every decision and every effect -/

/-- A decision writes a setting only for the requests of Table 10-3 and the locks, and brings no signal. -/
theorem Decided.keeps {c : Instr} {s t : State} (decided : Decided s c t) : Keeps (writesSettings c) false false s t := by
  have k := Keeps.refl (writesSettings c) false false s
  cases decided
  case unchanged => exact k
  case attention f => exact k.modAttention f
  case restart kind => exact k.restart kind
  case setBurner => exact (k.modBurner _ nofun).voteFlame
  case resetLockout => exact k.leaveLockout.settle
  case startPurge => exact k.toPurge.settle
  case stopSequence => exact (k.sequenceEnd _).settle
  case stopIdle => exact (k.toIdle _).settle
  case stopFiring => exact k.toStopping.settle
  case emergencyStop => exact (k.emergency _).settle
  case mainLight named _ => exact (k.toMainTrial named).settle
  case homeActuator a => exact ((k.claimForHost a).startHome a).settle
  case moveActuator a target => exact ((k.claimForHost a).startMove a target).settle
  case stepActuator a target => exact ((k.claimForHost a).startMove a target).settle
  case stopActuator a => exact (k.endWork a _).settle
  case configureLine l c => exact (k.configure l c).settle
  case postOrders l orders room => exact (k.post l orders room).settle
  case clearLine l => exact (k.clearQueue l).settle
  case openLine l _ => exact (k.admitLine l).settle
  case shutOpen l _ => exact (k.beginShut l).settle
  case shutFault l _ => exact (k.enterShut l).settle
  case readLine l => exact k.modLine l _ (.of_eq rfl)
  case readCompletions l =>
    refine k.modLine l _ ⟨fun _ => rfl, id, fun room => ?_⟩
    simp only [List.length_drop]
    omega
  case setEnvelope c => exact (k.setEnvelope c).evaluate.settle
  case setOperator value => exact (k.modHeat _ id).evaluate.settle
  case clearOperator => exact (k.modHeat _ id).evaluate.settle
  case startCooler => exact k.beginStart.settle
  case stopCooler => exact k.beginStop.settle
  case setGrate g r => exact (k.modGrate g _).settle
  case setFanSpeed c speed => exact (k.modChamber c _).settle
  case blastersOn => exact k.modCooler _ (fun _ => rfl)
  case blastersOff => exact k.endBlasting.modCooler _ (fun _ => rfl)
  case setCooler c => exact (k.modCooler _ nofun).settle
  case clearDiagnostics named => exact (k.clearRecords named).settle
  case setDiagMasks masks => exact (k.remask masks).settle
  case setField c => exact k.modField _ (.of_signals rfl rfl rfl rfl rfl rfl rfl rfl rfl)
  case defineAlarm i d state => exact k.modPoint i _ (fun _ => Point.define_view state d) nofun
  case setAlarm => exact (k.setAlarm _ _ _).settle
  case acknowledgePoint i => exact (k.acknowledge i).settle
  case acknowledgeClass cls => exact (k.acknowledgeClass cls).settle
  case shelve i expiry room => exact (k.shelvePoint i expiry room).settle
  case unshelve i _ => exact (k.unshelvePoint i).settle
  case disable i => exact (k.disablePoint i).settle
  case enable i state => exact (k.enablePoint i state).settle
  case readAlarmChanges =>
    refine k.modAlarm _ ⟨fun _ _ => rfl, fun _ => ⟨rfl, rfl, rfl⟩, fun room => ?_, fun _ => id, fun _ => id⟩
    simp only [List.length_drop]
    omega
  case setClock d => exact (k.addEvent _).modShift _ (.of_eq rfl)
  case setSchedule times => exact k.modShift _ ⟨nofun, id, id, id⟩
  case closeShift => exact (k.closeShift _ _ _).settle
  case peekShift => exact k.modShift _ (.of_eq rfl)
  case releaseReport sequence => exact k.releaseReport sequence
  case readStatus => exact k.modLink _ (fun _ => rfl)
  case lockGroup g => exact k.modLink _ nofun
  case unlockGroup g => exact k.modLink _ nofun

/-- An effect brings a signal only for the signal events, and writes no setting. -/
theorem effect_keeps {c : Instr} {s t : State} (brought : effect c s = some t) :
    Keeps false (bringsSignal c) false s t := by
  have k := Keeps.refl false (bringsSignal c) false s
  cases c
  all_goals simp only [effect.eq_def, reduceCtorEq, Option.some.injEq, occurs_eq_some, State.phaseEnded,
  Option.map_eq_some_iff]
    at brought
  case frameDiscarded => exact brought ▸ k.discardFrame
  case frameGapTimeout => exact brought ▸ (k.modLink _ (fun _ => rfl)).discardFrame
  case scanFrame scan => exact brought ▸ (k.takeScan scan).settle
  case scanIgnored => exact brought ▸ k.ignoreScan
  case scanGapTimeout => exact brought ▸ k.modField _ (.of_settings rfl rfl rfl rfl rfl)
  case diRawChange n level => exact brought ▸ (k.rawChange n level).settle
  case weighPulse l => exact brought ▸ (k.weigh l).settle
  case strokePulse g => exact brought ▸ (k.stroke g).settle
  case indexPulse => exact brought ▸ k.indexPulse.settle
  case gateDelayEnd b =>
    obtain ⟨w, -, rfl⟩ := brought
    exact (k.beginDrop b w).settle
  case dropPulseEnd b =>
    obtain ⟨w, -, rfl⟩ := brought
    exact (k.endDrop b w).settle
  case batchSettleEnd b =>
    obtain ⟨w, -, rfl⟩ := brought
    exact (k.weighSlot b w).settle
  case blasterDue =>
    obtain ⟨w, -, rfl⟩ := brought
    exact k.decideBlaster _ _
  case shelfExpiry =>
    obtain ⟨i, -, rfl⟩ := brought
    exact (k.unshelvePoint i).settle
  case clockSecondTick =>
    obtain ⟨w, -, rfl⟩ := brought
    exact (k.advanceClock _ _).settle
  all_goals obtain ⟨-, rfl⟩ := brought
  case earlyFrameDiscarded => exact k.validFrame.discardFrame
  case scanTimeout => exact k.loseScans.settle
  case driveFrameBegin | driveFrameRefresh => exact k.beginDrive
  case debounceExpiry n => exact (k.accept n _).settle
  case kilnStopTimerExpiry => exact k.kilnStop.settle
  case giveUpTimerExpiry => exact (k.sequenceEnd _).settle
  case purgeComplete => exact k.toPrepare.settle
  case ignitionTrialExpiry | flameLossExpiry | airLossExpiry => exact (k.enterLockout _ _).settle
  case flameProofExpiry => exact k.toPilot.settle
  case pilotHoldExpiry => exact (k.toIdle _).settle
  case mainTrialExpiry => exact k.endMainTrial.settle
  case ceilingRampTick => exact (k.rampCeiling _).settle
  case actuatorStep a => exact (k.modActuator a _).settle
  case homeStepLimit a => exact (k.homeFailed a).settle
  case actuatorSettleEnd a => exact (k.settled a).settle
  case valveProofExpiry v => exact (k.proofExpired v).settle
  case rateRampTick l => exact (k.rampRate l).settle
  case shutRampTick l => exact (k.rampShut l).settle
  case holdExpiry l => exact (k.completeHead l).settle
  case measuredRateTick l => exact (k.modLine l _ (Line.measure_kept _ _ _)).settle
  case deviationTimerExpiry l => exact (k.modLine l _ (.of_eq rfl)).settle
  case noticeDelayExpiry l => exact ((k.modLine l _ (.of_eq rfl)).setReason l _).settle
  case fanStartDelayExpiry => exact k.startNext.settle
  case grateStaggerExpiry => exact k.stagger.settle
  case fanRunOnExpiry => exact k.endRunOn.settle
  case bedUpdateTick => exact k.bedTick.settle
  case releaseTimerExpiry => exact k.release.settle
  case grateWatchExpiry g => exact (k.watchFailed g).settle
  case lowCurrentExpiry c => exact (k.currentFailed c).settle
  case blasterPulseEnd => exact k.modCooler _ (fun _ => rfl)
  case onDelayExpiry i => exact (k.becomeActive i).settle
  case offDelayExpiry i => exact (k.becomeInactive i).settle
  case reviewTimerExpiry => exact k.reviewFlood.settle
  case linkSilenceExpiry => exact (k.modLink _ (fun _ => rfl)).settle

end Sys2Proof.Machine
end

section
/-! Every step keeps the laws of the counts, the capacities, the report sequence, the heat, the shelf and the horn: what
keeps a
law through `Keeps`, and through both ends of a reset, is kept by every step. -/

namespace Sys2Proof.Machine

open Sys2Proof

/-- A law that what keeps the blocks keeps, and that both ends of a reset keep, is kept by every step. -/
theorem Kept.of_keeps {P : State → Prop}
    (keeps : ∀ {writes hears : Bool} {s t : State}, Keeps writes hears false s t → P s → P t)
    (beside : ∀ {s t : State}, Beside s t → P s → P t)
    (beginReset : ∀ {s : State} (kind : ResetKind) (cause : RestartCause) (restart : Bool), P s →
      P (s.beginReset kind cause restart))
    (cold : ∀ s : State, P s.coldValues) (warm : ∀ {s : State}, P s → P s.warmValues) : Kept P where
  beside := beside
  settle law := keeps (Keeps.refl true true false _).settle law
  decision c s _ law := keeps (decision_decided c s).keeps law
  effect _ _ _ _ brought law := keeps (effect_keeps brought) law
  raw n level law := keeps ((Keeps.refl true true false _).modField _ (.of_settings rfl rfl rfl rfl rfl)) law
  beginReset := beginReset
  endReset {s} law := by
    have started {u : State} (from' : P u) (v : State) (k : Keeps true true false u v) : P v := keeps k from'
    unfold State.endReset
    split
    · exact law
    · split
      · exact law
      · split
        · exact started (cold s) _ ((Keeps.refl _ _ _ _).raise _).settle.pump
        · exact started (warm law) _ (((Keeps.refl _ _ _ _).addEvent _).raise _).settle.pump

/-! ### The ends of a reset (R125, R175) -/

theorem Line.reset_accounted (cfg : LineSettings) (lifetime now : Nat) : (Line.reset cfg lifetime now).accounted :=
  ⟨rfl, Nat.zero_le 16⟩

theorem State.coldValues_line (s : State) (l : Fin 6) : s.coldValues.lines[l.val] = .reset .default 0 0 := by
  simp [State.coldValues]

theorem State.warmValues_line (s : State) (l : Fin 6) :
    s.warmValues.lines[l.val] = .reset s.lines[l.val].cfg s.lines[l.val].lifetime s.floorTime := by
  simp [State.warmValues]

theorem Heat.reset_balanced : Heat.reset.balanced := by
  refine ⟨by decide, by decide, fun l => ?_⟩
  simp [Heat.reset]

/-- A point as a reset leaves it neither stands, nor sounds, nor is on the shelf (R125). -/
def Point.idle (p : Point) : Prop := p.state = .normal ∨ p.state = .disabled

theorem Alarm.fresh_rung {points : Vector Point 96} (idle : ∀ i : Fin 96, points[i.val].idle)
    (sequence threshold window silence : Nat) (pulse : Fin 96) :
    (Alarm.fresh points sequence threshold window silence pulse).rung := by
  have each (p : Point) (member : p ∈ points.toList) : p.idle := by
    obtain ⟨i, h, rfl⟩ := List.getElem_of_mem member
    simpa using idle ⟨i, by simpa using h⟩
  constructor
  · symm
    simp only [Alarm.fresh, hornOf, List.any_eq_false]
    intro p member
    obtain state | state := each p member <;> simp [sounds, state]
  · symm
    simp only [Alarm.fresh, standingOf, List.countP_eq_zero]
    intro p member
    obtain state | state := each p member <;> simp [stands, state]

theorem Alarm.fresh_shelved {points : Vector Point 96} (idle : ∀ i : Fin 96, points[i.val].idle)
    (sequence threshold window silence : Nat) (pulse : Fin 96) :
    (Alarm.fresh points sequence threshold window silence pulse).shelved := by
  refine ⟨List.nodup_nil, Nat.zero_le 16, .nil, fun i => iff_of_false (fun shelved => ?_) List.not_mem_nil⟩
  obtain state | state := idle i <;> exact absurd (shelved.symm.trans state) (by decide)

theorem coldPoints_idle (i : Fin 96) : coldPoints[i.val].idle := by
  simp only [coldPoints, mapAt_get, Point.fresh, Point.idle]
  split
  · exact .inl rfl
  · exact .inr rfl

theorem warmPoints_idle (points : Vector Point 96) (i : Fin 96) : (mapAt points fun _ p => p.warm)[i.val].idle := by
  simp only [mapAt_get, Point.warm, Point.fresh, Point.idle]
  split
  · exact .inr rfl
  · exact .inl rfl

/-! ### The laws -/

theorem countLaw_kept : Kept CountLaw :=
  .of_keeps Keeps.countLaw
    (fun beside law => by
      have lines := beside.2 .lines (by decide)
      intro l
      rw [lines]
      exact law l)
    (fun _ _ _ law => law)
    (fun s l => by
      rw [State.coldValues_line]
      exact Line.reset_accounted _ _ _)
    fun {s} _ l => by
      rw [State.warmValues_line]
      exact Line.reset_accounted _ _ _

theorem storeLaw_kept : Kept StoreLaw :=
  .of_keeps Keeps.storeLaw
    (fun beside law => by
      have shift := beside.2 .shift (by decide)
      rw [StoreLaw, shift]
      exact law)
    (fun _ _ _ law => law) (fun _ => List.isChain_singleton _) fun law => law

theorem heatLaw_kept : Kept HeatLaw :=
  .of_keeps Keeps.heatLaw
    (fun beside law => by
      have heat := beside.2 .heat (by decide)
      rw [HeatLaw, heat]
      exact law)
    (fun _ _ _ law => law) (fun _ => Heat.reset_balanced) fun _ => Heat.reset_balanced

theorem shelfLaw_kept : Kept ShelfLaw :=
  .of_keeps Keeps.shelfLaw
    (fun beside law => by
      have alarm := beside.2 .alarm (by decide)
      rw [ShelfLaw, alarm]
      exact law)
    (fun _ _ _ law => law) (fun _ => Alarm.fresh_shelved coldPoints_idle _ _ _ _ _)
    fun _ => Alarm.fresh_shelved (warmPoints_idle _) _ _ _ _ _

theorem hornLaw_kept : Kept HornLaw :=
  .of_keeps Keeps.hornLaw
    (fun {s t} beside law live => by
      have alarm := beside.2 .alarm (by decide)
      have free : s.resetRun = none := by simpa [live] using beside.1
      rw [alarm]
      exact law free)
    (fun _ _ _ _ live => by simp [State.beginReset] at live)
    (fun _ _ => Alarm.fresh_rung coldPoints_idle _ _ _ _ _)
    fun _ _ => Alarm.fresh_rung (warmPoints_idle _) _ _ _ _ _

theorem capacityLaw_kept : Kept CapacityLaw :=
  .of_keeps Keeps.capacityLaw
    (fun beside law => by
      have lines := beside.2 .lines (by decide)
      have alarm := beside.2 .alarm (by decide)
      have shift := beside.2 .shift (by decide)
      have batches := beside.2 .batches (by decide)
      rw [CapacityLaw, lines, alarm, shift, batches]
      exact law)
    (fun {s} _ _ _ law => by
      obtain ⟨completions, changes, events, store, credit⟩ := law
      exact ⟨completions, changes, events, store, fun b => by
        simpa [State.beginReset, State.outputsOff] using credit b⟩)
    (fun s => ⟨fun l => by
      rw [State.coldValues_line]
      exact Nat.zero_le 16, Nat.zero_le 128, Nat.zero_le 48, Nat.zero_le 8, fun b => by
        simp [State.coldValues, Batch.reset]⟩)
    fun {s} law => by
      obtain ⟨_, _, events, store, _⟩ := law
      exact ⟨fun l => by
        rw [State.warmValues_line]
        exact Nat.zero_le 16, Nat.zero_le 128, events, store, fun b => by simp [State.warmValues, Batch.reset]⟩

end Sys2Proof.Machine

open Sys2Proof Sys2Proof.Machine

/-- Settles O56. -/
theorem stepKeepsCountLaw : Obligations.StepKeepsCountLaw := fun _ _ law done => countLaw_kept.step law done

/-- Settles O57. -/
theorem stepKeepsCapacityAndStoreLaws : Obligations.StepKeepsCapacityAndStoreLaws :=
  ⟨fun _ _ law done => capacityLaw_kept.step law done, fun _ _ law done => storeLaw_kept.step law done⟩

/-- Settles O58. -/
theorem stepKeepsShelfAndHornLaws : Obligations.StepKeepsShelfAndHornLaws :=
  ⟨fun _ _ law done => shelfLaw_kept.step law done, fun _ _ law done => hornLaw_kept.step law done⟩

end

section
/-! The link law, and the frame of all commands. -/

namespace Sys2Proof.Machine

open Sys2Proof

/-! ### The link law (R151, R169) -/

/-- Sending leaves nothing that waits or is owed where it leaves nothing being sent. -/
theorem State.pump_linkLaw (s : State) : LinkLaw s.pump := by
  intro idle
  unfold State.pump State.sendNext at idle ⊢
  split at idle
  · split at idle <;> cases idle
  · rename_i stays
    have empty : s.queueOwed.link.waiting = [] := by
      match waiting : s.queueOwed.link.waiting with
      | [] => rfl
      | f :: rest => exact absurd waiting (stays f rest idle)
    refine ⟨empty, Bool.eq_false_iff.2 fun owed => ?_⟩
    have owes : s.attention.owed = true := by simpa using owed
    unfold State.queueOwed at empty
    split at empty
    · exact List.append_ne_nil_of_right_ne_nil _ (List.cons_ne_nil _ _) empty
    · rename_i queued
      simp [owes, empty] at queued

theorem State.beginReset_linkLaw (s : State) (kind : ResetKind) (cause : RestartCause) (restart : Bool) :
    LinkLaw (s.beginReset kind cause restart) := fun _ => ⟨rfl, rfl⟩

theorem LinkLaw.of {s t : State} (link : t.link = s.link) (attention : t.attention = s.attention) (law : LinkLaw s) :
    LinkLaw t := by
  rw [LinkLaw, link, attention]
  exact law

theorem State.request_linkLaw {s : State} (law : LinkLaw s) (type : Nat) (tag : Byte) (decide : State → Answer) :
    LinkLaw (s.request type tag decide) := by
  unfold State.request
  split
  · exact law
  · dsimp only
    split <;> exact State.pump_linkLaw _

theorem State.after_linkLaw {s : State} (law : LinkLaw s) (effect : Option State) : LinkLaw (s.after effect) := by
  cases effect
  · exact law
  · exact State.pump_linkLaw _

theorem State.endReset_linkLaw {s : State} (law : LinkLaw s) : LinkLaw s.endReset := by
  unfold State.endReset
  split
  · exact law
  · split
    · exact law
    · split <;> exact State.pump_linkLaw _

theorem LinkLaw.resetting {c : Instr} (resetting : resets c = true) {s t : State} (law : LinkLaw s)
    (done : Machine.exec c s = .next t) : LinkLaw t := by
  cases c
  all_goals simp only [resets, reduceCtorEq] at resetting
  all_goals
    obtain rfl := Host.Outcome.next.inj done
  case frameSendEnd =>
    split
    · exact law
    · unfold State.endFrame
      split
      · exact law
      · dsimp only
        split
        · exact State.beginReset_linkLaw _ _ _ _
        · exact State.pump_linkLaw _
  case restartResetEnd =>
    unfold State.endRestart
    split
    · split
      · exact State.endReset_linkLaw (law.of rfl rfl)
      · exact law
    · exact law
  case resetPinAssert | supplyFall =>
    split
    · exact law
    · exact State.beginReset_linkLaw _ _ _ _
  case resetPinRelease | supplyRestore =>
    split
    · exact State.endReset_linkLaw (law.of rfl rfl)
    · exact law

theorem LinkLaw.exec {c : Instr} {s t : State} (law : LinkLaw s) (done : Machine.exec c s = .next t) : LinkLaw t := by
  match request : requestOf? c with
  | some (type, tag) =>
    rw [exec_request request] at done
    obtain rfl := Host.Outcome.next.inj done
    exact State.request_linkLaw law _ _ _
  | none =>
    cases starts : resets c with
    | true => exact LinkLaw.resetting starts law done
    | false =>
      cases held : s.resetRun with
      | none =>
        rw [exec_event request starts held] at done
        obtain rfl := Host.Outcome.next.inj done
        exact State.after_linkLaw law _
      | some run =>
        have held : s.resetRun.isSome = true := by rw [held]; rfl
        by_cases raw : ∃ n level, c = .diRawChange n level
        · obtain ⟨n, level, rfl⟩ := raw
          rw [exec_diRawChange_in_reset held] at done
          obtain rfl := Host.Outcome.next.inj done
          exact law.of rfl rfl
        · rw [exec_event_in_reset request starts held fun n level e => raw ⟨n, level, e⟩] at done
          obtain rfl := Host.Outcome.next.inj done
          exact law

theorem LinkLaw.step {s t : State} (law : LinkLaw s) (done : Machine.step s = .next t) : LinkLaw t := by
  unfold Machine.step at done
  split at done
  · rename_i c rest _
    have queued : LinkLaw { s with pending := rest } := law
    exact queued.exec done
  · obtain rfl := Host.Outcome.next.inj done
    unfold State.idle State.tick
    split
    · split
      · exact law
      · exact law.of rfl rfl
    · exact law.of rfl rfl

/-! ### The frame of all commands -/

/-- What only a command that starts or ends a reset changes, and the queue. -/
def SameRun (s t : State) : Prop :=
  t.pending = s.pending ∧ t.floorTime = s.floorTime ∧ t.resetRun = s.resetRun ∧ t.pinLow = s.pinLow ∧
    t.supplyLow = s.supplyLow ∧ t.restartCause = s.restartCause

theorem SameRun.trans {s t u : State} (first : SameRun s t) (second : SameRun t u) : SameRun s u := by
  obtain ⟨a1, a2, a3, a4, a5, a6⟩ := first
  obtain ⟨b1, b2, b3, b4, b5, b6⟩ := second
  exact ⟨b1.trans a1, b2.trans a2, b3.trans a3, b4.trans a4, b5.trans a5, b6.trans a6⟩

theorem SameRun.refl (s : State) : SameRun s s := ⟨rfl, rfl, rfl, rfl, rfl, rfl⟩

theorem Decided.sameRun {c : Instr} {s t : State} (decided : Decided s c t) : SameRun s t := by
  cases decided
  all_goals simp [SameRun]

theorem effect_sameRun {c : Instr} {s t : State} (brought : effect c s = some t) : SameRun s t := by
  cases c
  all_goals simp only [effect.eq_def, reduceCtorEq, Option.some.injEq, occurs_eq_some, State.phaseEnded,
  Option.map_eq_some_iff]
    at brought
  case frameDiscarded | frameGapTimeout | scanIgnored | scanGapTimeout | scanFrame | weighPulse | strokePulse |
      indexPulse | diRawChange =>
    subst brought
    exact ⟨by simp, by simp, by simp, by simp, by simp, by simp⟩
  case gateDelayEnd | dropPulseEnd | batchSettleEnd | clockSecondTick | blasterDue | shelfExpiry =>
    obtain ⟨w, -, rfl⟩ := brought
    exact ⟨by simp, by simp, by simp, by simp, by simp, by simp⟩
  all_goals
    obtain ⟨-, rfl⟩ := brought
    exact ⟨by simp, by simp, by simp, by simp, by simp, by simp⟩

theorem request_bringsNoSignal (c : Instr) : ((requestOf? c).isSome && bringsSignal c) = false := by
  cases c <;> rfl

theorem event_writesNoSetting (c : Instr) : ((requestOf? c).isNone && writesSettings c) = false := by
  cases c <;> rfl

/-- A command that neither starts nor ends a reset. -/
theorem exec_frame {c : Instr} {s t : State} (keeps : resets c = false) (done : exec c s = .next t) :
    SameRun s t ∧ Keeps (writesSettings c) (bringsSignal c) false s t := by
  have refl := Keeps.refl (writesSettings c) (bringsSignal c) false s
  match request : requestOf? c with
  | some (type, tag) =>
    rw [exec_request request] at done
    obtain rfl := Host.Outcome.next.inj done
    have taken := (Keeps.refl (writesSettings c) (bringsSignal c) false s).validFrame
    unfold State.request
    split
    · exact ⟨.refl s, refl⟩
    · dsimp only
      split
      · exact ⟨⟨by simp, by simp, by simp, by simp, by simp, by simp⟩, taken.discardFrame.pump⟩
      · have silent : bringsSignal c = false := by
          cases c <;> simp_all [requestOf?, bringsSignal]
        have decided := decision_decided c (s.validFrame.modLink fun l => { l with unanswered := true })
        refine ⟨SameRun.trans ?_ (decided.sameRun.trans ?_), ?_⟩
        · exact ⟨by simp, by simp, by simp, by simp, by simp, by simp⟩
        · exact ⟨by simp [State.decided, State.send], by simp [State.decided, State.send], by simp
            [State.decided, State.send],
            by simp [State.decided, State.send], by simp [State.decided, State.send], by simp [State.decided, State.send]⟩
        · rw [silent] at taken ⊢
          exact (((taken.modLink _ (fun _ => rfl)).trans decided.keeps).modLink _ (fun _ => rfl)).pump
  | none =>
    have settings : writesSettings c = false := by simpa [request] using event_writesNoSetting c
    rw [settings] at refl ⊢
    cases held : s.resetRun with
    | none =>
      rw [exec_event request keeps held] at done
      obtain rfl := Host.Outcome.next.inj done
      cases brought : effect c s with
      | none => exact ⟨.refl s, refl⟩
      | some u =>
        refine ⟨(effect_sameRun brought).trans ?_, (effect_keeps brought).pump⟩
        exact ⟨by simp, by simp, by simp, by simp, by simp, by simp⟩
    | some run =>
      have held : s.resetRun.isSome = true := by rw [held]; rfl
      by_cases raw : ∃ n level, c = .diRawChange n level
      · obtain ⟨n, level, rfl⟩ := raw
        rw [exec_diRawChange_in_reset held] at done
        obtain rfl := Host.Outcome.next.inj done
        exact ⟨⟨rfl, rfl, rfl, rfl, rfl, rfl⟩, refl.modField _ (.of_settings rfl rfl rfl rfl rfl)⟩
      · rw [exec_event_in_reset request keeps held fun n level e => raw ⟨n, level, e⟩] at done
        obtain rfl := Host.Outcome.next.inj done
        exact ⟨.refl s, refl⟩

theorem State.endReset_pending (s : State) : s.endReset.pending = s.pending := by
  unfold State.endReset
  split
  · rfl
  · split
    · rfl
    · split <;> simp [State.coldValues, State.warmValues]

theorem State.beginReset_pending (s : State) (kind : ResetKind) (cause : RestartCause) (restart : Bool) :
    (s.beginReset kind cause restart).pending = s.pending := rfl

/-- No command touches the queue. -/
theorem exec_pending {c : Instr} {s t : State} (done : exec c s = .next t) : t.pending = s.pending := by
  cases starts : resets c with
  | false => exact (exec_frame starts done).1.1
  | true =>
    cases c
    all_goals simp only [resets, reduceCtorEq] at starts
    all_goals
      obtain rfl := Host.Outcome.next.inj done
    case frameSendEnd =>
      split
      · rfl
      · unfold State.endFrame
        split
        · rfl
        · dsimp only
          split
          · rfl
          · simp
    case restartResetEnd =>
      unfold State.endRestart
      split
      · split
        · exact State.endReset_pending _
        · rfl
      · rfl
    case resetPinAssert | supplyFall => split <;> rfl
    case resetPinRelease | supplyRestore =>
      split
      · exact State.endReset_pending _
      · rfl

end Sys2Proof.Machine

open Sys2Proof Sys2Proof.Machine

/-- Settles O59. -/
theorem stepKeepsHeatAndLinkLaws : Obligations.StepKeepsHeatAndLinkLaws :=
  ⟨fun _ _ law done => heatLaw_kept.step law done, fun _ _ law done => LinkLaw.step law done⟩

/-- Settles O3: what a command keeps, and what settles within an event. -/
theorem commandFrame : Obligations.CommandFrame := by
  refine ⟨fun c s t done => ⟨exec_pending done, fun keeps => ?_⟩, fun s =>
    ⟨fun b other => ?_, ?_, ?_, s.settle_eq, s.react_eq⟩⟩
  · obtain ⟨⟨-, floor, run, pin, supply, cause⟩, kept⟩ := exec_frame keeps done
    exact ⟨floor, run, pin, supply, cause, kept.settings, kept.signals⟩
  · cases b <;> simp_all [Block.Same]
  · exact (Keeps.refl false false false s).settle.settings rfl
  · exact (Keeps.refl false false false s).settle.signals rfl

end

section
/-! The step, the state right after reset, and the link port: taking, answering and discarding (Chapter 10). -/

namespace Sys2Proof.Machine

open Sys2Proof

/-! ### The state right after reset (R175) -/

theorem State.endReset_cold {s : State} (run : s.resetRun = some { kind := .cold, restart := false })
    (pin : s.pinLow = false) (supply : s.supplyLow = false) :
    s.endReset = ((s.coldValues.raise .link).settle).pump := by
  unfold State.endReset
  simp [run, pin, supply]

/-- The state after reset is what the cold reset's values settle to. -/
theorem State.reset_eq : ∃ s : State, State.reset = ((s.coldValues.raise .link).settle).pump := by
  refine ⟨_, Laws.reset_is_cold_reset.symm.trans (State.endReset_cold ?_ ?_ ?_)⟩ <;> rfl

/-- A law that the cold reset's values have, and that what keeps the blocks keeps, holds right after reset. -/
theorem holds_at_reset {P : State → Prop} (keeps : ∀ {s t : State}, KeepsAll s t → P s → P t)
    (cold : ∀ s : State, P s.coldValues) : P State.reset := by
  obtain ⟨s, reset⟩ := State.reset_eq
  rw [reset]
  exact keeps ((Keeps.refl _ _ _ _).raise _).settle.pump (cold s)

theorem State.coldValues_countLaw (s : State) : CountLaw s.coldValues := fun l => by
  rw [State.coldValues_line]
  exact Line.reset_accounted _ _ _

theorem State.coldValues_capacityLaw (s : State) : CapacityLaw s.coldValues :=
  ⟨fun l => by
    rw [State.coldValues_line]
    exact Nat.zero_le 16, Nat.zero_le 128, Nat.zero_le 48, Nat.zero_le 8, fun b => by
      simp [State.coldValues, Batch.reset]⟩

/-! ### The step -/

theorem State.idle_due {s : State} (due : s.dueEvents ≠ []) : s.idle = { s with pending := s.dueEvents } := by
  unfold State.idle
  split
  · exact absurd ‹_› due
  · rfl

theorem State.idle_tick {s : State} (due : s.dueEvents = []) : s.idle = s.tick := by
  unfold State.idle
  rw [due]

/-! ### Every command completes -/

theorem exec_completes (c : Instr) (s : State) : ∃ t, exec c s = .next t := by
  cases c <;> exact ⟨_, rfl⟩

/-! ### The discarded-frame count (R168, R170) -/

theorem mem_whenDue {due : Bool} {c d : Instr} : c ∈ whenDue due d ↔ due = true ∧ c = d := by
  cases due <;> simp [whenDue]

theorem mem_dueEvents_frameGapTimeout {s : State} (live : s.resetRun = none) :
    .frameGapTimeout ∈ s.dueEvents ↔ s.link.receiver.gapOver Config.frameGap s.floorTime = true := by
  have drive : .frameGapTimeout ∉ s.driveDue := by
    unfold State.driveDue
    dsimp only
    split <;> simp [mem_whenDue]
  simp only [State.dueEvents, live, State.fieldDue, State.burnerDue, State.actuatorDue, State.lineDue, State.batchDue,
    State.coolerDue, State.alarmDue, State.pointDue, State.linkDue, List.mem_append, List.mem_flatten, List.mem_map,
    exists_exists_and_eq_and, mem_whenDue, reduceCtorEq, and_false, exists_false, false_or, or_false, drive, and_true]

theorem Receiver.gapOver_iff (r : Receiver) (limit now : Nat) :
    r.gapOver limit now = true ↔ ∃ buffer last, r = .inFrame buffer last ∧ last + limit < now := by
  cases r with
  | hunting => simp
  | inFrame buffer last => simp [Receiver.gapOver_inFrame]

/-- A discard raises LINK where it is the first since READ STATUS (R170). -/
theorem State.discardFrame_attention (s : State) :
    s.discardFrame.attention.request =
        (if s.link.discarded = 0 then s.attention.request ||| 0x80#8 else s.attention.request) ∧
      s.discardFrame.attention.arm = s.attention.arm := by
  rw [State.discardFrame_eq]
  dsimp only
  split <;> exact ⟨rfl, rfl⟩

theorem State.discardFrame_sameBut (s : State) : SameBut [.link, .attention] s s.discardFrame := by
  intro b other
  cases b <;> simp_all [Block.Same]

/-- While a request is unanswered another, or a frame not told apart, is discarded. -/
theorem exec_early {c : Instr} (frame : (requestOf? c).isSome = true ∨ c = .earlyFrameDiscarded) {s : State}
    (live : s.resetRun = none) (busy : s.link.unanswered = true) : exec c s = .next s.validFrame.discardFrame.pump := by
  obtain request | rfl := frame
  · obtain ⟨⟨type, tag⟩, request⟩ := Option.isSome_iff_exists.1 request
    rw [exec_request request, State.request_early live busy]
  · exact congrArg _ (State.eventIf_live live busy _)

theorem State.validFrame_eq (s : State) :
    s.validFrame =
      (let heard : State :=
        { s with
          link :=
            { s.link with
              silenceAt := if s.alarm.silenceTime = 0 then none else some (s.floorTime + s.alarm.silenceTime * 1000)
              silent := false } }
       if s.link.silent then heard.settle else heard) := rfl

/-- An early frame's discard, on the state in which the valid frame leaves the part. -/
theorem State.early_link (s : State) :
    s.validFrame.discardFrame.link =
      { s.link with
        discarded := min 65535 (s.link.discarded + 1)
        silenceAt := if s.alarm.silenceTime = 0 then none else some (s.floorTime + s.alarm.silenceTime * 1000)
        silent := false } := by
  rw [State.discardFrame_link, State.validFrame_link]
  rfl

/-! ### Sending (R151, R169) -/

theorem State.queueOwed_eq (s : State) :
    s.queueOwed =
      { s with
        link :=
          { s.link with
            waiting :=
              if s.attention.owed = true ∧ ∀ g ∈ s.link.waiting, g.reply = true then s.link.waiting ++ [.attention]
              else s.link.waiting } } := by
  have queues : (s.attention.owed && !(s.link.waiting.any fun f => !f.reply)) = true ↔
      s.attention.owed = true ∧ ∀ g ∈ s.link.waiting, g.reply = true := by
    simp
  unfold State.queueOwed
  simp only [queues]
  split <;> rfl

theorem State.sendNext_busy {s : State} {f : Frame} (busy : s.link.sending = some f) : s.sendNext = s := by
  unfold State.sendNext
  rw [busy]

theorem State.sendNext_empty {s : State} (empty : s.link.waiting = []) : s.sendNext = s := by
  unfold State.sendNext
  rw [empty]
  split
  · simp_all
  · rfl

theorem State.sendNext_first {s : State} {f : Frame} {rest : List Frame} (idle : s.link.sending = none)
    (first : s.link.waiting = f :: rest) :
    s.sendNext =
      { s with
        link := { s.link with sending := some f, waiting := rest }
        attention := if f.reply then s.attention else { s.attention with owed := false } } := by
  unfold State.sendNext
  rw [idle, first]
  dsimp only
  split <;> rfl

/-- What sending changes: the frames, and the frame-owed flag. -/
theorem State.pump_sameBut (s : State) :
    SameBut [.link, .attention] s s.pump ∧ s.pump.attention.request = s.attention.request ∧
      s.pump.attention.arm = s.attention.arm ∧
      s.pump.link = { s.link with sending := s.pump.link.sending, waiting := s.pump.link.waiting } := by
  refine ⟨fun b other => by cases b <;> simp_all [Block.Same], ?_⟩
  unfold State.pump State.sendNext
  rw [State.queueOwed_eq]
  split
  · dsimp only
    split <;> exact ⟨rfl, rfl, rfl⟩
  · exact ⟨rfl, rfl, rfl⟩

/-- What keeps all but the link port and the attention of a state with another link port keeps them of the state. -/
theorem SameBut.of_modLink {s t : State} {f : Link → Link} (same : SameBut [.link, .attention] (s.modLink f) t) :
    SameBut [.link, .attention] s t := by
  intro b other
  have kept := same b other
  cases b
  case link | attention => simp at other
  all_goals exact kept

/-- A frame that joins an idle line begins at once, and a frame that is owed waits behind it. -/
theorem State.send_idle {s : State} {f : Frame} (reply : f.reply = true) (idle : s.link.sending = none)
    (empty : s.link.waiting = []) :
    (s.send f).link =
        { s.link with sending := some f, waiting := if s.attention.owed then [.attention] else [] } ∧
      (s.send f).attention.owed = s.attention.owed := by
  unfold State.send State.pump
  have queued : (s.modLink fun l => { l with waiting := l.waiting ++ [f] }).queueOwed.link =
      { s.link with waiting := f :: if s.attention.owed then [.attention] else [] } := by
    rw [State.queueOwed_eq]
    cases owed : s.attention.owed <;> simp [State.modLink, owed, empty, reply]
  have idle : (s.modLink fun l => { l with waiting := l.waiting ++ [f] }).queueOwed.link.sending = none := by
    rw [queued]
    exact idle
  rw [State.sendNext_first (f := f) (rest := if s.attention.owed then [.attention] else []) idle (by rw [queued])]
  simp only [reply, if_true, State.queueOwed_eq]
  exact ⟨rfl, rfl⟩

/-- A frame that joins a busy line waits, and a frame that becomes owed behind it. -/
theorem State.send_busy {s : State} {f g : Frame} (reply : f.reply = true) (busy : s.link.sending = some g) :
    (s.send f).link =
        { s.link with
          waiting :=
            if s.attention.owed = true ∧ ∀ g ∈ s.link.waiting, g.reply = true then s.link.waiting ++ [f, .attention]
            else s.link.waiting ++ [f] } ∧
      (s.send f).attention.owed = s.attention.owed := by
  unfold State.send State.pump
  have busy : (s.modLink fun l => { l with waiting := l.waiting ++ [f] }).queueOwed.link.sending = some g := by
    rw [State.queueOwed_eq]
    exact busy
  rw [State.sendNext_busy busy, State.queueOwed_eq]
  refine ⟨?_, rfl⟩
  simp [State.modLink, reply, or_imp, forall_and]

/-- A decision leaves the frames and the request in hand. -/
theorem Decided.frames {c : Instr} {s t : State} (decided : Decided s c t) :
    t.link.unanswered = s.link.unanswered ∧ t.link.sending = s.link.sending ∧ t.link.waiting = s.link.waiting := by
  cases decided
  case setAlarm =>
    simp only [State.settle_frame, State.setAlarm, State.modLink, State.modAlarm, Link.silenceSet]
    split
    · exact ⟨rfl, rfl, rfl⟩
    · split <;> exact ⟨rfl, rfl, rfl⟩
  case lockGroup | unlockGroup | readStatus => exact ⟨rfl, rfl, rfl⟩
  all_goals simp

/-! ### The end of a frame (R169) -/

theorem State.endFrame_eq {s : State} {f : Frame} (sending : s.link.sending = some f)
    (stays : f.reply = false ∨ s.restartPending = none) :
    s.endFrame = (s.modLink fun l => { l with sending := none, unanswered := l.unanswered && !f.reply }).pump := by
  unfold State.endFrame
  rw [sending]
  obtain reply | none := stays
  · simp [reply]
  · simp [State.modLink, none]

theorem State.pump_next {s : State} {g : Frame} {rest : List Frame} (idle : s.link.sending = none)
    (next : s.link.waiting = g :: rest) :
    s.pump.link.sending = some g ∧ rest <+: s.pump.link.waiting ∧ (g.reply = false → s.pump.attention.owed = false) := by
  have queued : ∃ more, s.queueOwed.link.waiting = g :: (rest ++ more) := by
    rw [State.queueOwed_eq]
    dsimp only
    split
    · exact ⟨[.attention], by simp [next]⟩
    · exact ⟨[], by simp [next]⟩
  obtain ⟨more, queued⟩ := queued
  have idle : s.queueOwed.link.sending = none := by
    rw [State.queueOwed_eq]
    exact idle
  rw [State.pump, State.sendNext_first idle queued]
  exact ⟨rfl, List.prefix_append _ _, fun plain => by simp [plain]⟩

theorem State.pump_none {s : State} (idle : s.link.sending = none) (empty : s.link.waiting = []) :
    s.pump.link.waiting = [] ∧ s.pump.attention.owed = false ∧
      s.pump.link.sending = if s.attention.owed then some .attention else none := by
  cases owed : s.attention.owed with
  | false =>
    have queued : s.queueOwed = s := by
      unfold State.queueOwed
      simp [owed]
    rw [State.pump, queued, State.sendNext_empty empty]
    exact ⟨empty, owed, idle⟩
  | true =>
    have queued : s.queueOwed.link.waiting = [.attention] := by
      rw [State.queueOwed_eq]
      simp [owed, empty]
    have idle : s.queueOwed.link.sending = none := by
      rw [State.queueOwed_eq]
      exact idle
    rw [State.pump, State.sendNext_first idle queued]
    exact ⟨rfl, rfl, rfl⟩

end Sys2Proof.Machine

open Sys2Proof Sys2Proof.Machine

/-- Settles O1. -/
theorem stepTakesFrontCommand : Obligations.StepTakesFrontCommand := by
  refine ⟨fun _ _ _ => rfl, fun s empty => ?_⟩
  have idle : step s = .next s.idle := by
    unfold step
    rw [empty]
  refine ⟨fun due => ?_, fun due supply => ?_, fun due supply => ?_⟩
  · rw [idle, State.idle_due due]
  · rw [idle, State.idle_tick due, State.tick, supply]
    rfl
  · rw [idle, State.idle_tick due, State.tick, supply]
    rfl

/-- Settles O54: the state after reset is what the cold reset's values settle to. -/
theorem lawsHoldAtReset : Obligations.LawsHoldAtReset := by
  obtain ⟨s, reset⟩ := State.reset_eq
  refine ⟨?_, ?_, ?_, ?_, ?_, ?_, ?_, ?_, ?_⟩
  · rw [← Laws.reset_is_cold_reset]
    exact State.endReset_law _ fun live => absurd live (by simp [State.beginReset])
  · rw [reset]
    exact s.coldValues_law.of (by simp) (by simp) (by simp)
  · exact holds_at_reset Keeps.countLaw State.coldValues_countLaw
  · exact holds_at_reset Keeps.capacityLaw State.coldValues_capacityLaw
  · exact holds_at_reset Keeps.shelfLaw fun _ => Alarm.fresh_shelved coldPoints_idle _ _ _ _ _
  · exact holds_at_reset Keeps.heatLaw fun _ => Heat.reset_balanced
  · rw [reset]
    exact State.pump_linkLaw _
  · exact holds_at_reset Keeps.hornLaw fun _ _ => Alarm.fresh_rung coldPoints_idle _ _ _ _ _
  · exact holds_at_reset Keeps.storeLaw fun _ => List.isChain_singleton _

/-- Settles O2: each command's outcome is a next state by its definition. -/
theorem everyCommandCompletes : Obligations.EveryCommandCompletes := exec_completes

/-- Settles O4: a request goes to its owner's decision, which leaves the frames that wait. -/
theorem requestAnswered : Obligations.RequestAnswered := by
  intro c type tag s request ready
  obtain ⟨unanswered, sending, waiting⟩ := (decision_decided c s.taken).frames
  have link : s.taken.link.sending = s.link.sending ∧ s.taken.link.waiting = s.link.waiting := by
    simp [State.taken, State.validFrame_link]
  refine ⟨(decision c s.taken).state, (decision c s.taken).status, (decision c s.taken).content, ?_, unanswered, ?_, ?_⟩
  · rw [exec_request request, State.request_ready ready]
  · exact sending.trans link.1
  · exact waiting.trans link.2

/-- Settles O5: what a valid frame leaves, and its discard. -/
theorem requestWhileUnanswered : Obligations.RequestWhileUnanswered := by
  intro c s frame live busy
  refine ⟨s.validFrame.discardFrame, exec_early frame live busy, s.early_link, ?_, ?_, s.validFrame.discardFrame_sameBut⟩
  · rw [s.validFrame.discardFrame_attention.1, State.validFrame_link, State.validFrame_eq]
  · rw [s.validFrame.discardFrame_attention.2, State.validFrame_eq]

/-- Settles O6: the two ways of a discard, READ STATUS, and the resets. -/
theorem discardsCounted : Obligations.DiscardsCounted := by
  refine ⟨fun c s frame live => ?_, fun s live => ?_, fun c s frame live busy => ?_, fun s tag ready => ?_, fun s => ?_⟩
  · have received (f : Link → Receiver) : SameBut [.link, .attention] s
        (s.modLink fun l => { l with receiver := f l }).discardFrame := fun b other => by
      cases b <;> simp_all [Block.Same]
    obtain rfl | rfl := frame
    · refine ⟨s.discardFrame, congrArg _ (State.event_live live _), ?_, s.discardFrame_attention.1,
        s.discardFrame_attention.2, s.discardFrame_sameBut⟩
      rw [State.discardFrame_link]
      simp [inc16, max16]
    · have attention := State.discardFrame_attention
        (s.modLink fun l => { l with receiver := l.receiver.afterGap Config.frameGap s.floorTime })
      refine ⟨_, congrArg _ (State.event_live live _), ?_, attention.1, attention.2, received _⟩
      rw [State.discardFrame_link]
      cases held : s.link.receiver with
      | hunting => simp [State.modLink, inc16, max16, held]
      | inFrame buffer last =>
        simp [State.modLink, inc16, max16, held, Receiver.afterGap_inFrame, Config.frameGap]
  · rw [mem_dueEvents_frameGapTimeout live, Receiver.gapOver_iff]
    rfl
  · refine ⟨_, exec_early frame live busy, congrArg Link.discarded s.early_link, congrArg Link.silenceAt s.early_link, ?_⟩
    rw [s.validFrame.discardFrame_attention.1, State.validFrame_link]
  · refine ⟨?_, _, rfl⟩
    rw [exec_request rfl, State.request_ready ready]
    rfl
  · exact ⟨rfl, rfl, fun _ _ _ => ⟨rfl, rfl⟩⟩

/-- Settles O7. -/
theorem resetHoldsCommands : Obligations.ResetHoldsCommands := by
  intro c s held keeps notRaw
  match request : requestOf? c with
  | some (type, tag) => rw [exec_request request, State.request_reset held]
  | none => exact exec_event_in_reset request keeps held notRaw

/-- Settles O8: the two forms of a reply's place. -/
theorem replySent : Obligations.ReplySent := by
  intro s type tag status content
  obtain ⟨same, request, arm, -⟩ :=
    (s.modLink fun l => { l with waiting := l.waiting ++ [replyFrame type tag status content] }).pump_sameBut
  exact ⟨same.of_modLink, request, arm, fun idle empty => State.send_idle rfl idle empty,
    fun f busy => State.send_busy rfl busy⟩

/-- Settles O9: the end of a frame is the sending of what waits on a line that is idle again. -/
theorem frameEnds : Obligations.FrameEnds := by
  intro s f live sending stays
  have ended : exec .frameSendEnd s = .next s.endFrame := by
    change Host.Outcome.next (if s.resetRun.isSome = true then s else s.endFrame) = _
    simp [live]
  obtain ⟨same, request, arm, link⟩ :=
    (s.modLink fun l => { l with sending := none, unanswered := l.unanswered && !f.reply }).pump_sameBut
  refine ⟨_, ended.trans (by rw [State.endFrame_eq sending stays]), same.of_modLink, request, arm, link, ?_, ?_⟩
  · exact fun g rest next => State.pump_next rfl next
  · exact fun empty => State.pump_none rfl empty

end

section
/-! Requests that read, the settings that requests write, and the locks that refuse them (Chapters 1, 4, 7, 9 and 10): each
comes to its owner's decision on the taken state. -/

set_option Elab.async false

namespace Sys2Proof.Machine

open Sys2Proof

/-! ### From the decision to the outcome (R169) -/

theorem exec_ready {c : Instr} {type : Nat} {tag : Byte} {s : State} (request : requestOf? c = some (type, tag))
    (ready : s.Ready) {a : Answer} (decided : decision c s.taken = a) :
    exec c s = .next (a.state.replied type tag a.status a.content) := by
  rw [exec_request request, State.request_ready ready, decided]

theorem exec_done {c : Instr} {type : Nat} {tag : Byte} {s t : State} {content : List Byte}
    (request : requestOf? c = some (type, tag)) (ready : s.Ready) (decided : decision c s.taken = t.done content) :
    exec c s = .next (t.replied type tag .done content) := exec_ready request ready decided

theorem exec_accepted {c : Instr} {type : Nat} {tag : Byte} {s t : State}
    (request : requestOf? c = some (type, tag)) (ready : s.Ready) (decided : decision c s.taken = t.accepted) :
    exec c s = .next (t.replied type tag .accepted []) := exec_ready request ready decided

theorem exec_refused {c : Instr} {type : Nat} {tag : Byte} {s : State} {status : Status}
    (request : requestOf? c = some (type, tag)) (ready : s.Ready) (decided : decision c s.taken = s.taken.refuse status) :
    exec c s = .next (s.taken.replied type tag status []) := exec_ready request ready decided

/-! ### What a selector names (R177) -/

theorem numbered_eq {n : Nat} {b : Byte} {i : Fin n} (number : b.toNat = i.val + 1) : numbered n b = some i := by
  have := i.isLt
  rw [numbered, dif_pos (by omega)]
  exact congrArg some (Fin.ext (by simp [number]))

theorem numbered_none {n : Nat} {b : Byte} (outside : b = 0 ∨ n < b.toNat) : numbered n b = none := by
  rw [numbered, dif_neg]
  obtain rfl | above := outside
  · simp
  · omega

theorem numbered_some {n : Nat} {b : Byte} (low : 1 ≤ b.toNat) (high : b.toNat ≤ n) : ∃ i, numbered n b = some i :=
  ⟨_, dif_pos ⟨low, high⟩⟩

theorem byte_eq_ofNat (b : Byte) : BitVec.ofNat 8 b.toNat = b := by simp

theorem b1_toNat (b : Byte) : b1 b.toNat = [b] := by simp [b1, beBytes]

/-! ### The content of a reply (R55, R143, R171) -/

theorem RestartCause.code (c : RestartCause) :
    (match c with
      | .coldPin => 0#8
      | .coldSupply => 1#8
      | .coldRequest => 2#8
      | .warmRequest => 3#8) = BitVec.ofNat 8 c.ctorIdx := by
  cases c <;> rfl

theorem State.pingBytes_eq (s : State) :
    s.pingBytes =
      [0x0D#8, 0x4C#8, 0x10#8, 0xA4#8, 0x01#8] ++
        [match s.restartCause with
          | .coldPin => 0#8
          | .coldSupply => 1#8
          | .coldRequest => 2#8
          | .warmRequest => 3#8] ++
        ([5, 4, 3, 2, 1, 0].map fun k => BitVec.ofNat 8 (s.floorTime / 256 ^ k)) := by
  rw [RestartCause.code]
  simp [State.pingBytes, b1, b2, b6, beBytes, Config.vendorCode, Config.partCode, Config.revision]

theorem Line.completionBytes_eq (r : Line) :
    r.completionBytes =
      b1 (min 8 r.completions.length) ++ b1 (r.completions.length - min 8 r.completions.length) ++ flag r.overrun ++
        ((r.completions.take 8).map Completion.bytes).flatten := by
  simp only [Line.completionBytes, List.length_take]

theorem Alarm.changeBytes_eq (a : Alarm) :
    a.changeBytes =
      b1 (min 12 a.changes.length) ++ b1 (a.changes.length - min 12 a.changes.length) ++ flag a.overrun ++
        ((a.changes.take 12).map Change.bytes).flatten := by
  simp only [Alarm.changeBytes, List.length_take]

/-! ### Reports (R165 to R167) -/

theorem stored_none {store : List Report} {sequence : Nat} (none : ∀ r ∈ store, r.shift.sequence ≠ sequence) :
    stored store sequence = .none := by
  simpa [stored, List.find?_eq_none] using none

/-! ### Ranges (section 2.2) -/

theorem inRange_iff {lo hi v : Nat} : inRange lo hi v = true ↔ lo ≤ v ∧ v ≤ hi := by simp [inRange]

/-! ### Locks (R174) -/

theorem lockOfCode_none {b : Byte} (above : 7 ≤ b.toNat) : lockOfCode b = none := by
  unfold lockOfCode
  split
  case h_8 => rfl
  all_goals omega

/-- A code below 7 names the group of that place. -/
theorem lockOfCode_some {b : Byte} (h : b.toNat < 7) : ∃ g : LockGroup, lockOfCode b = some g ∧ g.ctorIdx = b.toNat := by
  unfold lockOfCode
  split
  case h_8 => grind
  all_goals exact ⟨_, rfl, by simp_all [LockGroup.ctorIdx]⟩

theorem LockGroup.guarded_iff (g : LockGroup) : g.guarded = true ↔ g.ctorIdx ∈ [0, 2, 4, 5] := by
  cases g <;> decide

theorem BurnerState.atRest_iff (b : BurnerState) : b.atRest = true ↔ b = .lockout ∨ b = .idle := by
  cases b <;> decide

/-! ### The BURNER and ENVELOPE settings (R24, R85) -/

theorem votingOfCode_eq (b : Byte) :
    votingOfCode b = if b.toNat ≤ 1 then some (if b = 0 then .oneOfTwo else .twoOfTwo) else none := by
  unfold votingOfCode
  split
  · rename_i zero
    obtain rfl : b = 0 := BitVec.eq_of_toNat_eq zero
    rfl
  · rename_i one
    obtain rfl : b = 1 := BitVec.eq_of_toNat_eq one
    rfl
  · grind

theorem stepRateOfCode_eq (b : Byte) :
    stepRateOfCode b =
      if b.toNat ≤ 3 then some (if b = 0 then 25 else if b = 1 then 50 else if b = 2 then 100 else 200) else none := by
  unfold stepRateOfCode
  split
  · rename_i code
    obtain rfl : b = 0 := BitVec.eq_of_toNat_eq code
    rfl
  · rename_i code
    obtain rfl : b = 1 := BitVec.eq_of_toNat_eq code
    rfl
  · rename_i code
    obtain rfl : b = 2 := BitVec.eq_of_toNat_eq code
    rfl
  · rename_i code
    obtain rfl : b = 3 := BitVec.eq_of_toNat_eq code
    rfl
  · grind

/-- Every value of SET BURNER is in the range of Table 1-8. -/
def burnerInside (f : BurnerFields) : Prop :=
  f.voting.toNat ≤ 1 ∧ 1 ≤ f.ffrt.toNat ∧ f.ffrt.toNat ≤ 4 ∧ 60 ≤ f.purgeTime.toNat ∧ f.purgeTime.toNat ≤ 900 ∧
    f.purgeAir.toNat ≤ 100 ∧ f.minAir.toNat ≤ 100 ∧ 3 ≤ f.ignitionTrial.toNat ∧ f.ignitionTrial.toNat ≤ 15 ∧
    5 ≤ f.mainTrial.toNat ∧ f.mainTrial.toNat ≤ 30 ∧ f.lightOffAxial.toNat ≤ 400 ∧ f.lightOffSwirl.toNat ≤ 400 ∧
    f.toleranceAxial.toNat ≤ 20 ∧ f.toleranceSwirl.toNat ≤ 20 ∧ f.stepRateAxial.toNat ≤ 3 ∧ f.stepRateSwirl.toNat ≤ 3

/-- The steps per second that a code of Table 1-8 gives. -/
def rateOfCode (b : Byte) : Nat := if b = 0 then 25 else if b = 1 then 50 else if b = 2 then 100 else 200

/-- The settings that SET BURNER carries, its values in range. -/
def burnerWritten (f : BurnerFields) : BurnerSettings :=
  { voting := if f.voting = 0 then .oneOfTwo else .twoOfTwo, ffrt := f.ffrt.toNat,
    purgeTime := f.purgeTime.toNat, purgeAir := f.purgeAir.toNat, minAir := f.minAir.toNat,
    ignitionTrial := f.ignitionTrial.toNat, mainTrial := f.mainTrial.toNat,
    lightOff := #v[f.lightOffAxial.toNat, f.lightOffSwirl.toNat],
    tolerance := #v[f.toleranceAxial.toNat, f.toleranceSwirl.toNat],
    stepRate := #v[rateOfCode f.stepRateAxial, rateOfCode f.stepRateSwirl] }

theorem burnerSettings_of_inside {f : BurnerFields} (inside : burnerInside f) : burnerSettings f = some (burnerWritten f) := by
  simp only [burnerInside] at inside
  simp only [burnerSettings, votingOfCode_eq, stepRateOfCode_eq, inside, inRange, if_true, decide_true,
    Bool.and_self]
  rfl

theorem burnerSettings_of_outside {f : BurnerFields} (outside : ¬burnerInside f) : burnerSettings f = none := by
  simp only [burnerSettings, votingOfCode_eq, stepRateOfCode_eq]
  split
  · rename_i voting axial swirl
    rw [if_neg]
    simp only [Option.ite_none_right_eq_some] at voting axial swirl
    simp only [inRange, Bool.and_eq_true, decide_eq_true_eq]
    unfold burnerInside at outside
    omega
  · rfl

/-! ### The ENVELOPE settings (R85) -/

/-- Every value of SET ENVELOPE is in the range of Table 4-3. -/
def envelopeInside (f : EnvelopeFields) : Prop :=
  1000 ≤ f.nominalHeat.toNat ∧ f.nominalHeat.toNat ≤ 666666 ∧ 1000 ≤ f.maxHeat.toNat ∧ f.maxHeat.toNat ≤ 666666 ∧
    f.lightOffHeat.toNat ≤ 666666 ∧ f.lightOffRamp.toNat ≤ 60000 ∧ f.satLowLimit.toNat ≤ 1500 ∧
    10 ≤ f.satCeilingPct.toNat ∧ f.satCeilingPct.toNat ≤ 100 ∧ f.surgeCutback.toNat ≤ 50

theorem envelopeSettings_eq (f : EnvelopeFields) [Decidable (envelopeInside f)] :
    envelopeSettings f =
      if envelopeInside f then
        some
          { nominalHeat := f.nominalHeat.toNat, maxHeat := f.maxHeat.toNat, lightOffHeat := f.lightOffHeat.toNat,
            lightOffRamp := f.lightOffRamp.toNat, satLowLimit := f.satLowLimit.toNat,
            satCeilingPct := f.satCeilingPct.toNat, surgeCutback := f.surgeCutback.toNat }
      else none := by
  unfold envelopeSettings
  refine if_congr ?_ rfl rfl
  simp only [inRange, Bool.and_eq_true, decide_eq_true_eq, and_assoc]
  rfl

theorem flameVote_eq (v : Voting) (a b : Bool) : flameVote v a b = if v = .oneOfTwo then a || b else a && b := by
  cases v <;> rfl

end Sys2Proof.Machine

open Sys2Proof Sys2Proof.Machine

/-- Settles O10: each read is answered with its content from the taken state. -/
theorem readsChangeNothing : Obligations.ReadsChangeNothing := by
  intro s tag ready
  refine ⟨exec_done rfl ready rfl, exec_done rfl ready rfl, exec_done rfl ready rfl, exec_done rfl ready rfl,
    exec_done rfl ready rfl, exec_done rfl ready rfl, fun part above => exec_refused rfl ready ?_,
    fun point i number => exec_done rfl ready ?_, fun point outside => exec_refused rfl ready ?_, exec_done rfl ready rfl,
    exec_done rfl ready rfl, exec_done rfl ready ?_⟩
  · change decideReadField part s.taken = _
    unfold decideReadField
    split
    case h_4 => rfl
    all_goals omega
  · change decideReadPoint point s.taken = _
    rw [decideReadPoint, numbered_eq number]
  · change decideReadPoint point s.taken = _
    rw [decideReadPoint, numbered_none outside]
  · exact congrArg s.taken.done s.taken.pingBytes_eq

/-- Settles O11. -/
theorem reportsRead : Obligations.ReportsRead := by
  intro s tag ready
  refine ⟨fun p part held within => exec_done rfl ready ?_, fun part missing => exec_refused rfl ready ?_,
    fun r sequence part held within => exec_done rfl ready ?_, fun sequence part missing => exec_refused rfl ready ?_⟩
  · change decideReadPeek part.toNat s.taken = _
    rw [decideReadPeek, held]
    simp [within, b1_toNat]
  · change decideReadPeek part.toNat s.taken = _
    unfold decideReadPeek
    split
    · rw [if_neg]
      simp_all
    · rfl
  · change decideReadReport sequence.toNat part.toNat s.taken = _
    rw [decideReadReport, held]
    simp [within, b1_toNat]
  · change decideReadReport sequence.toNat part.toNat s.taken = _
    unfold decideReadReport
    split
    · rename_i r held
      rw [if_neg]
      obtain none | above := missing
      · simp [stored_none none] at held
      · omega
    · rfl

/-- Settles O12: what each collecting read clears. -/
theorem readsThatCollect : Obligations.ReadsThatCollect := by
  intro s tag ready
  refine ⟨fun line l number => ⟨exec_done rfl ready ?_, exec_done rfl ready ?_⟩,
    fun line outside => ⟨exec_refused rfl ready ?_, exec_refused rfl ready ?_⟩, exec_done rfl ready ?_⟩
  · change decideReadLine line s.taken = _
    rw [decideReadLine, numbered_eq number]
    rfl
  · change decideReadCompletions line s.taken = _
    rw [decideReadCompletions, numbered_eq number]
    simp only [Line.completionBytes_eq]
    rfl
  · change decideReadLine line s.taken = _
    rw [decideReadLine, numbered_none outside]
  · change decideReadCompletions line s.taken = _
    rw [decideReadCompletions, numbered_none outside]
  · change decideReadChanges s.taken = _
    simp only [decideReadChanges, Alarm.changeBytes_eq]
    rfl

/-- Settles O14. -/
theorem requestEventAndValveCommand : Obligations.RequestEventAndValveCommand := by
  intro s
  refine ⟨fun c => ⟨fun b other => ?_, rfl, rfl, ?_⟩, fun k => rfl, fun v toOpen => ⟨fun same => if_pos same, fun change => if_neg change⟩⟩
  · cases b <;> simp_all [Block.Same]
  · exact Attention.setFlags_owed_iff _ _ _

/-- Settles O15. -/
theorem lockedGroupRefuses : Obligations.LockedGroupRefuses := by
  intro s tag ready
  refine ⟨fun f locked => exec_refused rfl ready (if_pos locked), fun line f locked => exec_refused rfl ready (if_pos locked),
    fun f locked => exec_refused rfl ready (if_pos locked), fun f locked => exec_refused rfl ready (if_pos locked),
    fun point f locked low high => exec_refused rfl ready ?_, fun _ _ _ locked => exec_refused rfl ready (if_pos locked),
    fun f locked => exec_refused rfl ready (if_pos locked), fun masks locked => exec_refused rfl ready (if_pos locked),
    fun times locked low high => exec_refused rfl ready ?_⟩
  · change decideDefine point f s.taken = _
    obtain ⟨i, number⟩ := numbered_some (n := 96) low high
    rw [decideDefine, number]
    exact if_pos locked
  · change decideSetSchedule (times.map BitVec.toNat) s.taken = _
    rw [decideSetSchedule, if_neg (by simp only [List.length_map, Bool.or_eq_true, decide_eq_true_eq]; omega)]
    exact if_pos locked

/-- Settles O16. -/
theorem lockAndUnlock : Obligations.LockAndUnlock := by
  intro s tag group ready
  refine ⟨fun below => ?_, fun above => ⟨exec_refused rfl ready ?_, exec_refused rfl ready ?_⟩⟩
  · obtain ⟨g, code, place⟩ := lockOfCode_some below
    have set (v : Bool) : s.taken.setLock g v =
        { s.taken with link := { s.taken.link with locks := s.taken.link.locks.set group.toNat v } } := by
      simp only [State.setLock, State.modLink, place]
    refine ⟨exec_done rfl ready ?_, fun ⟨guarded, notLockout, notIdle⟩ => exec_refused rfl ready ?_,
      fun free => exec_done rfl ready ?_⟩
    · change decideLock group s.taken = _
      simp only [decideLock, code, set]
    · change decideUnlock group s.taken = _
      have guarded := g.guarded_iff.2 (place ▸ guarded)
      have moving : s.taken.burner.state.atRest = false := by
        rw [Bool.eq_false_iff, ne_eq, BurnerState.atRest_iff]
        exact fun rest => rest.elim notLockout notIdle
      simp [decideUnlock, code, guarded, moving]
    · change decideUnlock group s.taken = _
      have open' : (g.guarded && !s.taken.burner.state.atRest) = false := by
        obtain place' | rest := free
        · have : g.guarded = false := by
            rw [Bool.eq_false_iff, ne_eq, LockGroup.guarded_iff, place]
            grind
          simp [this]
        · simp [(BurnerState.atRest_iff _).2 rest]
      simp only [decideUnlock, code, open', set, Bool.false_eq_true, if_false]
  · change decideLock group s.taken = _
    rw [decideLock, lockOfCode_none above]
  · change decideUnlock group s.taken = _
    rw [decideUnlock, lockOfCode_none above]

/-- Settles O17. -/
theorem burnerSettingsWritten : Obligations.BurnerSettingsWritten := by
  intro s tag f ready unlocked
  have decided : decision (.setBurner tag f) s.taken =
      match burnerSettings f with
      | some c => (s.taken.modBurner fun b => { b with cfg := c }).voteFlame.done []
      | none => s.taken.refuse .badValue := if_neg (by rw [State.locked, unlocked]; decide)
  refine ⟨fun inside => exec_done rfl ready (decided.trans ?_), fun outside => exec_refused rfl ready (decided.trans ?_)⟩
  · rw [burnerSettings_of_inside inside]
    simp only [State.voteFlame, State.flameNow, flameVote_eq, State.modBurner, burnerWritten, State.di, rateOfCode]
    by_cases voting : f.voting = 0 <;> simp [voting]
  · rw [burnerSettings_of_outside outside]

/-- Settles O18. -/
theorem envelopeAndOperatorCeiling : Obligations.EnvelopeAndOperatorCeiling := by
  classical
  refine ⟨fun s tag value ready => ⟨fun within => exec_done rfl ready (if_pos within),
    fun above => exec_refused rfl ready (if_neg (Nat.not_le.2 above)), exec_done rfl ready rfl⟩,
    fun s tag f ready unlocked => ?_⟩
  have decided : decision (.setEnvelope tag f) s.taken =
      match envelopeSettings f with
      | some c => ({ s.taken with envelope := c } : State).evaluate.settle.done []
      | none => s.taken.refuse .badValue := if_neg (by rw [State.locked, unlocked]; decide)
  rw [envelopeSettings_eq] at decided
  refine ⟨fun inside => exec_done rfl ready (decided.trans ?_), fun outside => exec_refused rfl ready (decided.trans ?_)⟩
  · rw [if_pos (show envelopeInside f from inside)]
  · rw [if_neg (show ¬envelopeInside f from outside)]

end

section
/-! SET COOLER, DEFINE ALARM, SET ALARM, SET SCHEDULE and SET CLOCK (R105, R141, R146, R158, R159). -/

set_option Elab.async false

namespace Sys2Proof.Machine

open Sys2Proof

/-! ### What an operation leaves unchanged -/

theorem SameBut.refl (bs : List Block) (s : State) : SameBut bs s s := by
  intro b _
  cases b
  case reset => exact ⟨rfl, rfl, rfl, rfl, rfl⟩
  all_goals rfl

theorem SameBut.trans {bs : List Block} {s t u : State} (first : SameBut bs s t) (second : SameBut bs t u) :
    SameBut bs s u := by
  intro b other
  have st := first b other
  have tu := second b other
  cases b
  case reset =>
    simp only [Block.Same] at st tu ⊢
    simp only [st, tu, and_self]
  all_goals exact tu.trans st

theorem SameBut.mono {bs cs : List Block} {s t : State} (same : SameBut bs s t) (sub : bs ⊆ cs) : SameBut cs s t :=
  fun b other => same b fun named => other (sub named)

theorem SameBut.of_other {bs : List Block} {s t : State} {c : Block} (named : c ∈ bs) (same : ∀ b, b ≠ c → b.Same s t) :
    SameBut bs s t := fun b other => same b fun eq => other (eq ▸ named)

section
variable {bs : List Block} (s : State)

theorem State.modLink_sameBut (f : Link → Link) (named : .link ∈ bs) : SameBut bs s (s.modLink f) :=
  .of_other named fun b other => by cases b <;> simp_all [Block.Same, State.modLink]

theorem State.modBurner_sameBut (f : Burner → Burner) (named : .burner ∈ bs) : SameBut bs s (s.modBurner f) :=
  .of_other named fun b other => by cases b <;> simp_all [Block.Same, State.modBurner]

theorem State.modLine_sameBut (l : Fin 6) (f : Line → Line) (named : .lines ∈ bs) : SameBut bs s (s.modLine l f) :=
  .of_other named fun b other => by cases b <;> simp_all [Block.Same, State.modLine]

theorem State.modBatch_sameBut (i : Fin 2) (f : Batch → Batch) (named : .batches ∈ bs) :
    SameBut bs s (s.modBatch i f) :=
  .of_other named fun b other => by cases b <;> simp_all [Block.Same, State.modBatch]

theorem State.modHeat_sameBut (f : Heat → Heat) (named : .heat ∈ bs) : SameBut bs s (s.modHeat f) :=
  .of_other named fun b other => by cases b <;> simp_all [Block.Same, State.modHeat]

theorem State.modCooler_sameBut (f : Cooler → Cooler) (named : .cooler ∈ bs) : SameBut bs s (s.modCooler f) :=
  .of_other named fun b other => by cases b <;> simp_all [Block.Same, State.modCooler]

theorem State.modField_sameBut (f : Field → Field) (named : .field ∈ bs) : SameBut bs s (s.modField f) :=
  .of_other named fun b other => by cases b <;> simp_all [Block.Same, State.modField]

theorem State.modAlarm_sameBut (f : Alarm → Alarm) (named : .alarm ∈ bs) : SameBut bs s (s.modAlarm f) :=
  .of_other named fun b other => by cases b <;> simp_all [Block.Same, State.modAlarm]

theorem State.raise_sameBut (c : AttentionClass) (named : .attention ∈ bs) : SameBut bs s (s.raise c) :=
  .of_other named fun b other => by cases b <;> simp_all [Block.Same, State.raise, State.modAttention]

theorem State.modShift_sameBut (f : Shift → Shift) (named : .shift ∈ bs) : SameBut bs s (s.modShift f) :=
  .of_other named fun b other => by cases b <;> simp_all [Block.Same, State.modShift]

theorem State.addEvent_sameBut (k : EventKind) (named : .shift ∈ bs) : SameBut bs s (s.addEvent k) :=
  s.modShift_sameBut _ named

end

/-! ### The COOLER settings (R105) -/

theorem vector_all_iff {α : Type} {n : Nat} (v : Vector α n) (p : α → Bool) :
    v.toList.all p = true ↔ ∀ k : Fin n, p v[k] = true := by
  simp only [List.all_eq_true, Vector.mem_toList_iff, Vector.mem_iff_getElem]
  constructor
  · exact fun all k => all _ ⟨k.val, k.isLt, rfl⟩
  · rintro all _ ⟨k, within, rfl⟩
    exact all ⟨k, within⟩

/-- Every value of SET COOLER is in the range of Table 5-3, the BED minimum not above the maximum and the release level
below the surge level. -/
def coolerInside (f : CoolerFields) : Prop :=
  10 ≤ f.fanStartDelay.toNat ∧ f.fanStartDelay.toNat ≤ 120 ∧ 30 ≤ f.fanRunOn.toNat ∧ f.fanRunOn.toNat ≤ 600 ∧
    (∀ k : Fin 12, f.fanMinSpeed[k].toNat ≤ 1000 ∧ f.fanThreshold[k].toNat ≤ 1000) ∧ f.boostSpeed.toNat ≤ 1000 ∧
    f.bedBase.toNat ≤ 300 ∧ f.bedGain.toNat ≤ 100 ∧ f.bedSetpoint.toNat ≤ 500 ∧ f.bedMin.toNat ≤ f.bedMax.toNat ∧
    f.bedMax.toNat ≤ 300 ∧ 1 ≤ f.surgeRise.toNat ∧ f.surgeRise.toNat ≤ 100 ∧ 2 ≤ f.surgeWindow.toNat ∧
    f.surgeWindow.toNat ≤ 30 ∧ 1 ≤ f.surgeLevel.toNat ∧ f.surgeLevel.toNat ≤ 500 ∧
    f.releaseLevel.toNat < f.surgeLevel.toNat ∧ 10 ≤ f.releaseTime.toNat ∧ f.releaseTime.toNat ≤ 300 ∧
    f.surgeRate.toNat ≤ 300 ∧ 1 ≤ f.blasterRevs.toNat ∧ 2 ≤ f.blasterInterval.toNat ∧ f.blasterInterval.toNat ≤ 60

/-- The settings that SET COOLER carries, its values in range. -/
def coolerWritten (f : CoolerFields) : CoolerSettings :=
  { fanStartDelay := f.fanStartDelay.toNat, fanRunOn := f.fanRunOn.toNat,
    fanMinSpeed := mapAt f.fanMinSpeed fun _ v => v.toNat, fanThreshold := mapAt f.fanThreshold fun _ v => v.toNat,
    boostSpeed := f.boostSpeed.toNat, bedBase := f.bedBase.toNat, bedGain := f.bedGain.toNat,
    bedSetpoint := f.bedSetpoint.toNat, bedMin := f.bedMin.toNat, bedMax := f.bedMax.toNat,
    surgeRise := f.surgeRise.toNat, surgeWindow := f.surgeWindow.toNat, surgeLevel := f.surgeLevel.toNat,
    releaseLevel := f.releaseLevel.toNat, releaseTime := f.releaseTime.toNat, surgeRate := f.surgeRate.toNat,
    blasterRevs := f.blasterRevs.toNat, blasterInterval := f.blasterInterval.toNat }

theorem coolerSettings_eq (f : CoolerFields) [Decidable (coolerInside f)] :
    coolerSettings f = if coolerInside f then some (coolerWritten f) else none := by
  unfold coolerSettings
  refine if_congr ?_ rfl rfl
  simp only [inRange, Bool.and_eq_true, decide_eq_true_eq, vector_all_iff, coolerInside, forall_and]
  grind

/-- The condition under which SET COOLER forms the BED value again (R93). -/
theorem bedChanged_iff (a b : CoolerSettings) :
    bedChanged a b = true ↔
      b.bedBase ≠ a.bedBase ∨ b.bedGain ≠ a.bedGain ∨ b.bedSetpoint ≠ a.bedSetpoint ∨ b.bedMin ≠ a.bedMin ∨
        b.bedMax ≠ a.bedMax := by
  simp only [bedChanged, Bool.or_eq_true, bne_iff_ne, or_assoc, ne_comm]

theorem Cooler.withSettings_eq (c : Cooler) (new : CoolerSettings) :
    c.withSettings new = { c with cfg := new, bed := (c.withSettings new).bed } := by
  simp only [Cooler.withSettings, Cooler.formBed]
  split
  · split <;> rfl
  · rfl

theorem Cooler.withSettings_bed_formed {c : Cooler} {new : CoolerSettings} {m : Int} (changed : bedChanged c.cfg new = true)
    (runs : c.bedAt ≠ none) (mean : c.bedMean = some m) : (c.withSettings new).bed = bedValue new m := by
  have both : (bedChanged c.cfg new && c.bedAt.isSome) = true := by
    rw [changed, Option.isSome_iff_ne_none.2 runs]
    rfl
  simp only [Cooler.withSettings, both, if_true, Cooler.formBed, mean]

theorem Cooler.withSettings_bed_kept {c : Cooler} {new : CoolerSettings}
    (kept : bedChanged c.cfg new = false ∨ c.bedAt = none ∨ c.bedMean = none) : (c.withSettings new).bed = c.bed := by
  unfold Cooler.withSettings Cooler.formBed
  obtain same | stopped | absent := kept
  · simp [same]
  · simp [stopped]
  · simp only [absent, ite_self]

/-! ### Alarm definitions (R127, R141) -/

/-- The limits that every definition of a configurable point keeps (Table 7-2). -/
def alarmCommon (f : AlarmFields) : Prop :=
  f.onDelay.toNat ≤ 60 ∧ f.offDelay.toNat ≤ 60 ∧ f.cls.toNat ≤ 3 ∧ f.group.toNat ≤ 9 ∧
    (f.cutBack = 0 ∨ 10 ≤ f.cutBack.toNat ∧ f.cutBack.toNat ≤ 100) ∧ f.direction.toNat ≤ 1 ∧ f.level.toNat ≤ 1

/-- The suppression group of a code (Table 7-5). -/
def namedGroup (b : Byte) : Group :=
  ([.none, .kilnStopped, .coolerAtRest, .burnerNotFiring, .lineShut 0, .lineShut 1, .lineShut 2, .lineShut 3,
    .lineShut 4, .lineShut 5] : List Group).getD b.toNat .none

theorem byte_eq_zero_iff (b : Byte) : b = 0#8 ↔ b.toNat = 0 :=
  ⟨fun h => by rw [h]; rfl, fun h => BitVec.eq_of_toNat_eq h⟩

theorem classOfCode_iff {b : Byte} {c : PointClass} : classOfCode b = some c ↔ c.ctorIdx = b.toNat := by
  constructor
  · unfold classOfCode
    split
    case h_5 => exact nofun
    all_goals
      rintro ⟨⟩
      simp_all [PointClass.ctorIdx]
  · intro place
    rw [classOfCode, ← place]
    cases c <;> rfl

theorem classOfCode_some {b : Byte} (h : b.toNat ≤ 3) : ∃ c, classOfCode b = some c := by
  unfold classOfCode
  split
  case h_5 => grind
  all_goals exact ⟨_, rfl⟩

theorem PointClass.place_le (c : PointClass) : c.ctorIdx ≤ 3 := by
  cases c <;> decide

theorem groupOfCode_some {b : Byte} (h : b.toNat ≤ 9) : groupOfCode b = some (namedGroup b) := by
  unfold groupOfCode namedGroup
  split
  case h_11 => grind
  all_goals simp_all

theorem groupOfCode_ranges {b : Byte} {g : Group} (named : groupOfCode b = some g) : b.toNat ≤ 9 := by
  unfold groupOfCode at named
  split at named
  case h_11 => exact absurd named nofun
  all_goals omega

theorem coded_some {n : Nat} {b : Byte} (h : b.toNat < n) : coded n b = some ⟨b.toNat, h⟩ := dif_pos h

theorem cutBackInRange_iff (b : Byte) :
    cutBackInRange b.toNat = true ↔ b = 0#8 ∨ 10 ≤ b.toNat ∧ b.toNat ≤ 100 := by
  simp [cutBackInRange, inRange, byte_eq_zero_iff]

theorem configurableDef_some {f : AlarmFields} {source : PointSource} (formed : pointSource f = some source)
    (common : alarmCommon f) :
    ∃ d, configurableDef f = some d ∧ d.source = source ∧ d.group = namedGroup f.group ∧ d.onDelay = f.onDelay.toNat ∧
      d.offDelay = f.offDelay.toNat := by
  obtain ⟨onDelay, offDelay, cls, group, cutBack, -, -⟩ := common
  obtain ⟨c, named⟩ := classOfCode_some cls
  refine ⟨⟨source, c, f.onDelay.toNat, f.offDelay.toNat, namedGroup f.group, f.cutBack.toNat⟩, ?_, rfl, rfl, rfl, rfl⟩
  simp only [configurableDef, formed, named, groupOfCode_some group, onDelay, offDelay, (cutBackInRange_iff _).2 cutBack,
    decide_true, Bool.and_self, if_true]

theorem pointSource_analog {f : AlarmFields} {c : Fin 32} (source : f.source = 0) (signal : f.signal.toNat = c.val + 1)
    (deadband : f.deadband.toNat ≤ 32767) (common : alarmCommon f) :
    pointSource f = some (.analog c f.limit.toInt (decide (f.direction = 0)) f.deadband.toNat) := by
  obtain ⟨-, -, -, -, -, direction, level⟩ := common
  simp only [pointSource, source, coded_some (Nat.lt_succ_of_le direction), coded_some (Nat.lt_succ_of_le level),
    numbered_eq signal, deadband, Option.bind_some, if_true]
  simp [byte_eq_zero_iff]

theorem pointSource_discrete {f : AlarmFields} {n : Fin 24} (source : f.source = 1) (signal : f.signal.toNat = n.val + 1)
    (common : alarmCommon f) : pointSource f = some (.discrete n (decide (f.level = 0))) := by
  obtain ⟨-, -, -, -, -, direction, level⟩ := common
  simp only [pointSource, source, coded_some (Nat.lt_succ_of_le direction), coded_some (Nat.lt_succ_of_le level),
    numbered_eq signal]
  simp [byte_eq_zero_iff]

/-- What a source that is accepted names. -/
theorem pointSource_ranges {f : AlarmFields} {source : PointSource} (formed : pointSource f = some source) :
    f.direction.toNat ≤ 1 ∧ f.level.toNat ≤ 1 ∧
      (f.source.toNat = 0 ∧ 1 ≤ f.signal.toNat ∧ f.signal.toNat ≤ 32 ∧ f.deadband.toNat ≤ 32767 ∨
        f.source.toNat = 1 ∧ 1 ≤ f.signal.toNat ∧ f.signal.toNat ≤ 24) := by
  unfold pointSource at formed
  split at formed
  case h_1 number direction level =>
    simp only [coded, Option.dite_none_right_eq_some, numbered] at direction level formed
    grind
  case h_2 number direction level =>
    simp only [coded, Option.dite_none_right_eq_some, numbered] at direction level formed
    grind
  case h_3 => exact absurd formed nofun

theorem configurableDef_ranges {f : AlarmFields} {d : PointDef} (accepted : configurableDef f = some d) :
    alarmCommon f ∧ pointSource f = some d.source ∧ d.cls.ctorIdx = f.cls.toNat ∧ d.cutBack = f.cutBack.toNat := by
  unfold configurableDef at accepted
  split at accepted
  case h_1 source cls group formed named grouped =>
    obtain ⟨direction, level, -⟩ := pointSource_ranges formed
    rw [classOfCode_iff] at named
    obtain ⟨ranges, rfl⟩ := Option.ite_none_right_eq_some.1 accepted |>.imp id Option.some.inj
    simp only [Bool.and_eq_true, decide_eq_true_eq, cutBackInRange_iff] at ranges
    obtain ⟨⟨onDelay, offDelay⟩, cutBack⟩ := ranges
    exact ⟨⟨onDelay, offDelay, named ▸ cls.place_le, groupOfCode_ranges grouped, cutBack, direction, level⟩, formed, named,
      rfl⟩
  case h_2 => exact absurd accepted nofun

/-- A fixed point takes its class and its cut-back, each within R141's limits, and nothing else. -/
theorem fixedDef_some_iff {i : Fin 96} {f : AlarmFields} {d : PointDef} :
    fixedDef i f = some d ↔
      ∃ c : PointClass, c.ctorIdx = f.cls.toNat ∧ d = { PointDef.fixed c with cutBack := f.cutBack.toNat } ∧
        (if i.val + 1 ∈ [5, 8, 10, 15] then c.ctorIdx ≤ 1 else c = PointDef.table[i].cls) ∧
        (if i.val + 1 = 5 ∨ i.val + 1 = 15 then f.cutBack = 0#8 ∨ 10 ≤ f.cutBack.toNat ∧ f.cutBack.toNat ≤ 100
          else f.cutBack = 0#8) := by
  have classOk (c : PointClass) :
      (if i.val + 1 = 5 || i.val + 1 = 8 || i.val + 1 = 10 || i.val + 1 = 15 then decide (c = .urgent) || decide (c = .trip)
          else decide (c = PointDef.table[i.val].cls)) = true ↔
        if i.val + 1 ∈ [5, 8, 10, 15] then c.ctorIdx ≤ 1 else c = PointDef.table[i].cls := by
    have low : c.ctorIdx ≤ 1 ↔ c = .urgent ∨ c = .trip := by cases c <;> decide
    simp only [low, List.mem_cons, List.not_mem_nil, or_false, Bool.or_eq_true, decide_eq_true_eq, or_assoc]
    split <;> simp
  have cutOk :
      (if i.val + 1 = 5 || i.val + 1 = 15 then cutBackInRange f.cutBack.toNat else decide (f.cutBack.toNat = 0)) = true ↔
        if i.val + 1 = 5 ∨ i.val + 1 = 15 then f.cutBack = 0#8 ∨ 10 ≤ f.cutBack.toNat ∧ f.cutBack.toNat ≤ 100
          else f.cutBack = 0#8 := by
    simp only [Bool.or_eq_true, decide_eq_true_eq]
    split
    · exact cutBackInRange_iff _
    · simp [byte_eq_zero_iff]
  unfold fixedDef
  simp only [← classOk, ← cutOk, ← classOfCode_iff]
  split
  case h_1 c named =>
    rw [Option.ite_none_right_eq_some, Bool.and_eq_true]
    constructor
    · rintro ⟨⟨cls, cut⟩, eq⟩
      exact ⟨c, named, (Option.some.inj eq).symm, cls, cut⟩
    · rintro ⟨c', named', rfl, cls, cut⟩
      obtain rfl := Option.some.inj (named.symm.trans named')
      exact ⟨⟨cls, cut⟩, rfl⟩
  case h_2 unnamed =>
    simp only [unnamed]
    exact ⟨nofun, fun ⟨_, named, _⟩ => absurd named nofun⟩

theorem fixedDef_isSome_iff {i : Fin 96} {f : AlarmFields} :
    (fixedDef i f).isSome = true ↔
      ∃ c : PointClass, c.ctorIdx = f.cls.toNat ∧
        (if i.val + 1 ∈ [5, 8, 10, 15] then c.ctorIdx ≤ 1 else c = PointDef.table[i].cls) ∧
        (if i.val + 1 = 5 ∨ i.val + 1 = 15 then f.cutBack = 0#8 ∨ 10 ≤ f.cutBack.toNat ∧ f.cutBack.toNat ≤ 100
          else f.cutBack = 0#8) := by
  rw [Option.isSome_iff_exists]
  simp only [fixedDef_some_iff]
  exact ⟨fun ⟨_, c, named, _, rest⟩ => ⟨c, named, rest⟩, fun ⟨c, named, rest⟩ => ⟨_, c, named, rfl, rest⟩⟩

theorem exists_class_le {n : Nat} : (∃ c : PointClass, c.ctorIdx = n ∧ c.ctorIdx ≤ 1) ↔ n ≤ 1 := by
  constructor
  · rintro ⟨c, rfl, low⟩
    exact low
  · intro low
    obtain rfl | rfl : n = 0 ∨ n = 1 := by omega
    · exact ⟨.trip, rfl, by decide⟩
    · exact ⟨.urgent, rfl, by decide⟩

/-- An accepted definition holds the class and the cut-back that it was given (R141). -/
theorem pointDef_codes {i : Fin 96} {f : AlarmFields} {d : PointDef} (accepted : pointDef i f = some d) :
    d.cutBack = f.cutBack.toNat ∧ d.cls.ctorIdx = f.cls.toNat := by
  unfold pointDef at accepted
  split at accepted
  · obtain ⟨c, named, rfl, -⟩ := fixedDef_some_iff.1 accepted
    exact ⟨rfl, named⟩
  · obtain ⟨-, -, named, cutBack⟩ := configurableDef_ranges accepted
    exact ⟨cutBack, named⟩

/-! ### Schedule and clock (R157 to R159) -/

theorem scheduleOk_iff (times : List Nat) : scheduleOk times = true ↔ times.Pairwise (· < ·) ∧ ∀ t ∈ times, t ≤ 1439 := by
  rw [← List.isChain_iff_pairwise]
  fun_induction scheduleOk times with
  | case1 => simp
  | case2 a => simp
  | case3 a b rest ih =>
    rw [Bool.and_eq_true, ih, decide_eq_true_eq, List.isChain_cons_cons]
    constructor
    · rintro ⟨ab, chain, below⟩
      refine ⟨⟨ab, chain⟩, List.forall_mem_cons.2 ⟨?_, below⟩⟩
      exact (ab.trans_le (below b List.mem_cons_self)).le
    · rintro ⟨⟨ab, chain⟩, below⟩
      exact ⟨ab, chain, (List.forall_mem_cons.1 below).2⟩

/-- The calendar time that SET CLOCK carries. -/
def clockGiven (f : ClockFields) : DateTime :=
  { year := 2000 + f.year.toNat, month := f.month.toNat, day := f.day.toNat, hour := f.hour.toNat,
    minute := f.minute.toNat, second := f.second.toNat }

/-- The days of the month that SET CLOCK names. -/
def clockDays (f : ClockFields) : Nat :=
  let leap : Bool := f.year.toNat % 4 = 0
  if f.month = 2 then (if leap then 29 else 28)
  else if f.month = 4 ∨ f.month = 6 ∨ f.month = 9 ∨ f.month = 11 then 30 else 31

/-- SET CLOCK carries a date of the calendar. -/
def clockInside (f : ClockFields) : Prop :=
  f.year.toNat ≤ 99 ∧ 1 ≤ f.month.toNat ∧ f.month.toNat ≤ 12 ∧ 1 ≤ f.day.toNat ∧ f.day.toNat ≤ clockDays f ∧
    f.hour.toNat ≤ 23 ∧ f.minute.toNat ≤ 59 ∧ f.second.toNat ≤ 59

theorem daysIn_clock (f : ClockFields) : daysIn (2000 + f.year.toNat) f.month.toNat = clockDays f := by
  have leap : (2000 + f.year.toNat) % 4 = f.year.toNat % 4 := by omega
  simp only [daysIn, clockDays, leap, ← BitVec.toNat_inj, Bool.or_eq_true, decide_eq_true_eq, or_assoc]
  rfl

theorem clockTime_eq (f : ClockFields) [Decidable (clockInside f)] :
    clockTime f = if clockInside f then some (clockGiven f) else none := by
  unfold clockTime
  refine if_congr ?_ rfl rfl
  simp only [daysIn_clock, inRange, Bool.and_eq_true, decide_eq_true_eq, and_assoc, clockInside]
  omega

end Sys2Proof.Machine

open Sys2Proof Sys2Proof.Machine

/-- Settles O19. -/
theorem coolerSettingsWritten : Obligations.CoolerSettingsWritten := by
  classical
  intro s tag f ready unlocked
  have decided : decision (.setCooler tag f) s.taken =
      match coolerSettings f with
      | some c => (s.taken.modCooler fun k => k.withSettings c).settle.done []
      | none => s.taken.refuse .badValue := if_neg (by rw [State.locked, unlocked]; decide)
  rw [coolerSettings_eq] at decided
  refine ⟨fun inside => ?_, fun outside => exec_refused rfl ready (decided.trans ?_)⟩
  · rw [if_pos (show coolerInside f from inside)] at decided
    have eq := s.taken.cooler.withSettings_eq (coolerWritten f)
    refine ⟨_, exec_done rfl ready decided, s.taken.modCooler_sameBut _ (List.mem_singleton_self _), ?_, fun k => ?_, ?_,
      fun changed runs m mean => ?_, fun kept => ?_⟩
    all_goals dsimp only [State.modCooler]
    · rw [eq]
    · rw [eq]
      simp [coolerWritten]
    · rw [eq]
      rfl
    · exact Cooler.withSettings_bed_formed ((bedChanged_iff _ (coolerWritten f)).2 changed) runs mean
    · refine Cooler.withSettings_bed_kept (kept.imp_left fun same => ?_)
      rw [Bool.eq_false_iff, ne_eq, bedChanged_iff]
      exact same
  · rw [if_neg (show ¬coolerInside f from outside)]

/-- Settles O23. -/
theorem alarmDefinitionRanges : Obligations.AlarmDefinitionRanges := by
  intro i f
  refine ⟨fun configurable => ?_, fun fixed d accepted => ?_, fun mixed => ?_, fun trip => ?_, fun fixed plain => ?_⟩
  · have eq : pointDef i f = configurableDef f := if_neg (Nat.not_lt.2 configurable)
    rw [eq]
    refine ⟨fun c source signal deadband common => configurableDef_some
      (pointSource_analog source signal deadband common) common,
      fun n source signal common => configurableDef_some (pointSource_discrete source signal common) common,
      fun outside => ?_, fun source outside => ?_, fun source outside => ?_⟩
    all_goals
      rw [Option.eq_none_iff_forall_ne_some]
      intro d accepted
      obtain ⟨common, formed, -⟩ := configurableDef_ranges accepted
      obtain ⟨-, -, named⟩ := pointSource_ranges formed
    · obtain outside | above := outside
      · exact outside common
      · omega
    · bv_omega
    · bv_omega
  · rw [pointDef, if_pos fixed, fixedDef_some_iff] at accepted
    obtain ⟨c, -, rfl, -⟩ := accepted
    exact ⟨rfl, rfl, rfl, rfl⟩
  · have selectable : i.val + 1 ∈ [5, 8, 10, 15] := by simp only [List.mem_cons]; omega
    rw [pointDef, if_pos (by omega), fixedDef_isSome_iff]
    simp only [if_pos selectable, if_pos mixed, ← and_assoc, exists_and_right, exists_class_le]
    rfl
  · have selectable : i.val + 1 ∈ [5, 8, 10, 15] := by simp only [List.mem_cons]; omega
    rw [pointDef, if_pos (by omega), fixedDef_isSome_iff]
    simp only [if_pos selectable, if_neg (show ¬(i.val + 1 = 5 ∨ i.val + 1 = 15) by omega), ← and_assoc, exists_and_right,
      exists_class_le]
    rfl
  · have uncut : ¬(i.val + 1 = 5 ∨ i.val + 1 = 15) := by
      simp only [List.mem_cons] at plain
      omega
    rw [pointDef, if_pos fixed, fixedDef_isSome_iff]
    simp only [if_neg plain, if_neg uncut]
    constructor
    · rintro ⟨c, named, rfl, cut⟩
      exact ⟨named.symm, cut⟩
    · rintro ⟨named, cut⟩
      exact ⟨_, named.symm, rfl, cut⟩

/-- Settles O22. -/
theorem alarmDefined : Obligations.AlarmDefined := by
  intro s tag point f ready
  refine ⟨fun outside => exec_refused rfl ready ?_, fun i number unlocked => ?_⟩
  · change decideDefine point f s.taken = _
    rw [decideDefine, numbered_none outside]
  have decided : decision (.defineAlarm tag point f) s.taken =
      if s.taken.alarm.points[i.val].state ≠ .disabled then s.taken.refuse .busy
      else
        match pointDef i f with
        | some d => (s.taken.modPoint i fun p => { p with defn := d }).done []
        | none => s.taken.refuse .badValue := by
    change decideDefine point f s.taken = _
    rw [decideDefine, numbered_eq number]
    exact if_neg (by rw [State.locked, unlocked]; decide)
  refine ⟨fun enabled => exec_refused rfl ready (decided.trans (if_pos enabled)), fun disabled => ?_⟩
  replace decided := decided.trans (if_neg (not_not.2 disabled))
  refine ⟨fun none => exec_refused rfl ready (decided.trans ?_),
    fun d formed => ⟨exec_done rfl ready (decided.trans ?_), ?_⟩⟩
  · rw [none]
  · rw [formed]
    rfl
  · exact pointDef_codes formed

/-- Settles O24. -/
theorem alarmSettingsWritten : Obligations.AlarmSettingsWritten := by
  intro s tag threshold silence window ready unlocked
  have decided : decision (.setAlarm tag threshold window silence) s.taken =
      if inRange 5 50 threshold.toNat && inRange 10 600 window.toNat && silence.toNat ≤ 60 then
        (s.taken.setAlarm threshold.toNat window.toNat silence.toNat).settle.done []
      else s.taken.refuse .badValue := if_neg (by rw [State.locked, unlocked]; decide)
  simp only [inRange, Bool.and_eq_true, decide_eq_true_eq, and_assoc] at decided
  refine ⟨fun inside => ⟨_, exec_done rfl ready (decided.trans (if_pos inside)), ?_, rfl, ?_⟩,
    fun outside => exec_refused rfl ready (decided.trans (if_neg outside))⟩
  · exact (s.taken.modAlarm_sameBut _ (by decide)).trans (State.modLink_sameBut _ _ (by decide))
  · refine ⟨fun off => ?_, fun on old => ?_, fun on old => ?_⟩
    all_goals simp only [State.setAlarm, State.modAlarm, State.modLink, Link.silenceSet]
    · simp [off]
    · simp_all [byte_eq_zero_iff]
    · simp_all [byte_eq_zero_iff]

/-- Settles O25. -/
theorem scheduleAndClock : Obligations.ScheduleAndClock := by
  classical
  intro s tag ready
  refine ⟨fun times => ⟨fun outside => exec_refused rfl ready ?_, fun unlocked low high => ?_⟩, fun f => ?_⟩
  · change decideSetSchedule (times.map BitVec.toNat) s.taken = _
    rw [decideSetSchedule, if_pos (by simpa using outside)]
  · have decided : decision (.setSchedule tag times) s.taken =
        if scheduleOk (times.map BitVec.toNat) then
          (s.taken.modShift fun h => { h with schedule := times.map BitVec.toNat }).done []
        else s.taken.refuse .badValue := by
      change decideSetSchedule (times.map BitVec.toNat) s.taken = _
      rw [decideSetSchedule, if_neg (by simp only [List.length_map, Bool.or_eq_true, decide_eq_true_eq]; omega)]
      exact if_neg (by rw [State.locked, unlocked]; decide)
    simp only [scheduleOk_iff, List.forall_mem_map] at decided
    exact ⟨fun inside => exec_done rfl ready (decided.trans (if_pos inside)),
      fun outside => exec_refused rfl ready (decided.trans (if_neg outside))⟩
  · have decided : decision (.setClock tag f) s.taken =
        match clockTime f with
        | none => s.taken.refuse .badValue
        | some d =>
          ((s.taken.addEvent (.clockSet s.taken.shift.calendar d)).modShift fun h =>
            { h with clock := some (d, s.taken.floorTime + 1000) }).done [] := rfl
    rw [clockTime_eq] at decided
    refine ⟨fun inside => ?_, fun outside => exec_refused rfl ready (decided.trans ?_)⟩
    · rw [if_pos (show clockInside f from inside)] at decided
      refine ⟨_, exec_done rfl ready decided,
        (s.taken.addEvent_sameBut _ (by decide)).trans (State.modShift_sameBut _ _ (by decide)), ?_, fun space => ?_,
        fun full => ?_⟩
      · simp only [State.addEvent, State.modShift, clockGiven]
        split <;> rfl
      · simp [State.addEvent, State.modShift, space, Shift.calendar, clockGiven]
      · simp [State.addEvent, State.modShift, Nat.not_lt.2 full, add32, max32]
    · rw [if_neg (show ¬clockInside f from outside)]

end

section
/-! The burner's requests and state changes (Chapter 1): the return to IDLE, RESET LOCKOUT, START PURGE and the permissives.
-/

set_option Elab.async false

namespace Sys2Proof.Machine

open Sys2Proof

/-! ### Updates of one entry of a table -/

theorem upd_same {α : Type} {n : Nat} {v : Vector α n} {i : Fin n} {f : α → α} (same : f v[i.val] = v[i.val]) :
    upd v i f = v := by
  rw [upd, same, Vector.set_getElem_self]

theorem upd_upd {α : Type} {n : Nat} (v : Vector α n) (i : Fin n) (f g : α → α) :
    upd (upd v i f) i g = upd v i fun x => g (f x) := by
  simp [upd]

theorem upd_congr {α : Type} {n : Nat} {v : Vector α n} {i : Fin n} {f g : α → α} (same : f v[i.val] = g v[i.val]) :
    upd v i f = upd v i g := by
  rw [upd, upd, same]

/-! ### Commanding a valve -/

theorem State.commandValve_burner_update (s : State) (b : Burner) (v : Fin 7) (toOpen : Bool) :
    ({ s with burner := b } : State).commandValve v toOpen = { s.commandValve v toOpen with burner := b } := by
  unfold State.commandValve
  split <;> rfl

/-- What commanding a valve makes of the field unit depends on the field unit and the time only. -/
theorem State.commandValve_field_congr {s t : State} (field : s.field = t.field) (time : s.floorTime = t.floorTime)
    (v : Fin 7) (toOpen : Bool) : (s.commandValve v toOpen).field = (t.commandValve v toOpen).field := by
  simp only [State.commandValve, field]
  split
  · exact field
  · simp only [State.modField, field, time]

theorem State.commandValve_sameBut {bs : List Block} (s : State) (v : Fin 7) (toOpen : Bool) (named : .field ∈ bs) :
    SameBut bs s (s.commandValve v toOpen) :=
  .of_other named fun b other => by cases b <;> simp_all [Block.Same]

/-! ### Notices that depend on one block only -/

theorem State.raise_attention_congr {s t : State} (same : s.attention = t.attention) (c : AttentionClass) :
    (s.raise c).attention = (t.raise c).attention := by
  simp only [State.raise, State.modAttention, same]

theorem State.addEvent_shift_congr {s t : State} (same : s.shift = t.shift) (time : s.floorTime = t.floorTime)
    (k : EventKind) : (s.addEvent k).shift = (t.addEvent k).shift := by
  simp only [State.addEvent, State.modShift, same, time]

/-! ### The return to IDLE -/

/-! ### The permissives (Table 1-4) -/

theorem State.p3_iff (s : State) :
    s.p3 = true ↔ ∀ i : Fin 96, s.alarm.points[i].defn.cls = .trip →
      s.alarm.points[i].state ≠ .raised ∧ s.alarm.points[i].state ≠ .acked := by
  rw [State.p3, vector_all_iff]
  simp [Point.holdsTrip, imp_iff_not_or]

theorem Burner.enter_idle (b : Burner) : b.enter .idle = b.rested .idle := rfl

theorem State.toIdle_eq (s : State) (reason : StopReason) : s.toIdle reason = s.wentIdle reason := by
  simp only [State.toIdle, State.wentIdle, State.burnerTo, State.modBurner, State.commandValve_burner_update,
    Burner.enter_idle]
  rfl

theorem State.wentIdle_burner (s : State) (reason : StopReason) :
    (s.wentIdle reason).burner = { s.burner.rested .idle with lastStop := some reason } := by
  simp only [State.wentIdle, State.addEvent_frame, State.raise_frame, State.commandValve_burner_update]

theorem State.wentIdle_actuators (s : State) (reason : StopReason) :
    (s.wentIdle reason).burner.actuators = s.burner.actuators := by
  rw [State.wentIdle_burner]
  rfl

theorem State.wentIdle_field (s : State) (reason : StopReason) :
    (s.wentIdle reason).field = (s.commandValve pv false).field := by
  simp only [State.wentIdle, State.addEvent_frame, State.raise_frame, State.commandValve_burner_update]

theorem State.wentIdle_attention (s : State) (reason : StopReason) :
    (s.wentIdle reason).attention = (s.raise .burner).attention := by
  simp only [State.wentIdle, State.addEvent_frame]
  exact State.raise_attention_congr (by simp) _

theorem State.wentIdle_shift (s : State) (reason : StopReason) :
    (s.wentIdle reason).shift = (s.addEvent (.idle reason)).shift :=
  State.addEvent_shift_congr (by simp) (by simp) _

theorem State.wentIdle_sameBut (s : State) (reason : StopReason) :
    SameBut [.burner, .field, .attention, .shift] s (s.wentIdle reason) := by
  rw [← State.toIdle_eq]
  intro b other
  cases b <;> simp_all [Block.Same]

theorem State.tripClaim_idle {s : State} (idle : s.burner.state = .idle) (point : Nat) : s.tripClaim point = s := by
  rw [State.tripClaim, idle]

theorem State.tripClaim_lockout {s : State} (locked : s.burner.state = .lockout) (point : Nat) :
    s.tripClaim point = { s with burner := { s.burner with claims := min 65535 (s.burner.claims + 1) } } := by
  rw [State.tripClaim, locked]
  rfl

/-! ### The end of actuator work (R30, R31) -/

theorem Attention.setFlags_twice (a : Attention) (c : ClassSet) :
    (a.setFlags (a.request ||| c) a.arm).setFlags ((a.setFlags (a.request ||| c) a.arm).request ||| c) a.arm =
      a.setFlags (a.request ||| c) a.arm := by
  simp only [Attention.setFlags, Attention.vector, BitVec.or_assoc, BitVec.or_self]
  cases a.owed <;> cases (a.request &&& a.arm == 0#8) <;> simp

/-- A request that is raised again is raised once. -/
theorem State.raise_raise (s : State) (c : AttentionClass) : (s.raise c).raise c = s.raise c :=
  congrArg (fun a => ({ s with attention := a } : State)) (s.attention.setFlags_twice c.set)

theorem State.setOwners_burner (s : State) (o : Owner) :
    (s.setOwners o).burner =
      { s.burner with actuators := mapAt s.burner.actuators fun _ a => { a with owner := o } } := rfl

theorem State.setOwners_actuator (s : State) (o : Owner) (a : Fin 2) :
    (s.setOwners o).burner.actuators[a] = { s.burner.actuators[a] with owner := o } :=
  mapAt_get _ _ _ a.isLt

/-- An actuator whose work in progress, if any, has ended unverified with an outcome (R29, R30). -/
def Actuator.workEnded (r : Actuator) (o : WorkOutcome) : Actuator :=
  if r.motion = .still then r
  else
    { r with
      verify := .unverified, mismatchHeld := false, motion := .still, dueAt := none, lastOutcome := some o,
      owner := if r.owner = .operator then .none else r.owner }

theorem State.endWork_burner (s : State) (a : Fin 2) (o : WorkOutcome) :
    (s.endWork a o).burner = { s.burner with actuators := upd s.burner.actuators a fun r => r.workEnded o } := by
  unfold State.endWork
  split
  next still => rw [upd_same (f := fun r : Actuator => r.workEnded o) (if_pos still)]
  next moving =>
    simp only [State.completeWork, State.raise_frame, State.modActuator, State.modBurner, upd_upd]
    refine congrArg (fun v : Vector Actuator 2 => { s.burner with actuators := v }) (upd_congr ?_)
    exact (if_neg moving).symm

theorem State.endWork_raise (s : State) (a : Fin 2) (o : WorkOutcome) :
    ((s.endWork a o).raise .burner).attention = (s.raise .burner).attention := by
  unfold State.endWork
  split
  · rfl
  · calc
      _ = ((s.raise .burner).raise .burner).attention := State.raise_attention_congr rfl _
      _ = (s.raise .burner).attention := by rw [State.raise_raise]

theorem State.abortWork_raise (s : State) : (s.abortWork.raise .burner).attention = (s.raise .burner).attention :=
  (State.endWork_raise _ 1 _).trans (State.endWork_raise _ 0 _)

theorem Actuator.workEnded_aborted (r : Actuator) (o : Owner) :
    { r.workEnded .aborted with owner := o } = r.aborted o := by
  unfold Actuator.workEnded Actuator.aborted
  split <;> rfl

theorem State.abortWork_setOwners_burner (s : State) (o : Owner) :
    (s.abortWork.setOwners o).burner =
      { s.burner with actuators := (s.abortWork.setOwners o).burner.actuators } := by
  simp only [State.setOwners_burner, State.abortWork, allActuators, List.foldl_cons, List.foldl_nil, State.endWork_burner]

theorem State.abortWork_setOwners_actuator (s : State) (o : Owner) (a : Fin 2) :
    (s.abortWork.setOwners o).burner.actuators[a] = s.burner.actuators[a].aborted o := by
  rw [State.setOwners_actuator, ← Actuator.workEnded_aborted]
  simp only [State.abortWork, allActuators, List.foldl_cons, List.foldl_nil, State.endWork_burner]
  fin_cases a <;> simp [upd]

end Sys2Proof.Machine

open Sys2Proof Sys2Proof.Machine

/-- Settles O26. -/
theorem lockoutReset : Obligations.LockoutReset := by
  intro s tag ready
  have permissives : (s.taken.p2 && s.taken.p3) = true ↔
      s.taken.di 0 = false ∧ ∀ i : Fin 96, s.taken.alarm.points[i].defn.cls = .trip →
        s.taken.alarm.points[i].state ≠ .raised ∧ s.taken.alarm.points[i].state ≠ .acked := by
    simp [State.p2, State.p3_iff]
  refine ⟨fun other => exec_refused rfl ready (if_neg other), fun locked unmet => exec_refused rfl ready ?_,
    fun f locked first met => ?_⟩
  · exact (if_pos locked).trans (if_neg (mt permissives.1 unmet))
  have decided : decision (.resetLockout tag) s.taken = s.taken.leaveLockout.settle.done [] :=
    (if_pos locked).trans (if_pos (permissives.2 met))
  refine ⟨_, exec_done rfl ready decided, ?_, ?_, fun a => ?_, ?_, ?_, ?_, ?_, fun point => ?_⟩
  · intro b other
    cases b <;> simp_all [Block.Same]
  all_goals rw [State.leaveLockout, State.toIdle_eq]
  · rw [State.wentIdle_burner, State.setOwners_burner]
    simp only [State.modBurner, first]
    rfl
  · rw [State.wentIdle_actuators]
    exact State.setOwners_actuator _ _ _
  · rw [State.wentIdle_field]
    refine State.commandValve_field_congr ?_ ?_ _ _ <;> rfl
  · rw [State.wentIdle_attention]
    exact State.raise_attention_congr rfl _
  · rw [State.wentIdle_shift]
    exact State.addEvent_shift_congr rfl rfl _
  · simp only [State.fixedCondition, State.wentIdle_burner]
    rfl
  · refine ⟨?_, ?_⟩
    · exact State.tripClaim_idle (by rw [State.wentIdle_burner]; rfl) point
    · exact State.tripClaim_lockout locked point

end

section
/-! The air register actuators (R25 to R31): what a move, a home, a settle and their ends make of the actuator record. -/

set_option Elab.async false

namespace Sys2Proof.Machine

open Sys2Proof

/-! ### The record of one actuator -/

theorem State.modActuator_modActuator (s : State) (a : Fin 2) (f g : Actuator → Actuator) :
    (s.modActuator a f).modActuator a g = s.modActuator a fun r => g (f r) := by
  simp only [State.modActuator, State.modBurner, upd_upd]

theorem State.modActuator_congr {s : State} {a : Fin 2} {f g : Actuator → Actuator}
    (same : f s.burner.actuators[a.val] = g s.burner.actuators[a.val]) : s.modActuator a f = s.modActuator a g := by
  simp only [State.modActuator, State.modBurner, upd_congr same]

/-- The record of an actuator whose move to a target has begun (R28). -/
def Actuator.movedTo (r : Actuator) (now rate target : Nat) : Actuator :=
  let r := { r.unverify with target := some target }
  if r.position = some target then { r with motion := .settling, dueAt := some (now + Config.moveSettle) }
  else
    { r with
      motion := .moving, dueAt := some (now + stepTime rate),
      direction := if (r.position.getD 0) < target then Config.awayLevel else !Config.awayLevel }

theorem State.startMove_eq (s : State) (a : Fin 2) (target : Nat) :
    s.startMove a target =
      s.modActuator a fun r => r.movedTo s.floorTime s.burner.cfg.stepRate[a.val] target := rfl

/-- The record of an actuator whose home has begun with its switch not active (R27). -/
def Actuator.homeBegun (r : Actuator) (now rate : Nat) : Actuator :=
  { r.unverify with
    position := none, target := none, motion := .homing, homeSteps := 0,
    dueAt := some (now + stepTime rate), direction := !Config.awayLevel }

/-- The host's claim ends with its work (R26). -/
def Owner.released (o : Owner) : Owner := if o = .operator then .none else o

theorem Owner.released_of_ne_sequence {o : Owner} (free : o ≠ .sequence) : o.released = .none := by
  cases o
  · rfl
  · rfl
  · exact absurd rfl free

/-- The record of an actuator whose work has completed with an outcome (R26, R31). -/
def Actuator.completed (r : Actuator) (o : WorkOutcome) : Actuator :=
  { r with motion := .still, dueAt := none, lastOutcome := some o, owner := r.owner.released }

theorem State.completeWork_eq (s : State) (a : Fin 2) (o : WorkOutcome) :
    s.completeWork a o = (s.modActuator a fun r => r.completed o).raise .burner := rfl

/-- The record of an actuator whose home switch has been seen (R27). -/
def Actuator.homed (r : Actuator) : Actuator :=
  { r with position := some 0, target := some 0, verify := .verified, homeFault := false, mismatchHeld := false }.completed
    .done

/-- The home switch is seen: the work completes, and in PURGE the sequence goes on to 400 (R10, R27). -/
theorem State.homeDone_eq (s : State) (a : Fin 2) :
    s.homeDone a =
      if s.burner.state = .purge ∧ s.burner.actuators[a.val].owner = .sequence then
        ((s.modActuator a Actuator.homed).raise .burner).startMove a 400
      else (s.modActuator a Actuator.homed).raise .burner := by
  have owner : ((s.modActuator a Actuator.homed).raise .burner).burner.actuators[a.val].owner = .sequence ↔
      s.burner.actuators[a.val].owner = .sequence := by
    simp only [State.raise_frame, State.modActuator, State.modBurner, upd_get_self, Actuator.homed, Actuator.completed,
      Owner.released]
    split <;> simp_all
  simp only [State.homeDone, State.completeWork_eq, State.modActuator_modActuator, Bool.and_eq_true, decide_eq_true_eq]
  exact if_congr (and_congr_right fun _ => owner) rfl rfl

theorem State.startHome_far {s : State} {a : Fin 2} (far : s.di (homeOf a) = false) :
    s.startHome a = s.modActuator a fun r => r.homeBegun s.floorTime s.burner.cfg.stepRate[a.val] :=
  if_neg (fun near => absurd (far.symm.trans near) Bool.false_ne_true)

theorem State.startHome_near {s : State} {a : Fin 2} (near : s.di (homeOf a) = true) :
    s.startHome a =
      (s.modActuator a fun r => r.homeBegun s.floorTime s.burner.cfg.stepRate[a.val]).homeDone a := if_pos near

/-! ### The host's requests (R26, R29) -/

theorem State.endWork_eq {s : State} {a : Fin 2} (working : s.burner.actuators[a.val].motion ≠ .still) (o : WorkOutcome) :
    s.endWork a o =
      (s.modActuator a fun r =>
        { r with
          verify := .unverified, mismatchHeld := false, motion := .still, dueAt := none, lastOutcome := some o,
          owner := r.owner.released }).raise .burner := by
  rw [State.endWork, if_neg working, State.completeWork_eq, State.modActuator_modActuator]
  rfl

/-- The end of work that is not the sequence's frees the actuator. -/
theorem State.endWork_host {s : State} {a : Fin 2} (working : s.burner.actuators[a.val].motion ≠ .still)
    (free : s.burner.actuators[a.val].owner ≠ .sequence) (o : WorkOutcome) :
    s.endWork a o =
      (s.modActuator a fun r =>
        { r with
          motion := .still, dueAt := none, verify := .unverified, mismatchHeld := false, lastOutcome := some o,
          owner := .none }).raise .burner := by
  rw [State.endWork_eq working]
  refine congrArg (fun u : State => u.raise .burner) (State.modActuator_congr ?_)
  rw [Owner.released_of_ne_sequence free]

theorem State.actuatorRefusal_eq (s : State) (a : Fin 2) :
    s.actuatorRefusal a =
      if s.burner.actuators[a.val].owner = .sequence ∨ s.burner.state = .lockout then some .notPermitted
      else if s.burner.actuators[a.val].motion = .still then none else some .busy := by
  simp only [State.actuatorRefusal, Bool.or_eq_true, decide_eq_true_eq, ne_eq, ite_not]

section
variable {s : State} {n : Byte} {a : Fin 2} {st : Status}

theorem decideHome_claims (number : coded 2 n = some a) (claims : s.actuatorRefusal a = none) :
    decideHome n s = ((s.claimForHost a).startHome a).settle.accepted := by
  rw [decideHome, number]
  simp only [claims]

theorem decideMove_unknown (number : coded 2 n = some a) (claims : s.actuatorRefusal a = none)
    (unknown : s.burner.actuators[a.val].position = none) {target : Nat} :
    decideMove n target s = s.refuse .notPermitted := by
  rw [decideMove, number]
  simp only [claims, unknown]

theorem decideMove_known (number : coded 2 n = some a) (claims : s.actuatorRefusal a = none) {p : Nat}
    (known : s.burner.actuators[a.val].position = some p) {target : Nat} :
    decideMove n target s =
      if target ≤ Config.actuatorOpen then ((s.claimForHost a).startMove a target).settle.accepted
      else s.refuse .badValue := by
  rw [decideMove, number]
  simp only [claims, known]

theorem decideStep_unknown (number : coded 2 n = some a) (claims : s.actuatorRefusal a = none)
    (unknown : s.burner.actuators[a.val].position = none) {count : Int} :
    decideStep n count s = s.refuse .notPermitted := by
  rw [decideStep, number]
  simp only [claims, unknown]

theorem decideStep_leads (number : coded 2 n = some a) (claims : s.actuatorRefusal a = none) {p q : Nat}
    (known : s.burner.actuators[a.val].position = some p) {count : Int} (leads : stepTarget p count = some q) :
    decideStep n count s = ((s.claimForHost a).startMove a q).settle.accepted := by
  rw [decideStep, number]
  simp only [claims, known, leads]

theorem decideStep_outside (number : coded 2 n = some a) (claims : s.actuatorRefusal a = none) {p : Nat}
    (known : s.burner.actuators[a.val].position = some p) {count : Int} (outside : stepTarget p count = none) :
    decideStep n count s = s.refuse .badValue := by
  rw [decideStep, number]
  simp only [claims, known, outside]

theorem decideStopActuator_named (number : coded 2 n = some a)
    (free : ¬(s.burner.actuators[a.val].owner = .sequence ∨ s.burner.state = .lockout)) :
    decideStopActuator n s =
      if s.burner.actuators[a.val].motion = .still then s.done [] else (s.endWork a .stopped).settle.done [] := by
  rw [decideStopActuator, number]
  exact if_neg (by simpa using free)

theorem decideHome_refused (number : coded 2 n = some a) (refused : s.actuatorRefusal a = some st) :
    decideHome n s = s.refuse st := by
  rw [decideHome, number]
  simp only [refused]

theorem decideMove_refused (number : coded 2 n = some a) (refused : s.actuatorRefusal a = some st) (target : Nat) :
    decideMove n target s = s.refuse st := by
  rw [decideMove, number]
  simp only [refused]

theorem decideStep_refused (number : coded 2 n = some a) (refused : s.actuatorRefusal a = some st) (count : Int) :
    decideStep n count s = s.refuse st := by
  rw [decideStep, number]
  simp only [refused]

end

theorem stepTarget_none {p : Nat} {count : Int}
    (outside : count = 0 ∨ 50 < count.natAbs ∨ (p : Int) + count < 0 ∨ 400 < (p : Int) + count) : stepTarget p count =
      none := by
  rw [stepTarget, if_neg]
  simp only [Config.actuatorOpen]
  omega

theorem stepTarget_some {p q : Nat} {count : Int} (given : count ≠ 0) (small : count.natAbs ≤ 50)
    (leads : (q : Int) = (p : Int) + count) (within : q ≤ 400) : stepTarget p count = some q := by
  rw [stepTarget, if_pos (by simp only [Config.actuatorOpen]; omega), ← leads, Int.toNat_natCast]

end Sys2Proof.Machine

open Sys2Proof Sys2Proof.Machine

/-- Settles O32. -/
theorem actuatorRequests : Obligations.ActuatorRequests := by
  intro s tag ready
  refine ⟨fun n count target above => ?_, fun n count target a number => ⟨fun barred => ?_, fun free busy => ?_,
    fun free still => ?_⟩⟩
  · have unknown : coded 2 n = none := dif_neg (Nat.not_lt.2 above)
    refine ⟨exec_refused rfl ready ?_, exec_refused rfl ready ?_, exec_refused rfl ready ?_, exec_refused rfl ready ?_⟩
    · change decideHome n s.taken = _
      rw [decideHome, unknown]
    · change decideMove n target.toNat s.taken = _
      rw [decideMove, unknown]
    · change decideStep n count.toInt s.taken = _
      rw [decideStep, unknown]
    · change decideStopActuator n s.taken = _
      rw [decideStopActuator, unknown]
  all_goals have named : coded 2 n = some a := (dif_pos (by omega)).trans (congrArg some (Fin.ext number))
  · have refusal : s.taken.actuatorRefusal a = some .notPermitted :=
      (s.taken.actuatorRefusal_eq a).trans (if_pos barred)
    refine ⟨⟨exec_refused rfl ready (decideHome_refused named refusal),
      exec_refused rfl ready (decideMove_refused named refusal _),
      exec_refused rfl ready (decideStep_refused named refusal _)⟩, exec_refused rfl ready ?_⟩
    change decideStopActuator n s.taken = _
    rw [decideStopActuator, named]
    exact if_pos (by simpa using barred)
  · have refusal : s.taken.actuatorRefusal a = some .busy :=
      (s.taken.actuatorRefusal_eq a).trans ((if_neg free).trans (if_neg busy))
    refine ⟨⟨exec_refused rfl ready (decideHome_refused named refusal),
      exec_refused rfl ready (decideMove_refused named refusal _),
      exec_refused rfl ready (decideStep_refused named refusal _)⟩, exec_done rfl ready ?_⟩
    refine (decideStopActuator_named named free).trans ((if_neg busy).trans ?_)
    rw [State.endWork_host busy fun owned => free (.inl owned)]
    rfl
  · have refusal : s.taken.actuatorRefusal a = none :=
      (s.taken.actuatorRefusal_eq a).trans ((if_neg free).trans (if_pos still))
    refine ⟨exec_done rfl ready ((decideStopActuator_named named free).trans (if_pos still)),
      fun far => exec_accepted rfl ready ((decideHome_claims named refusal).trans ?_),
      fun near => exec_accepted rfl ready ((decideHome_claims named refusal).trans ?_),
      fun unknown => ⟨exec_refused rfl ready (decideMove_unknown named refusal unknown),
        exec_refused rfl ready (decideStep_unknown named refusal unknown)⟩,
      fun p known => ⟨fun above => exec_refused rfl ready ((decideMove_known named refusal known).trans
        (if_neg (Nat.not_le.2 above))),
      fun within => exec_accepted rfl ready ((decideMove_known named refusal known).trans ((if_pos within).trans ?_)),
      fun outside => exec_refused rfl ready (decideStep_outside named refusal known
        (stepTarget_none (outside.imp_left fun zero => by rw [zero]; rfl))),
      fun given small q leads within => exec_accepted rfl ready
        ((decideStep_leads named refusal known (stepTarget_some (fun zero => given (BitVec.toInt_inj.1 zero)) small leads
          within)).trans ?_)⟩⟩
    · rw [State.startHome_far (s := s.taken.claimForHost a) far, State.claimForHost, State.modActuator_modActuator]
      rfl
    · rw [State.startHome_near (s := s.taken.claimForHost a) near, State.claimForHost, State.modActuator_modActuator,
        State.homeDone_eq, if_neg]
      · rw [State.modActuator_modActuator]
        rfl
      · simp [State.modActuator, State.modBurner, Actuator.homeBegun, Actuator.unverify]
    · rw [State.claimForHost, State.startMove_eq, State.modActuator_modActuator]
      rfl
    · rw [State.claimForHost, State.startMove_eq, State.modActuator_modActuator]
      rfl

end

section
/-! The work of the actuators (R25 to R31): steps, the end of a home and of a settle, and what the sequence makes of them. -/

set_option Elab.async false

namespace Sys2Proof.Machine

open Sys2Proof

/-! ### Events that settle -/

/-- An event that is due takes its effect, settles and sends what it owes. -/
theorem next_settled {s v : State} (live : s.resetRun = none) {happens : Bool} (due : happens = true) {f : State → State}
    (leaves : f s = v) :
    (Host.Outcome.next (s.eventIf happens fun s => (f s).settle) : Result) = .next v.settle.pump := by
  rw [State.eventIf_live live due, leaves]

theorem isDue_some {t now : Nat} (past : t ≤ now) : isDue (some t) now = true := decide_eq_true past

/-! ### The end of a sequence (R11, R12) -/

theorem State.setOwners_attention (s : State) (o : Owner) : (s.setOwners o).attention = s.attention := rfl

theorem State.sequenceEnd_eq (s : State) (reason : StopReason) :
    s.sequenceEnd reason = (s.abortWork.setOwners .none).wentIdle reason := State.toIdle_eq _ _

theorem State.sequenceEnd_burner (s : State) (reason : StopReason) :
    (s.sequenceEnd reason).burner =
      { s.burner.rested .idle with lastStop := some reason, actuators := (s.sequenceEnd reason).burner.actuators } := by
  rw [State.sequenceEnd_eq, State.wentIdle_burner, State.abortWork_setOwners_burner]
  rfl

theorem State.sequenceEnd_actuator (s : State) (reason : StopReason) (a : Fin 2) :
    (s.sequenceEnd reason).burner.actuators[a] = s.burner.actuators[a].aborted .none := by
  rw [State.sequenceEnd_eq, State.wentIdle_actuators, State.abortWork_setOwners_actuator]

theorem State.sequenceEnd_field (s : State) (reason : StopReason) :
    (s.sequenceEnd reason).field = (s.commandValve pv false).field := by
  rw [State.sequenceEnd_eq, State.wentIdle_field]
  exact State.commandValve_field_congr (by simp) (by simp) _ _

theorem State.sequenceEnd_attention (s : State) (reason : StopReason) :
    (s.sequenceEnd reason).attention = (s.raise .burner).attention := by
  rw [State.sequenceEnd_eq, State.wentIdle_attention, ← s.abortWork_raise]
  exact State.raise_attention_congr (State.setOwners_attention _ _) _

theorem State.sequenceEnd_shift (s : State) (reason : StopReason) :
    (s.sequenceEnd reason).shift = (s.addEvent (.idle reason)).shift := by
  rw [State.sequenceEnd_eq, State.wentIdle_shift]
  exact State.addEvent_shift_congr (by simp) (by simp) _

theorem State.sequenceEnd_sameBut (s : State) (reason : StopReason) :
    SameBut [.burner, .field, .attention, .shift] s (s.sequenceEnd reason) := by
  intro b other
  cases b <;> simp_all [Block.Same]

/-! ### The end of work -/

theorem State.modActuator_sameBut {bs : List Block} (s : State) (a : Fin 2) (f : Actuator → Actuator)
    (named : .burner ∈ bs) : SameBut bs s (s.modActuator a f) := s.modBurner_sameBut _ named

theorem State.modActuator_self (s : State) (a : Fin 2) (f : Actuator → Actuator) :
    (s.modActuator a f).burner.actuators[a] = f s.burner.actuators[a] := upd_get_self _ _ _

theorem State.modActuator_other (s : State) {a b : Fin 2} (other : b ≠ a) (f : Actuator → Actuator) :
    (s.modActuator a f).burner.actuators[b] = s.burner.actuators[b] := upd_get_ne _ _ _ _ other.symm

/-- An update of one record gives it the value that it has there. -/
theorem State.modActuator_const (s : State) (a : Fin 2) (f : Actuator → Actuator) :
    s.modActuator a f = s.modActuator a fun _ => f s.burner.actuators[a] := State.modActuator_congr rfl

/-- The record of an actuator whose home has failed (R27). -/
def Actuator.homeLost (r : Actuator) : Actuator :=
  { r with position := none, verify := .unverified, homeFault := true }.completed .fault

theorem State.homeFailed_eq (s : State) (a : Fin 2) :
    s.homeFailed a =
      ((s.modActuator a fun _ => s.burner.actuators[a].homeLost).raise .burner).sequenceFault := by
  rw [State.homeFailed, State.completeWork_eq, State.modActuator_modActuator, State.modActuator_const]
  rfl

theorem State.sequenceFault_outside {s : State} (outside : ¬(s.burner.state = .purge ∨ s.burner.state = .prepare)) :
    s.sequenceFault = s := if_neg (by simpa using outside)

theorem State.sequenceFault_inside {s : State} (inside : s.burner.state = .purge ∨ s.burner.state = .prepare) :
    s.sequenceFault = s.sequenceEnd .actuatorFault := if_pos (by simpa using inside)

/-- The record of an actuator whose settle has ended (R28). -/
def Actuator.settledAs (r : Actuator) (verify : Verify) (outcome : WorkOutcome) : Actuator :=
  { r with verify := verify, mismatchHeld := false }.completed outcome

theorem State.proves_iff (s : State) {a : Fin 2} {p : Nat} (position : s.burner.actuators[a].position = some p) :
    proves (s.ai (feedbackOf a)) (s.burner.actuators[a.val].position.getD 0) s.burner.cfg.tolerance[a.val] = true ↔
      (s.ai (feedbackOf a)).quality = .good ∧
        ((s.ai (feedbackOf a)).value - (p : Int)).natAbs ≤ s.burner.cfg.tolerance[a] := by
  rw [Fin.getElem_fin] at position
  simp [proves, position]

theorem State.settled_proven {s : State} {a : Fin 2} {p : Nat} (position : s.burner.actuators[a].position = some p)
    (proven : (s.ai (feedbackOf a)).quality = .good ∧
      ((s.ai (feedbackOf a)).value - (p : Int)).natAbs ≤ s.burner.cfg.tolerance[a]) :
    s.settled a =
      (let t := (s.modActuator a fun _ => s.burner.actuators[a].settledAs .verified .done).raise .burner
       if s.burner.state = .prepare ∧ t.bothVerified = true then t.toIgnition else t) := by
  have ok := s.proves_iff position |>.2 proven
  simp only [State.settled, ok, if_true, State.completeWork_eq, State.modActuator_modActuator]
  rw [State.modActuator_const]
  simp only [Bool.and_eq_true, decide_eq_true_eq]
  rfl

theorem State.settled_unproven {s : State} {a : Fin 2} {p : Nat} (position : s.burner.actuators[a].position = some p)
    (unproven : ¬((s.ai (feedbackOf a)).quality = .good ∧
      ((s.ai (feedbackOf a)).value - (p : Int)).natAbs ≤ s.burner.cfg.tolerance[a])) :
    s.settled a =
      ((s.modActuator a fun _ => s.burner.actuators[a].settledAs .mismatch .fault).raise .burner).sequenceFault := by
  have bad := Bool.eq_false_iff.2 fun ok => unproven (s.proves_iff position |>.1 ok)
  simp only [State.settled, bad, Bool.false_eq_true, if_false, State.completeWork_eq, State.modActuator_modActuator]
  rw [State.modActuator_const]
  rfl

theorem State.bothVerified_iff (s : State) :
    s.bothVerified = true ↔ ∀ b : Fin 2, s.burner.actuators[b].motion = .still ∧ s.burner.actuators[b].verify = .verified
      := by
  rw [State.bothVerified, vector_all_iff]
  simp only [Bool.and_eq_true, decide_eq_true_eq]

/-! ### Steps -/

theorem Actuator.stepDue_moving {r : Actuator} {t now : Nat} (moving : r.motion = .moving) (timer : r.dueAt = some t)
    (past : t ≤ now) : r.stepDue now = true := by
  simp [Actuator.stepDue, moving, timer, isDue, past]

theorem Actuator.stepDue_homing {r : Actuator} {t now : Nat} (homing : r.motion = .homing) (below : r.homeSteps < 440)
    (timer : r.dueAt = some t) (past : t ≤ now) : r.stepDue now = true := by
  simp [Actuator.stepDue, homing, timer, isDue, past, Config.homeLimit, below]

/-- Both actuators stand VERIFIED after one's record has become `w`. -/
theorem State.bothVerified_with (s : State) (a : Fin 2) (w : Actuator) :
    ((s.modActuator a fun _ => w).raise .burner).bothVerified = true ↔
      (w.motion = .still ∧ w.verify = .verified) ∧
        ∀ b : Fin 2, b ≠ a → s.burner.actuators[b].motion = .still ∧ s.burner.actuators[b].verify = .verified := by
  have self := s.modActuator_self a fun _ => w
  have others (b : Fin 2) (other : b ≠ a) := s.modActuator_other other fun _ => w
  refine (State.bothVerified_iff _).trans ⟨fun both => ⟨self ▸ both a, fun b other => others b other ▸ both b⟩, ?_⟩
  rintro ⟨own, rest⟩ b
  by_cases same : b = a
  · subst same
    exact (congrArg (fun r : Actuator => r.motion = .still ∧ r.verify = .verified) self).mpr own
  · exact (congrArg (fun r : Actuator => r.motion = .still ∧ r.verify = .verified) (others b same)).mpr (rest b same)

/-! ### Entry into IGNITION (R12, R13) -/

theorem State.burnerTo_burner (s : State) (st : BurnerState) : (s.burnerTo st).burner = s.burner.enter st := by
  simp [State.burnerTo]

theorem State.toIgnition_burner (s : State) :
    s.toIgnition.burner =
      { (s.setOwners .none).burner.enter .ignition with
        ignitionTrialAt := some (s.floorTime + s.burner.cfg.ignitionTrial * 1000) } := by
  simp only [State.toIgnition, State.addEvent_frame, State.raise_frame, State.modBurner, State.burnerTo_burner]
  rfl

theorem State.toIgnition_actuator (s : State) (a : Fin 2) :
    s.toIgnition.burner.actuators[a] = { s.burner.actuators[a] with owner := .none } := by
  rw [State.toIgnition_burner]
  exact s.setOwners_actuator _ _

theorem State.toIgnition_attention (s : State) : s.toIgnition.attention = (s.raise .burner).attention := by
  rw [State.toIgnition]
  simp only [State.addEvent_frame]
  exact State.raise_attention_congr (by simp) _

theorem State.toIgnition_shift (s : State) : s.toIgnition.shift = (s.addEvent .ignition).shift :=
  State.addEvent_shift_congr (by simp) (by simp) _

theorem State.toIgnition_valveOpen (s : State) : s.toIgnition.valveOpen pv = true := by
  simp [State.toIgnition, BurnerState.pilotOpen]

theorem State.toIgnition_sameBut (s : State) : SameBut [.burner, .field, .attention, .shift] s s.toIgnition := by
  intro b other
  cases b <;> simp_all [Block.Same]

theorem Actuator.limitReached_of {r : Actuator} (homing : r.motion = .homing) (limit : 440 ≤ r.homeSteps) :
    r.limitReached = true := by
  simp [Actuator.limitReached, homing, limit, Config.homeLimit]

theorem Actuator.settleDue_of {r : Actuator} {t now : Nat} (settling : r.motion = .settling) (timer : r.dueAt = some t)
    (past : t ≤ now) : r.settleDue now = true := by
  simp [Actuator.settleDue, settling, timer, isDue, past]

theorem Actuator.stepped_homing {r : Actuator} (homing : r.motion = .homing) (now rate : Nat) :
    r.stepped now rate = { r with homeSteps := r.homeSteps + 1, dueAt := some (now + 1000 / rate) } := by
  rw [Actuator.stepped, homing]
  rfl

theorem Actuator.stepped_moving {r : Actuator} {p q : Nat} (moving : r.motion = .moving) (position : r.position = some p)
    (target : r.target = some q) (now rate : Nat) :
    r.stepped now rate =
      if (if p < q then p + 1 else p - 1) = q then
        { r with
          position := some (if p < q then p + 1 else p - 1), motion := .settling, dueAt := some (now + 500) }
      else { r with position := some (if p < q then p + 1 else p - 1), dueAt := some (now + 1000 / rate) } := by
  simp only [Actuator.stepped, moving, position, target]
  rfl

/-- The sequence's work on actuator `a` has ended FAULT in `v`, its record then `w` but for the owner (R11, R12, R31). -/
def State.Faulted (s : State) (a : Fin 2) (v : State) (w : Actuator) : Prop :=
  v.burner.state = .idle ∧ v.burner.lastStop = some .actuatorFault ∧
    v.burner.actuators[a] = { w with owner := .none } ∧
    (∀ b : Fin 2, b ≠ a → v.burner.actuators[b] = s.burner.actuators[b].aborted .none) ∧
    v.shift = (s.addEvent (.idle .actuatorFault)).shift ∧ v.attention = (s.raise .burner).attention

theorem State.faulted_of_sequence (s : State) (a : Fin 2) {w : Actuator} (still : w.motion = .still) :
    SameBut [.burner, .field, .attention, .shift] s
        ((s.modActuator a fun _ => w).raise .burner |>.sequenceEnd .actuatorFault) ∧
      s.Faulted a ((s.modActuator a fun _ => w).raise .burner |>.sequenceEnd .actuatorFault) w := by
  refine ⟨?_, ?_, ?_, ?_, fun b other => ?_, ?_, ?_⟩
  · exact (s.modActuator_sameBut a _ (by decide)).trans
      ((State.raise_sameBut _ _ (by decide)).trans (State.sequenceEnd_sameBut _ _))
  · rw [State.sequenceEnd_burner]
    rfl
  · rw [State.sequenceEnd_burner]
  · rw [State.sequenceEnd_actuator]
    exact (congrArg (Actuator.aborted · .none) (s.modActuator_self a fun _ => w)).trans (if_pos still)
  · rw [State.sequenceEnd_actuator]
    exact congrArg (Actuator.aborted · .none) (s.modActuator_other other fun _ => w)
  · rw [State.sequenceEnd_shift]
    exact State.addEvent_shift_congr rfl rfl _
  · rw [State.sequenceEnd_attention, State.raise_raise]
    rfl

end Sys2Proof.Machine

open Sys2Proof Sys2Proof.Machine

/-- Settles O33. -/
theorem actuatorWork : Obligations.ActuatorWork := by
  intro s a live
  refine ⟨fun t p q moving position target away timer past => ?_, fun t homing below timer past => ?_,
    fun homing limit => ⟨fun outside => ?_, fun inside => ?_⟩, fun t p settling position timer past =>
    ⟨fun proven other => ?_, fun proven prepare => ⟨fun both => ?_, fun wanting => ?_⟩, fun unproven outside => ?_,
    fun unproven inside => ?_⟩, State.watchHome_else, fun homing near => ⟨fun outside => ?_, fun purge owned => ?_⟩⟩
  · refine next_settled live (Actuator.stepDue_moving moving timer past) (State.modActuator_congr ?_)
    exact Actuator.stepped_moving moving position target _ _
  · refine next_settled live (Actuator.stepDue_homing homing below timer past) (State.modActuator_congr ?_)
    exact Actuator.stepped_homing homing _ _
  · refine next_settled live (Actuator.limitReached_of homing limit) ((s.homeFailed_eq a).trans ?_)
    exact State.sequenceFault_outside outside
  · have failed := (s.homeFailed_eq a).trans (State.sequenceFault_inside inside)
    exact ⟨_, next_settled live (Actuator.limitReached_of homing limit) failed, s.faulted_of_sequence a rfl⟩
  · refine next_settled live (Actuator.settleDue_of settling timer past) ((State.settled_proven position proven).trans ?_)
    exact if_neg fun both => other both.1
  · have verified : ((s.modActuator a fun _ => s.burner.actuators[a].settledAs .verified .done).raise
        .burner).bothVerified = true :=
      (s.bothVerified_with a _).2 ⟨⟨rfl, rfl⟩, both⟩
    refine ⟨_, next_settled live (Actuator.settleDue_of settling timer past)
      ((State.settled_proven position proven).trans (if_pos ⟨prepare, verified⟩)), ?_, ?_, ?_, ?_, ?_, ?_, ?_,
      fun b other => ?_, ?_, ?_⟩
    · exact (s.modActuator_sameBut a _ (by decide)).trans
        ((State.raise_sameBut _ _ (by decide)).trans (State.toIgnition_sameBut _))
    · rw [State.toIgnition_burner]
      rfl
    · rw [State.toIgnition_burner]
      rfl
    · rw [State.toIgnition_burner]
      rfl
    · exact State.toIgnition_valveOpen _
    · rw [State.toIgnition_burner]
      rfl
    · rw [State.toIgnition_actuator]
      exact congrArg (fun r : Actuator => { r with owner := .none }) (s.modActuator_self a fun _ => _)
    · rw [State.toIgnition_actuator]
      exact congrArg (fun r : Actuator => { r with owner := .none }) (s.modActuator_other other fun _ => _)
    · rw [State.toIgnition_shift]
      exact State.addEvent_shift_congr rfl rfl _
    · rw [State.toIgnition_attention, State.raise_raise]
      rfl
  · refine next_settled live (Actuator.settleDue_of settling timer past) ((State.settled_proven position proven).trans ?_)
    refine if_neg fun ⟨_, both⟩ => ?_
    obtain ⟨b, other, unready⟩ := wanting
    obtain ⟨still, verified⟩ := ((s.bothVerified_with a _).1 both).2 b other
    exact unready.elim (absurd still) (absurd verified)
  · refine next_settled live (Actuator.settleDue_of settling timer past)
      ((State.settled_unproven position unproven).trans ?_)
    exact State.sequenceFault_outside outside
  · have failed := (State.settled_unproven position unproven).trans (State.sequenceFault_inside inside)
    exact ⟨_, next_settled live (Actuator.settleDue_of settling timer past) failed, s.faulted_of_sequence a rfl⟩
  · rw [State.watchHome_done homing near outside, State.modActuator_const]
    rfl
  · rw [State.watchHome_purge homing near purge owned, State.modActuator_const]
    rw [Fin.getElem_fin] at owned
    simp only [Fin.getElem_fin, owned]
    rfl

end

section
/-! The burner's sequence: START PURGE and its permissives, STOP BURNER, the end of the purge and the pilot flame (R9 to
R18). -/

set_option Elab.async false

namespace Sys2Proof.Machine

open Sys2Proof

/-! ### A set of members as a byte (R176) -/

theorem bitSet_testBit (l : List Bool) (k : Nat) : (bitSet l).testBit k = l.getD k false := by
  induction l generalizing k with
  | nil => simp [bitSet]
  | cons b l ih =>
    have step : bitSet (b :: l) = Nat.bit b (bitSet l) := by
      rw [Nat.bit_val]
      rfl
    cases k with
    | zero => simp [step]
    | succ k => simp [step, Nat.testBit_bit_succ, ih]

theorem bitSet_getLsbD (l : List Bool) {k : Nat} (place : k < 8) :
    (BitVec.ofNat 8 (bitSet l)).getLsbD k = l.getD k false := by
  rw [BitVec.getLsbD_ofNat, bitSet_testBit, decide_eq_true place, Bool.true_and]

theorem b1_bitSet (l : List Bool) : b1 (bitSet l) = [BitVec.ofNat 8 (bitSet l)] := by
  simp [b1, beBytes]

/-! ### The permissives (Table 1-4) -/

/-- What each permissive asks for. -/
def State.permits (s : State) : Fin 8 → Prop
  | 0 => s.link.locks[0] = true ∧ s.link.locks[2] = true ∧ s.link.locks[4] = true ∧ s.link.locks[5] = true
  | 1 => s.di 0 = false
  | 2 => ∀ i : Fin 96, s.alarm.points[i].defn.cls = .trip →
      s.alarm.points[i].state ≠ .raised ∧ s.alarm.points[i].state ≠ .acked
  | 3 => ∀ v : Fin 7, s.di (closedLimit v) = true ∧ s.record (recordOfValve v) = .ok
  | 4 => s.di 1 = true
  | 5 => (s.ai 0).quality = .good ∧ 10 * (s.burner.cfg.purgeAir : Int) ≤ (s.ai 0).value
  | 6 => s.cooler.state = .running ∨ s.cooler.state = .surge
  | 7 => s.field.rotation.turning = true

theorem DiagState.unsound_iff (d : DiagState) : d.unsound = false ↔ d = .ok := by
  cases d <;> simp [DiagState.unsound]

theorem mem_allValves (v : Fin 7) : v ∈ allValves := by
  fin_cases v <;> decide

theorem State.p4_iff (s : State) :
    s.p4 = true ↔ ∀ v : Fin 7, s.di (closedLimit v) = true ∧ s.record (recordOfValve v) = .ok := by
  simp only [State.p4, List.all_eq_true, mem_allValves, true_implies, Bool.and_eq_true, Bool.not_eq_true',
    DiagState.unsound_iff]
  rfl

theorem State.permissives_iff (s : State) (k : Fin 8) : s.permissives.getD k.val false = true ↔ s.permits k := by
  fin_cases k
  · simp [State.permissives, State.permits, State.p1, State.locked, and_assoc]
  · simp [State.permissives, State.permits, State.p2]
  · exact s.p3_iff
  · exact s.p4_iff
  · exact Iff.rfl
  · simp [State.permissives, State.permits, State.p6]
  · simp [State.permissives, State.permits, State.p7]
  · exact Iff.rfl

theorem State.permissives_all (s : State) : s.permissives.all id = true ↔ ∀ k, s.permits k := by
  simp only [← State.permissives_iff]
  simp [State.permissives, Fin.forall_fin_succ]

theorem State.unmet_iff (s : State) (k : Fin 8) :
    (BitVec.ofNat 8 (bitSet (s.permissives.map not))).getLsbD k.val = true ↔ ¬s.permits k := by
  rw [bitSet_getLsbD _ k.isLt, ← State.permissives_iff]
  have within : k.val < s.permissives.length := k.isLt
  simp [List.getD_eq_getElem?_getD, List.getElem?_eq_getElem within]

theorem State.di_of_inputs {s t : State} (inputs : t.field.inputs = s.field.inputs) (n : Fin 24) : t.di n = s.di n := by
  rw [State.di, State.di, inputs]

/-! ### The purge's claim of an actuator (R10, R30) -/

/-- The record of an actuator that the purge has claimed, with its home switch as given (R10, R27, R28). -/
def Actuator.purged (r : Actuator) (near : Bool) (now rate : Nat) : Actuator :=
  if r.position = none then
    (if near then (r.homeBegun now rate).homed.movedTo now rate 400 else r.homeBegun now rate)
  else r.movedTo now rate 400

theorem State.claimForPurge_known {s : State} {a : Fin 2} (known : s.burner.actuators[a.val].position ≠ none) :
    s.claimForPurge a = s.startMove a 400 := by
  rw [State.claimForPurge, if_neg (by simpa using known)]
  rfl

theorem State.claimForPurge_unknown {s : State} {a : Fin 2} (unknown : s.burner.actuators[a.val].position = none) :
    s.claimForPurge a = s.startHome a := by
  rw [State.claimForPurge, if_pos (by simpa using unknown)]

theorem State.claimForPurge_burner {s : State} {a : Fin 2} (purge : s.burner.state = .purge)
    (owned : s.burner.actuators[a.val].owner = .sequence) :
    (s.claimForPurge a).burner =
      (s.modActuator a fun r => r.purged (s.di (homeOf a)) s.floorTime s.burner.cfg.stepRate[a.val]).burner := by
  by_cases unknown : s.burner.actuators[a.val].position = none
  · rw [State.claimForPurge_unknown unknown]
    cases near : s.di (homeOf a)
    · rw [State.startHome_far near]
      exact congrArg State.burner (State.modActuator_congr (if_pos unknown).symm)
    · have owner : (s.modActuator a fun r => r.homeBegun s.floorTime
        s.burner.cfg.stepRate[a.val]).burner.actuators[a].owner =
          .sequence := (congrArg Actuator.owner (s.modActuator_self a _)).trans owned
      rw [State.startHome_near near, State.homeDone_eq, if_pos ⟨purge, owner⟩, State.modActuator_modActuator]
      refine (congrArg State.burner (State.modActuator_modActuator s a _ _)).trans ?_
      exact congrArg State.burner (State.modActuator_congr (if_pos unknown).symm)
  · rw [State.claimForPurge_known unknown]
    exact congrArg State.burner (State.modActuator_congr (if_neg unknown).symm)

/-- What an operation that raises BURNER or leaves the flags makes of flags that already hold the request. -/
theorem State.raised_stays {s t u : State} (raised : t.attention = (s.raise .burner).attention)
    (step : u.attention = t.attention ∨ u.attention = (t.raise .burner).attention) :
    u.attention = (s.raise .burner).attention := by
  obtain same | again := step
  · exact same.trans raised
  · rw [again, State.raise_attention_congr raised, State.raise_raise]

theorem State.endWork_attention (s : State) (a : Fin 2) (o : WorkOutcome) :
    (s.endWork a o).attention = s.attention ∨ (s.endWork a o).attention = (s.raise .burner).attention := by
  unfold State.endWork
  split
  · exact .inl rfl
  · exact .inr rfl

theorem State.abortWork_eq (s : State) : s.abortWork = (s.endWork 0 .aborted).endWork 1 .aborted := rfl

theorem State.claimForPurge_attention (s : State) (a : Fin 2) :
    (s.claimForPurge a).attention = s.attention ∨ (s.claimForPurge a).attention = (s.raise .burner).attention := by
  by_cases unknown : s.burner.actuators[a.val].position = none
  · rw [State.claimForPurge_unknown unknown]
    cases near : s.di (homeOf a)
    · rw [State.startHome_far near]
      exact .inl rfl
    · rw [State.startHome_near near, State.homeDone_eq]
      split
      · exact .inr rfl
      · exact .inr rfl
  · rw [State.claimForPurge_known unknown]
    exact .inl rfl

section
variable {t : State} (purge : t.burner.state = .purge) (owned : ∀ a : Fin 2, t.burner.actuators[a].owner = .sequence)
include purge owned

/-- The purge's claims are made each on its own record. -/
theorem State.claimBoth :
    ((t.claimForPurge 0).claimForPurge 1).burner =
      ((t.modActuator 0 fun r =>
          r.purged (t.di (homeOf 0)) t.floorTime t.burner.cfg.stepRate[(0 : Fin 2)]).modActuator 1 fun r =>
        r.purged (t.di (homeOf 1)) t.floorTime t.burner.cfg.stepRate[(1 : Fin 2)]).burner := by
  have first := State.claimForPurge_burner purge (owned 0)
  have goesOn : (t.claimForPurge 0).burner.state = .purge := (congrArg Burner.state first).trans purge
  have other : (t.claimForPurge 0).burner.actuators[(1 : Fin 2)].owner = .sequence := by
    rw [first, t.modActuator_other (by decide)]
    exact owned 1
  have inputs : (t.claimForPurge 0).di (homeOf 1) = t.di (homeOf 1) := State.di_of_inputs (by simp) _
  have time : (t.claimForPurge 0).floorTime = t.floorTime := by simp
  rw [State.claimForPurge_burner goesOn other, inputs, time]
  simp only [State.modActuator, State.modBurner, first]
  rfl

theorem State.claimBoth_burner :
    ((t.claimForPurge 0).claimForPurge 1).burner =
      { t.burner with actuators := ((t.claimForPurge 0).claimForPurge 1).burner.actuators } := by
  rw [State.claimBoth purge owned]
  rfl

theorem State.claimBoth_actuator (a : Fin 2) :
    ((t.claimForPurge 0).claimForPurge 1).burner.actuators[a] =
      t.burner.actuators[a].purged (t.di (homeOf a)) t.floorTime t.burner.cfg.stepRate[a] := by
  rw [State.claimBoth purge owned]
  fin_cases a <;> simp [State.modActuator, State.modBurner, upd]

end

/-- The part when START PURGE has been accepted and no actuator has been claimed yet (R9). -/
def State.purgeEntered (s : State) : State :=
  let s :=
    ((s.burnerTo .purge).modBurner fun b =>
      { b with
        giveUpAt := some (s.floorTime + 3 * b.cfg.purgeTime * 1000), purgeSince := none, purgeStarted := false }).raise
      .burner
  s.modTotals fun t => { t with purgeStarts := add32 t.purgeStarts 1 }

theorem State.toPurge_eq (s : State) :
    s.toPurge = ((s.purgeEntered.abortWork.setOwners .sequence).claimForPurge 0).claimForPurge 1 := by
  simp only [State.toPurge, allActuators, List.foldl_cons, List.foldl_nil]
  rfl

theorem State.purgeEntered_burner (s : State) :
    s.purgeEntered.burner =
      { s.burner.enter .purge with
        giveUpAt := some (s.floorTime + 3 * s.burner.cfg.purgeTime * 1000), purgeSince := none, purgeStarted := false } := by
  simp only [State.purgeEntered, State.modTotals_frame, State.raise_frame, State.modBurner, State.burnerTo_burner]
  rfl

/-- The part when the purge has ended the work in progress and taken both actuators (R30). -/
def State.purgeOwned (s : State) : State := s.purgeEntered.abortWork.setOwners .sequence

theorem State.purgeOwned_burner (s : State) :
    s.purgeOwned.burner = { s.purgeEntered.burner with actuators := s.purgeOwned.burner.actuators } :=
  State.abortWork_setOwners_burner _ _

theorem State.purgeOwned_actuator (s : State) (a : Fin 2) :
    s.purgeOwned.burner.actuators[a] = s.burner.actuators[a].aborted .sequence := by
  refine (State.abortWork_setOwners_actuator _ _ _).trans ?_
  rw [State.purgeEntered_burner]
  rfl

theorem State.purgeOwned_state (s : State) : s.purgeOwned.burner.state = .purge := by
  rw [State.purgeOwned_burner, State.purgeEntered_burner]
  rfl

theorem Actuator.aborted_owner (r : Actuator) (o : Owner) : (r.aborted o).owner = o := by
  unfold Actuator.aborted
  split <;> rfl

theorem Actuator.aborted_position (r : Actuator) (o : Owner) : (r.aborted o).position = r.position := by
  unfold Actuator.aborted
  split <;> rfl

theorem State.purgeOwned_di (s : State) (n : Fin 24) : s.purgeOwned.di n = s.di n :=
  State.di_of_inputs (by simp [State.purgeOwned, State.purgeEntered]) n

theorem State.purgeOwned_floorTime (s : State) : s.purgeOwned.floorTime = s.floorTime := by
  simp [State.purgeOwned, State.purgeEntered]

theorem State.toPurge_eq_claims (s : State) : s.toPurge = (s.purgeOwned.claimForPurge 0).claimForPurge 1 := s.toPurge_eq

theorem State.toPurge_burner (s : State) :
    s.toPurge.burner =
      { s.burner.enter .purge with
        giveUpAt := some (s.floorTime + 3 * s.burner.cfg.purgeTime * 1000), purgeSince := none, purgeStarted := false,
        actuators := s.toPurge.burner.actuators } := by
  have owned (a : Fin 2) : s.purgeOwned.burner.actuators[a].owner = .sequence := by
    rw [State.purgeOwned_actuator, Actuator.aborted_owner]
  rw [State.toPurge_eq_claims, State.claimBoth_burner s.purgeOwned_state owned, State.purgeOwned_burner,
    State.purgeEntered_burner]

theorem State.toPurge_actuator (s : State) (a : Fin 2) :
    s.toPurge.burner.actuators[a] =
      (s.burner.actuators[a].aborted .sequence).purged (s.di (homeOf a)) s.floorTime s.burner.cfg.stepRate[a] := by
  have cfg : s.purgeOwned.burner.cfg = s.burner.cfg := by
    rw [State.purgeOwned_burner, State.purgeEntered_burner]
    rfl
  have owned (a : Fin 2) : s.purgeOwned.burner.actuators[a].owner = .sequence := by
    rw [State.purgeOwned_actuator, Actuator.aborted_owner]
  rw [State.toPurge_eq_claims, State.claimBoth_actuator s.purgeOwned_state owned, State.purgeOwned_actuator,
    State.purgeOwned_di, State.purgeOwned_floorTime, cfg]

theorem State.purgeEntered_attention (s : State) : s.purgeEntered.attention = (s.raise .burner).attention := by
  simp only [State.purgeEntered, State.modTotals_frame]
  exact State.raise_attention_congr (by simp) _

theorem State.toPurge_attention (s : State) : s.toPurge.attention = (s.raise .burner).attention := by
  have aborted : s.purgeEntered.abortWork.attention = (s.raise .burner).attention := by
    rw [State.abortWork_eq]
    exact State.raised_stays (State.raised_stays s.purgeEntered_attention (State.endWork_attention _ 0 _))
      (State.endWork_attention _ 1 _)
  have owned : s.purgeOwned.attention = (s.raise .burner).attention :=
    (State.setOwners_attention _ _).trans aborted
  rw [State.toPurge_eq_claims]
  exact State.raised_stays (State.raised_stays owned (State.claimForPurge_attention _ 0)) (State.claimForPurge_attention _ 1)

theorem State.toPurge_purgeStarts (s : State) :
    s.toPurge.shift.current.totals.purgeStarts = min 4294967295 (s.shift.current.totals.purgeStarts + 1) := by
  have same : s.toPurge.shift = s.purgeEntered.shift := by
    simp [State.toPurge_eq_claims, State.purgeOwned]
  rw [same]
  simp [State.purgeEntered, State.modTotals, State.modShift, add32, max32]

theorem State.toPurge_sameBut (s : State) : SameBut [.burner, .field, .attention, .shift] s s.toPurge := by
  intro b other
  cases b <;> simp_all [Block.Same]

/-! ### What the purge's claim starts (R10, R27, R28) -/

theorem Actuator.purged_far {r : Actuator} (unknown : r.position = none) (now rate : Nat) :
    r.purged false now rate = r.homeBegun now rate := if_pos unknown

theorem Actuator.purged_near {r : Actuator} (unknown : r.position = none) (now rate : Nat) :
    r.purged true now rate =
      { (r.homeBegun now rate).homed with
        target := some 400, verify := .unverified, motion := .moving, dueAt := some (now + 1000 / rate),
        direction := Config.awayLevel } := by
  rw [Actuator.purged, if_pos unknown]
  rfl

theorem Actuator.purged_known {r : Actuator} {p : Nat} (known : r.position = some p) (near : Bool) (now rate : Nat) :
    r.purged near now rate = r.movedTo now rate 400 := if_neg (by rw [known]; exact nofun)

theorem Actuator.movedTo_target (r : Actuator) (now rate target : Nat) :
    (r.movedTo now rate target).target = some target ∧ (r.movedTo now rate target).verify = .unverified ∧
      (r.movedTo now rate target).position = r.position ∧ (r.movedTo now rate target).owner = r.owner ∧
      (r.movedTo now rate target).motion = if r.position = some target then .settling else .moving := by
  by_cases there : r.position = some target <;> simp [Actuator.movedTo, Actuator.unverify, there]

theorem Actuator.purged_owner (r : Actuator) (near : Bool) (now rate : Nat) (owned : r.owner = .sequence) :
    (r.purged near now rate).owner = .sequence := by
  cases position : r.position with
  | some p =>
    rw [Actuator.purged_known position]
    exact (r.movedTo_target now rate 400).2.2.2.1.trans owned
  | none =>
    cases near
    · rw [Actuator.purged_far position]
      exact owned
    · rw [Actuator.purged_near position]
      simp [Actuator.homed, Actuator.completed, Actuator.homeBegun, Actuator.unverify, owned, Owner.released]

end Sys2Proof.Machine

open Sys2Proof Sys2Proof.Machine

/-- Settles O27. -/
theorem purgeStarted : Obligations.PurgeStarted := by
  intro s tag ready u met
  have same : met = u.permits := by
    funext k
    fin_cases k <;> rfl
  have refused {content : List Byte} (decided : decision (.startPurge tag) u = u.refuseWith .notPermitted content) :
      exec (.startPurge tag) s = .next (u.replied 0x04 tag .notPermitted content) := exec_ready rfl ready decided
  have begun (idle : u.burner.state = .idle) (all : ∀ k, u.permits k) :
      exec (.startPurge tag) s = .next (u.toPurge.settle.replied 0x04 tag .accepted []) :=
    exec_accepted rfl ready ((if_pos idle).trans (if_pos (u.permissives_all.2 all)))
  clear_value met
  subst same
  refine ⟨fun other => refused (if_neg other), fun idle unmet => ⟨_, u.unmet_iff, refused ?_⟩, fun idle all =>
    ⟨_, begun idle all, ?_⟩⟩
  · refine (if_pos idle).trans ((if_neg (mt u.permissives_all.1 unmet)).trans ?_)
    rw [b1_bitSet]
  clear begun refused
  clear_value u
  have burner := u.toPurge_burner
  have actuator := u.toPurge_actuator
  refine ⟨u.toPurge_sameBut, (congrArg Burner.state burner :), (congrArg Burner.purgeSince burner :),
    (congrArg Burner.purgeStarted burner :), (congrArg Burner.giveUpAt burner :), (congrArg Burner.cfg burner :),
    (congrArg Burner.lastStop burner :), (congrArg Burner.previous burner :), u.toPurge_attention, u.toPurge_purgeStarts,
    fun a => ?_, fun a unknown far => ?_, fun a unknown near => ?_, fun a p known => ?_⟩
  · rw [actuator]
    exact Actuator.purged_owner _ _ _ _ (Actuator.aborted_owner _ _)
  · rw [actuator, far, Actuator.purged_far ((Actuator.aborted_position _ _).trans unknown)]
    exact ⟨rfl, rfl, rfl⟩
  · rw [actuator, near, Actuator.purged_near ((Actuator.aborted_position _ _).trans unknown)]
    exact ⟨rfl, rfl, rfl, rfl, rfl, rfl, rfl⟩
  · have position := (Actuator.aborted_position u.burner.actuators[a] .sequence).trans known
    rw [actuator, Actuator.purged_known position]
    obtain ⟨target, verify, same, -, motion⟩ :=
      (u.burner.actuators[a].aborted .sequence).movedTo_target u.floorTime u.burner.cfg.stepRate[a] 400
    refine ⟨same.trans position, target, verify, motion.trans ?_⟩
    rw [position]
    simp only [Option.some.injEq]

end

section
/-! Attention requests that stay set (R150): what the operations of the fuel lines and of the burner keep of the request
flags. -/

set_option Elab.async false

namespace Sys2Proof.Machine

open Sys2Proof

/-- Every request that is set in `s` is set in `t`. -/
def Requests (s t : State) : Prop :=
  ∀ k : Nat, s.attention.request.getLsbD k = true → t.attention.request.getLsbD k = true

theorem AttentionClass.set_getLsbD (c : AttentionClass) : c.set.getLsbD c.ctorIdx = true := by
  cases c <;> decide

theorem State.raise_request (s : State) (c : AttentionClass) :
    (s.raise c).attention.request = s.attention.request ||| c.set := rfl

theorem State.raise_sets (s : State) (c : AttentionClass) : (s.raise c).attention.request.getLsbD c.ctorIdx = true := by
  rw [State.raise_request, BitVec.getLsbD_or, c.set_getLsbD, Bool.or_true]

namespace Requests

theorem refl (s : State) : Requests s s := fun _ => id

variable {s t u : State}

theorem trans (first : Requests s t) (second : Requests t u) : Requests s u := fun k set => second k (first k set)

variable (k : Requests s t)
include k

theorem of_same (same : u.attention = t.attention) : Requests s u := fun n set => by rw [same]; exact k n set

theorem foldl {α : Type} {f : State → α → State} (step : ∀ t a, Requests s t → Requests s (f t a)) (l : List α) :
    Requests s (l.foldl f t) := by
  induction l generalizing t with
  | nil => exact k
  | cons a l ih => exact ih (step t a k)

/-! ### Operations that raise, or leave the flags -/

theorem raise (c : AttentionClass) : Requests s (t.raise c) := fun n set => by
  rw [State.raise_request, BitVec.getLsbD_or, k n set, Bool.true_or]

theorem modLine (l : Fin 6) (f : Line → Line) : Requests s (t.modLine l f) := k

theorem addEvent (e : EventKind) : Requests s (t.addEvent e) := k.of_same (by simp)

theorem evaluate : Requests s t.evaluate := k.of_same (by simp)

theorem commandValve (v : Fin 7) (toOpen : Bool) : Requests s (t.commandValve v toOpen) := k.of_same (by simp)

theorem closeGate (l : Fin 6) : Requests s (t.closeGate l) := k.of_same (by simp)

theorem endHead (l : Fin 6) (outcome : OrderOutcome) : Requests s (t.endHead l outcome) := k.of_same (by simp)

theorem setReason (l : Fin 6) (r : Reason) : Requests s (t.setReason l r) := (k.modLine l _).raise .feed

theorem notice (l : Fin 6) (o : Order) : Requests s (t.notice l o) := by
  unfold State.notice
  split
  · split
    · exact k.modLine l _
    · exact (k.modLine l _).setReason l .completion
  · exact k

theorem queueReasons (l : Fin 6) : Requests s (t.queueReasons l) := by
  unfold State.queueReasons
  dsimp only
  split
  · split
    · exact (k.setReason l .lowWater).setReason l .empty
    · exact k.setReason l .lowWater
  · split
    · exact k.setReason l .empty
    · exact k

theorem retireHead (l : Fin 6) (outcome : OrderOutcome) : Requests s (t.retireHead l outcome) := by
  unfold State.retireHead
  split
  · exact k
  · exact ((k.endHead l outcome).notice l _).queueReasons l

theorem takeUp (l : Fin 6) (q : List Order) : Requests s (t.takeUp l q) := by
  induction q generalizing t with
  | nil => exact k
  | cons o rest ih =>
    unfold State.takeUp
    cases o.body with
    | context cv priority => exact ih (((k.modLine l _).evaluate.retireHead l .complete).addEvent _)
    | rate target ramp hold =>
      dsimp only
      split
      · split
        · exact ih ((k.modLine l _).evaluate.retireHead l .complete)
        · exact (k.modLine l _).evaluate
      · exact k
    | batch slots revs mass =>
      dsimp only
      split
      · split <;> exact k.of_same (by simp)
      · exact k

theorem completeHead (l : Fin 6) : Requests s (t.completeHead l) := ((k.retireHead l _).takeUp l _).evaluate

theorem closeShift (cause : CloseCause) (opens : OpenCause) (index : Nat) :
    Requests s (t.closeShift cause opens index) := by
  unfold State.closeShift
  dsimp only
  refine raise ?_ .shift
  split <;> exact k.of_same (by simp)

theorem deliver (l : Fin 6) (grams : Nat) : Requests s (t.deliver l grams) := by
  unfold State.deliver
  dsimp only
  split
  · exact (k.closeShift .request .request 0).of_same (by simp)
  · exact k.of_same (by simp)

theorem recordSlot (b : Fin 2) (z : SlotRecord) : Requests s (t.recordSlot b z) := k.of_same (by simp)

theorem abortSlot (l : Fin 6) : Requests s (t.abortSlot l) := by
  unfold State.abortSlot
  split
  · exact k
  · split
    · exact k
    · dsimp only
      refine recordSlot ?_ _ _
      split
      · exact (k.deliver l _).of_same rfl
      · exact k.of_same rfl

theorem rampEnd (l : Fin 6) : Requests s (t.rampEnd l) := (k.modLine l _).commandValve _ _

theorem beginShut (l : Fin 6) : Requests s (t.beginShut l) := by
  unfold State.beginShut
  dsimp only
  have ended := (((k.abortSlot l).modLine l fun r => r.enter .shutting).closeGate l).retireHead l .abortedShut
  refine evaluate ?_
  split
  · exact (ended.takeUp l _).rampEnd l
  · exact (ended.takeUp l _).modLine l _

theorem discardQueue (l : Fin 6) (notices : Bool) (q : List Order) : Requests s (t.discardQueue l notices q) := by
  induction q generalizing t with
  | nil => exact k
  | cons o rest ih =>
    unfold State.discardQueue
    dsimp only
    split
    · exact ih ((k.modLine l _).notice l o)
    · exact ih (k.modLine l _)

theorem tripLine (l : Fin 6) : Requests s (t.tripLine l) := by
  unfold State.tripLine
  dsimp only
  have shut := ((((k.abortSlot l).modLine l fun r => { r.enter .shut with requested := 0, shutRamp := none }).closeGate
    l).commandValve (svOf l) false).endHead l .abortedTrip
  have cleared (q : List Order) := (shut.discardQueue l false q).modLine l fun r => { r with noticeAt := none }
  split
  · split
    · exact (((cleared _).setReason l .completion).setReason l .state).addEvent _
    · exact ((cleared _).setReason l .state).addEvent _
  · split
    · exact (cleared _).setReason l .completion
    · exact cleared _

theorem endWork (a : Fin 2) (o : WorkOutcome) : Requests s (t.endWork a o) := by
  unfold State.endWork
  split
  · exact k
  · exact raise (k.of_same rfl) .burner

theorem abortWork : Requests s t.abortWork := by
  rw [State.abortWork_eq]
  exact (k.endWork 0 _).endWork 1 _

end Requests

end Sys2Proof.Machine
end

section
/-! STOP BURNER and the ends of the burner's sequence (R11, R12, R14, R17 to R20). -/

set_option Elab.async false

namespace Sys2Proof.Machine

open Sys2Proof

/-! ### A pass over the lines -/

/-- A pass that changes the state of each line alone, in turn, changes every line's so. -/
theorem foldl_updatesLine {f : State → Fin 6 → State} {g : LineState → LineState}
    (step : ∀ t l, (f t l).lineState = Function.update t.lineState l (g (t.lineState l))) (s : State) (l : Fin 6) :
    (allLines.foldl f s).lineState l = g (s.lineState l) := by
  simp only [allLines, List.foldl_cons, List.foldl_nil, step, Function.update_apply]
  fin_cases l <;> simp

/-! ### STOPPING (R18) -/

/-- The state of a line that STOP BURNER has shut (R18). -/
def LineState.stopped (st : LineState) : LineState := if st = .admitting ∨ st = .opened then .shutting else st

/-- STOP BURNER shuts a line that is ADMITTING or OPEN (R18). -/
def State.stopLine (s : State) (l : Fin 6) : State :=
  if s.lines[l.val].state = .admitting || s.lines[l.val].state = .opened then s.beginShut l else s

theorem State.toStopping_eq (s : State) :
    s.toStopping = allLines.foldl State.stopLine ((s.burnerTo .stopping).raise .burner).evaluate := rfl

theorem State.stopLine_lineState (s : State) (l : Fin 6) :
    (s.stopLine l).lineState = Function.update s.lineState l (s.lineState l).stopped := by
  by_cases live : s.lineState l = .admitting ∨ s.lineState l = .opened
  · rw [State.stopLine, if_pos (by simpa [State.lineState] using live), State.beginShut_lineState, LineState.stopped,
      if_pos live]
  · rw [State.stopLine, if_neg (by simpa [State.lineState] using live), LineState.stopped, if_neg live,
      Function.update_eq_self]

theorem State.stopLine_burner (s : State) (l : Fin 6) : (s.stopLine l).burner = s.burner := by
  unfold State.stopLine
  split
  · simp
  · rfl

theorem State.stopLine_pilotValve (s : State) (l : Fin 6) : (s.stopLine l).valveOpen pv = s.valveOpen pv := by
  unfold State.stopLine
  split
  · obtain same | closed := s.beginShut_valveOpen l
    · rw [same]
    · rw [closed, Function.update_of_ne (svOf_ne_pv l).symm]
  · rfl

theorem State.stopLine_requests {s t : State} (l : Fin 6) (k : Requests s t) : Requests s (t.stopLine l) := by
  unfold State.stopLine
  split
  · exact k.beginShut l
  · exact k

theorem State.toStopping_lineState (s : State) (l : Fin 6) : s.toStopping.lineState l = (s.lineState l).stopped := by
  rw [State.toStopping_eq, foldl_updatesLine State.stopLine_lineState]
  simp

theorem State.toStopping_burner (s : State) : s.toStopping.burner = s.burner.enter .stopping := by
  rw [State.toStopping_eq, foldl_burner _ State.stopLine_burner]
  simp [State.burnerTo_burner]

theorem State.toStopping_pilotValve (s : State) : s.toStopping.valveOpen pv = false := by
  have kept : ∀ t : State, (allLines.foldl State.stopLine t).valveOpen pv = t.valveOpen pv := by
    intro t
    simp only [allLines, List.foldl_cons, List.foldl_nil, State.stopLine_pilotValve]
  rw [State.toStopping_eq, kept]
  simp [BurnerState.pilotOpen]

theorem State.toStopping_request (s : State) : s.toStopping.attention.request.getLsbD 2 = true := by
  rw [State.toStopping_eq]
  generalize entered : ((s.burnerTo .stopping).raise .burner).evaluate = u
  have raised : u.attention.request.getLsbD 2 = true :=
    entered ▸ (Requests.refl ((s.burnerTo .stopping).raise .burner)).evaluate 2 (State.raise_sets _ .burner)
  have kept : Requests u (allLines.foldl State.stopLine u) :=
    (Requests.refl u).foldl (fun _ l k => State.stopLine_requests l k) allLines
  exact kept 2 raised

/-! ### STOP BURNER (Table 1-6) -/

theorem LineState.live_iff (st : LineState) : st.live = true ↔ st ≠ .shut ∧ st ≠ .fault := by
  cases st <;> decide

theorem State.anyLive_eq_false {s : State} (closed : ∀ l : Fin 6, s.lines[l].state = .shut ∨ s.lines[l].state = .fault) :
    s.anyLive = false := by
  rw [Bool.eq_false_iff, ne_eq, State.anyLive_iff]
  rintro ⟨l, live⟩
  obtain ⟨notShut, notFault⟩ := (LineState.live_iff _).1 live
  exact (closed l).elim notShut notFault

theorem State.anyLive_eq_true {s : State} (live : ∃ l : Fin 6, s.lines[l].state ≠ .shut ∧ s.lines[l].state ≠ .fault) :
    s.anyLive = true := by
  rw [State.anyLive_iff]
  exact live.imp fun l => (LineState.live_iff _).2

section
variable {s : State}

theorem decideStopBurner_refused (state : s.burner.state ∈ [.lockout, .idle, .stopping]) :
    decideStopBurner s = s.refuse .notPermitted := by
  simp only [List.mem_cons, List.not_mem_nil, or_false] at state
  obtain state | state | state := state <;> rw [decideStopBurner, state]

theorem decideStopBurner_sequence (state : s.burner.state ∈ [.purge, .prepare]) :
    decideStopBurner s = (s.sequenceEnd .stopRequest).settle.done [] := by
  simp only [List.mem_cons, List.not_mem_nil, or_false] at state
  obtain state | state := state <;> rw [decideStopBurner, state]

theorem decideStopBurner_pilot (state : s.burner.state ∈ [.ignition, .pilot]) :
    decideStopBurner s = (s.wentIdle .stopRequest).settle.done [] := by
  simp only [List.mem_cons, List.not_mem_nil, or_false] at state
  obtain state | state := state <;> rw [decideStopBurner, state, ← State.toIdle_eq]

theorem decideStopBurner_fuel (state : s.burner.state ∈ [.mainTrial, .mainFiring]) :
    decideStopBurner s =
      if s.anyLive then s.toStopping.settle.accepted else (s.wentIdle .stopRequest).settle.done [] := by
  simp only [List.mem_cons, List.not_mem_nil, or_false] at state
  obtain state | state := state <;> rw [decideStopBurner, state, ← State.toIdle_eq]

end

theorem Burner.due_of {b : Burner} {belongs : BurnerState → Bool} {timer : Option Nat} {t now : Nat}
    (state : belongs b.state = true) (runs : timer = some t) (past : t ≤ now) : b.due belongs timer now = true := by
  simp [Burner.due, state, runs, isDue, past]

end Sys2Proof.Machine

open Sys2Proof Sys2Proof.Machine

/-- Settles O29. -/
theorem burnerStops : Obligations.BurnerStops := by
  intro s sequenceEnded
  have ended (u : State) (reason : StopReason) : sequenceEnded u reason (u.sequenceEnd reason) :=
    ⟨u.sequenceEnd_sameBut reason, u.sequenceEnd_burner reason, u.sequenceEnd_actuator reason,
      u.sequenceEnd_field reason, u.sequenceEnd_attention reason, u.sequenceEnd_shift reason⟩
  refine ⟨fun tag ready => ⟨fun resting => ?_, fun sequence => ?_, fun pilot => ?_, fun fuel =>
    ⟨fun closed => ?_, fun live =>
    ?_⟩⟩, fun t live past => ⟨fun pilot timer => ?_, fun purge timer => ?_⟩, fun live => ?_, fun closed => ⟨fun firing => ?_,
    fun stopping => ?_, fun other stays => ?_⟩⟩
  · exact exec_refused rfl ready (decideStopBurner_refused resting)
  · exact ⟨_, exec_done rfl ready (decideStopBurner_sequence sequence), ended _ _⟩
  · exact exec_done rfl ready (decideStopBurner_pilot pilot)
  · refine exec_done rfl ready ((decideStopBurner_fuel fuel).trans ?_)
    rw [State.anyLive_eq_false closed]
    rfl
  · refine ⟨_, exec_accepted rfl ready ((decideStopBurner_fuel fuel).trans (if_pos (State.anyLive_eq_true live))), ?_⟩
    have burner := s.taken.toStopping_burner
    exact ⟨(congrArg Burner.state burner :), (congrArg Burner.firingRelay burner :), s.taken.toStopping_pilotValve,
      (congrArg Burner.mainTrialAt burner :), (congrArg Burner.rampFrom burner :), (congrArg Burner.ceiling burner :),
      s.taken.toStopping_request, s.taken.toStopping_lineState⟩
  · exact next_settled live (Burner.due_of (by rw [pilot]; rfl) timer past) (s.toIdle_eq _)
  · exact ⟨_, next_settled live (Burner.due_of (by rw [purge]; rfl) timer past) rfl, ended _ _⟩
  · refine State.watchLines_live (State.anyLive_eq_true (live.imp fun l state => ?_))
    obtain state | state | state := state <;> rw [state] <;> exact ⟨nofun, nofun⟩
  · exact State.watchLines_noFuel (State.anyLive_eq_false closed) firing
  · exact State.watchLines_stopped (State.anyLive_eq_false closed) stopping
  · exact State.watchLines_else other stays

end

section
/-! The end of the purge, the pilot flame, and the burner's timers that run on conditions (R10 to R14, R19, R20). -/

set_option Elab.async false

namespace Sys2Proof.Machine

open Sys2Proof

/-! ### The conditions of the timers -/

theorem State.p6_iff (s : State) :
    s.p6 = true ↔ (s.ai 0).quality = .good ∧ 10 * (s.burner.cfg.purgeAir : Int) ≤ (s.ai 0).value := by
  simp [State.p6]

theorem mem_allActuators (a : Fin 2) : a ∈ allActuators := by
  fin_cases a <;> decide

theorem State.registersOpen_iff (s : State) :
    s.registersOpen = true ↔
      ∀ a : Fin 2, s.burner.actuators[a].position = some 400 ∧ s.burner.actuators[a].verify = .verified := by
  simp only [State.registersOpen, List.all_eq_true, mem_allActuators, true_implies, Bool.and_eq_true, decide_eq_true_eq]
  rfl

theorem State.purgeCounts_iff (s : State) :
    s.purgeCounts = true ↔
      s.burner.state = .purge ∧ s.di 0 = false ∧
        (∀ v : Fin 7, s.di (closedLimit v) = true ∧ s.record (recordOfValve v) = .ok) ∧ s.di 1 = true ∧
        ((s.ai 0).quality = .good ∧ 10 * (s.burner.cfg.purgeAir : Int) ≤ (s.ai 0).value) ∧
        (s.cooler.state = .running ∨ s.cooler.state = .surge) ∧ s.field.rotation.turning = true ∧
        ∀ a : Fin 2, s.burner.actuators[a].position = some 400 ∧ s.burner.actuators[a].verify = .verified := by
  simp only [State.purgeCounts, Bool.and_eq_true, decide_eq_true_eq, State.p4_iff, State.p6_iff, State.registersOpen_iff,
    and_assoc]
  simp [State.p2, State.p5, State.p7, State.p8]

theorem vector_any_iff {α : Type} {n : Nat} (v : Vector α n) (p : α → Bool) :
    v.toList.any p = true ↔ ∃ k : Fin n, p v[k] = true := by
  simp only [List.any_eq_true, Vector.mem_toList_iff, Vector.mem_iff_getElem]
  constructor
  · rintro ⟨_, ⟨k, within, rfl⟩, holds⟩
    exact ⟨⟨k, within⟩, holds⟩
  · rintro ⟨k, holds⟩
    exact ⟨_, ⟨k.val, k.isLt, rfl⟩, holds⟩

theorem State.anyCommanded_iff (s : State) : s.anyCommanded = true ↔ ∃ l : Fin 6, 0 < s.lines[l].commanded := by
  rw [State.anyCommanded, vector_any_iff]
  simp only [decide_eq_true_eq]

theorem State.flameLossRuns_iff (s : State) :
    s.flameLossRuns = true ↔
      s.burner.flame = false ∧
        (s.burner.state ∈ [.pilot, .mainTrial, .mainFiring] ∨
          s.burner.state = .stopping ∧ ∃ l : Fin 6, 0 < s.lines[l].commanded) := by
  rw [← State.anyCommanded_iff]
  simp only [State.flameLossRuns, Bool.and_eq_true, Bool.not_eq_true']
  cases s.burner.state <;> simp

theorem BurnerState.firing_iff (b : BurnerState) :
    b.firing = true ↔ b ∈ [.ignition, .pilot, .mainTrial, .mainFiring, .stopping] := by
  cases b <;> simp [BurnerState.firing]

theorem State.airLost_iff (s : State) :
    s.airLost = true ↔ ¬((s.ai 0).quality = .good ∧ 10 * (s.burner.cfg.minAir : Int) ≤ (s.ai 0).value) := by
  simp [State.airLost, imp_iff_not_or]

theorem timer_of_iff {on runs : Prop} [Decidable on] (same : on ↔ runs) (v : Nat) :
    (runs → (if on then some v else none) = some v) ∧ (¬runs → (if on then some v else none) = none) :=
  ⟨fun holds => if_pos (same.2 holds), fun fails => if_neg (mt same.1 fails)⟩

/-! ### The end of the purge, and the pilot (R12, R14) -/

/-- Both actuators begin their moves, each on its own record. -/
theorem State.lightOffMoves (t : State) :
    allActuators.foldl (fun s a => s.startMove a s.burner.cfg.lightOff[a.val]) t =
      (t.modActuator 0 fun r =>
          r.movedTo t.floorTime t.burner.cfg.stepRate[(0 : Fin 2)] t.burner.cfg.lightOff[(0 : Fin 2)]).modActuator 1 fun r =>
        r.movedTo t.floorTime t.burner.cfg.stepRate[(1 : Fin 2)] t.burner.cfg.lightOff[(1 : Fin 2)] := rfl

theorem State.lightOffMoves_actuator (t : State) (a : Fin 2) :
    (allActuators.foldl (fun s a => s.startMove a s.burner.cfg.lightOff[a.val]) t).burner.actuators[a] =
      t.burner.actuators[a].movedTo t.floorTime t.burner.cfg.stepRate[a] t.burner.cfg.lightOff[a] := by
  rw [State.lightOffMoves]
  fin_cases a <;> simp [State.modActuator, State.modBurner, upd]

theorem State.lightOffMoves_burner (t : State) :
    (allActuators.foldl (fun s a => s.startMove a s.burner.cfg.lightOff[a.val]) t).burner =
      { t.burner with
        actuators :=
          (allActuators.foldl (fun s a => s.startMove a s.burner.cfg.lightOff[a.val]) t).burner.actuators } := rfl

theorem State.lightOffMoves_attention (t : State) :
    (allActuators.foldl (fun s a => s.startMove a s.burner.cfg.lightOff[a.val]) t).attention = t.attention := rfl

theorem State.toPrepare_burner (s : State) :
    s.toPrepare.burner = { s.burner.enter .prepare with actuators := s.toPrepare.burner.actuators } := by
  rw [State.toPrepare, State.lightOffMoves_burner]
  simp only [State.raise_frame, State.burnerTo_burner]

theorem State.toPrepare_actuator (s : State) (a : Fin 2) :
    s.toPrepare.burner.actuators[a] =
      s.burner.actuators[a].movedTo s.floorTime s.burner.cfg.stepRate[a] s.burner.cfg.lightOff[a] := by
  rw [State.toPrepare, State.lightOffMoves_actuator]
  simp only [State.raise_frame, State.burnerTo_frame, State.burnerTo_burner]
  rfl

theorem State.toPrepare_attention (s : State) : s.toPrepare.attention = (s.raise .burner).attention := by
  rw [State.toPrepare, State.lightOffMoves_attention]
  exact State.raise_attention_congr (by simp) _

theorem State.toPilot_burner (s : State) :
    s.toPilot.burner = { s.burner.enter .pilot with pilotHoldAt := some (s.floorTime + 600000) } := by
  simp only [State.toPilot, State.raise_frame, State.modBurner, State.burnerTo_burner]
  rfl

theorem State.toPilot_attention (s : State) : s.toPilot.attention = (s.raise .burner).attention :=
  State.raise_attention_congr (by simp) _

theorem State.toPilot_pilotValve (s : State) : s.toPilot.valveOpen pv = true := by
  simp [State.toPilot, BurnerState.pilotOpen]

end Sys2Proof.Machine

open Sys2Proof Sys2Proof.Machine

/-- Settles O30. -/
theorem purgeCompletesAndFlameProves : Obligations.PurgeCompletesAndFlameProves := by
  refine ⟨?_, fun s live => ⟨fun t purge since past => ?_, fun t ignition timer past => ?_⟩⟩
  · intro s b timer counts t
    have result : t = _ := s.watchBurner_eq
    have started : t.burner.purgeStarted = (b.purgeStarted || s.purgeCounts) := by rw [result]
    refine ⟨?_, ?_, ?_, fun runs => ?_, fun stands => ?_, ?_, ?_, ?_⟩
    · rw [result]
      exact s.modBurner_sameBut (fun _ => _) (by decide)
    · rw [result]
    · rw [result]
      exact timer_of_iff s.purgeCounts_iff _
    · rw [started, s.purgeCounts_iff.2 runs, Bool.or_true]
    · rw [started, Bool.eq_false_iff.2 (mt s.purgeCounts_iff.1 stands), Bool.or_false]
    · rw [result]
      exact timer_of_iff Iff.rfl _
    · rw [result]
      exact timer_of_iff s.flameLossRuns_iff _
    · rw [result]
      exact timer_of_iff (and_congr s.burner.state.firing_iff s.airLost_iff) _
  · have due : s.burner.purgeDue s.floorTime = true :=
      Burner.due_of (by rw [purge]; rfl) ((congrArg (Option.map _) since).trans rfl) past
    refine ⟨_, next_settled live due rfl, ?_, ?_⟩
    · intro b other
      cases b <;> simp_all [Block.Same]
    have burner := s.toPrepare_burner
    refine ⟨(congrArg Burner.state burner :), (congrArg Burner.purgeSince burner :), (congrArg Burner.purgeStarted burner :),
      (congrArg Burner.giveUpAt burner :), s.toPrepare_attention, fun a => ?_⟩
    rw [State.toPrepare_actuator]
    obtain ⟨target, verify, position, owner, motion⟩ :=
      s.burner.actuators[a].movedTo_target s.floorTime s.burner.cfg.stepRate[a] s.burner.cfg.lightOff[a]
    exact ⟨target, verify, position, owner, motion⟩
  · have due : s.burner.flameProofDue s.floorTime = true := Burner.due_of (by rw [ignition]; rfl) timer past
    refine ⟨_, next_settled live due rfl, ?_, ?_⟩
    · intro b other
      cases b <;> simp_all [Block.Same]
    have burner := s.toPilot_burner
    exact ⟨(congrArg Burner.state burner :), (congrArg Burner.igniter burner :), (congrArg Burner.firingRelay burner :),
      s.toPilot_pilotValve, (congrArg Burner.pilotHoldAt burner :), (congrArg Burner.ignitionTrialAt burner :),
      (congrArg Burner.flameProofAt burner :), s.toPilot_attention, (congrArg Burner.actuators burner :)⟩

end

section
/-! MAIN LIGHT, the main trial and the ceiling ramp (R15, R16, R21). -/

set_option Elab.async false

namespace Sys2Proof.Machine

open Sys2Proof

/-! ### What an evaluation writes of a line (R50, R52, R82) -/

theorem compareRates_eq (now : Nat) (r : Line) :
    compareRates now r =
      { r with deviation := (compareRates now r).deviation, deviationAt := (compareRates now r).deviationAt } := by
  unfold compareRates
  split
  · split
    · split <;> rfl
    · rfl
  · rfl

theorem Line.handed_eq (r : Line) (now requested allowed : Nat) :
    r.handed now requested allowed =
      { r with
        allowed := (r.handed now requested allowed).allowed, cut := (r.handed now requested allowed).cut,
        commanded := (r.handed now requested allowed).commanded, deviation := (r.handed now requested allowed).deviation,
        deviationAt := (r.handed now requested allowed).deviationAt,
        progress := r.progress.map fun p => { p with cut := p.cut || (r.handed now requested allowed).cut } } := by
  simp only [Line.handed]
  split
  · rfl
  · rw [compareRates_eq]

theorem State.evaluate_line (s : State) (l : Fin 6) :
    s.evaluate.lines[l] =
      { s.lines[l] with
        allowed := s.evaluate.lines[l].allowed, cut := s.evaluate.lines[l].cut,
        commanded := s.evaluate.lines[l].commanded, deviation := s.evaluate.lines[l].deviation,
        deviationAt := s.evaluate.lines[l].deviationAt,
        progress := s.lines[l].progress.map fun p => { p with cut := p.cut || s.evaluate.lines[l].cut } } := by
  have handed : ∃ requested allowed, s.evaluate.lines[l] = s.lines[l].handed s.floorTime requested allowed :=
    ⟨_, _, s.evaluateAt_line _ l⟩
  obtain ⟨requested, allowed, handed⟩ := handed
  rw [handed]
  exact Line.handed_eq _ _ _ _

/-! ### MAIN LIGHT (R15) -/

theorem Order.feeds_iff (o : Order) : o.feeds = true ↔ ¬∃ cv priority, o.body = .context cv priority := by
  unfold Order.feeds
  cases body : o.body <;> simp

theorem State.admissible_iff (s : State) (l : Fin 6) :
    s.admissible l = true ↔
      ¬(s.lines[l].state ≠ .shut ∨ s.record (recordOfValve (svOf l)) ≠ .ok ∨
        ∀ o ∈ s.lines[l].queue, ∃ cv priority, o.body = .context cv priority) := by
  simp only [State.admissible, Bool.and_eq_true, decide_eq_true_eq, Bool.not_eq_true', DiagState.unsound_iff,
    List.any_eq_true, Order.feeds_iff, not_or, not_not, not_forall, and_assoc, exists_prop]
  rfl

theorem State.admitLine_queue (s : State) (l m : Fin 6) : (s.admitLine l).lines[m].queue = s.lines[m].queue := by
  refine (congrArg Line.queue (State.evaluate_line _ m)).trans ?_
  simp only [State.commandValve_frame, State.modLine_frame, Fin.getElem_fin, upd_get]
  split <;> rfl

theorem State.admitLine_requested (s : State) (l m : Fin 6) :
    (s.admitLine l).lines[m].requested = s.lines[m].requested := by
  refine (congrArg Line.requested (State.evaluate_line _ m)).trans ?_
  simp only [State.commandValve_frame, State.modLine_frame, Fin.getElem_fin, upd_get]
  split <;> rfl

section
variable (s : State) (named : List (Fin 6)) (l : Fin 6)

/-- The lines named by MAIN LIGHT are admitted, in turn. -/
def State.admitAll : State := named.foldl (fun s l => s.admitLine l) s

theorem State.admitAll_lineState :
    (s.admitAll named).lineState l = if l ∈ named then .admitting else s.lineState l := by
  unfold State.admitAll
  induction named generalizing s with
  | nil => rfl
  | cons m rest ih =>
    rw [List.foldl_cons, ih, State.admitLine_lineState]
    by_cases later : l ∈ rest
    · simp [later]
    · by_cases now : l = m <;> simp [later, now]

theorem State.admitAll_valveOpen :
    (s.admitAll named).valveOpen (svOf l) = (decide (l ∈ named) || s.valveOpen (svOf l)) := by
  unfold State.admitAll
  induction named generalizing s with
  | nil => rfl
  | cons m rest ih =>
    rw [List.foldl_cons, ih, State.admitLine_valveOpen]
    by_cases later : l ∈ rest
    · simp [later]
    · by_cases now : l = m <;> simp [later, now, svOf_inj]

theorem State.admitAll_pilotValve : (s.admitAll named).valveOpen pv = s.valveOpen pv := by
  unfold State.admitAll
  induction named generalizing s with
  | nil => rfl
  | cons m rest ih =>
    rw [List.foldl_cons, ih, State.admitLine_valveOpen, Function.update_of_ne (svOf_ne_pv m).symm]

theorem State.admitAll_queue : (s.admitAll named).lines[l].queue = s.lines[l].queue := by
  unfold State.admitAll
  induction named generalizing s with
  | nil => rfl
  | cons m rest ih => rw [List.foldl_cons, ih, State.admitLine_queue]

theorem State.admitAll_requested : (s.admitAll named).lines[l].requested = s.lines[l].requested := by
  unfold State.admitAll
  induction named generalizing s with
  | nil => rfl
  | cons m rest ih => rw [List.foldl_cons, ih, State.admitLine_requested]

end

/-- The burner's part of MAIN LIGHT, before the lines are admitted (R15, R21). -/
def State.mainTrialEntered (s : State) : State :=
  ((s.burnerTo .mainTrial).modBurner fun b =>
    { b with
      mainTrialAt := some (s.floorTime + b.cfg.mainTrial * 1000), ceiling := some s.envelope.lightOffHeat }).raise .burner

theorem State.toMainTrial_eq (s : State) (named : List (Fin 6)) :
    s.toMainTrial named = s.mainTrialEntered.admitAll named := rfl

theorem State.mainTrialEntered_burner (s : State) :
    s.mainTrialEntered.burner =
      { s.burner.enter .mainTrial with
        mainTrialAt := some (s.floorTime + s.burner.cfg.mainTrial * 1000), ceiling := some s.envelope.lightOffHeat } := by
  simp only [State.mainTrialEntered, State.raise_frame, State.modBurner, State.burnerTo_burner]
  rfl

theorem State.toMainTrial_burner (s : State) (named : List (Fin 6)) :
    (s.toMainTrial named).burner = s.mainTrialEntered.burner :=
  foldl_burner _ (fun s l => by simp) named _

theorem State.toMainTrial_sameBut (s : State) (named : List (Fin 6)) :
    SameBut [.burner, .lines, .heat, .field, .attention] s (s.toMainTrial named) := by
  intro b other
  cases b <;> simp_all [Block.Same]

theorem State.toMainTrial_attention (s : State) (named : List (Fin 6)) :
    (s.toMainTrial named).attention = (s.raise .burner).attention :=
  (foldl_attention _ (fun s l => by simp) named _).trans (State.raise_attention_congr (by simp) _)

theorem State.mainTrialEntered_valveOpen (s : State) (v : Fin 7) :
    s.mainTrialEntered.valveOpen v = if v = pv then true else s.valveOpen v := by
  simp [State.mainTrialEntered, BurnerState.pilotOpen, Function.update_apply]

theorem bitSet_lt (l : List Bool) : bitSet l < 2 ^ l.length := by
  induction l with
  | nil => decide
  | cons b l ih =>
    have step : bitSet (b :: l) = 2 * bitSet l + b.toNat := rfl
    have bit : b.toNat ≤ 1 := Bool.toNat_le b
    rw [step, List.length_cons, Nat.pow_succ]
    omega

/-! ### MAIN_FIRING and its ceiling (R16, R21) -/

theorem State.toMainFiring_burner (s : State) :
    s.toMainFiring.burner =
      { s.burner.enter .mainFiring with
        rampFrom := if s.envelope.maxHeat ≤ s.envelope.lightOffHeat then none else some s.floorTime, rampDone := 0,
        ceiling := if s.envelope.maxHeat ≤ s.envelope.lightOffHeat then none else some s.envelope.lightOffHeat } := by
  simp only [State.toMainFiring, State.evaluate_frame, State.addEvent_frame, State.raise_frame, State.modBurner,
    State.burnerTo_burner, decide_eq_true_eq]

theorem State.toMainFiring_attention (s : State) : s.toMainFiring.attention = (s.raise .burner).attention := by
  simp only [State.toMainFiring, State.evaluate_frame, State.addEvent_frame]
  exact State.raise_attention_congr (by simp) _

theorem State.toMainFiring_shift (s : State) : s.toMainFiring.shift = (s.addEvent .mainFiring).shift := by
  simp only [State.toMainFiring, State.evaluate_frame]
  exact State.addEvent_shift_congr (by simp) (by simp) _

theorem State.toMainFiring_sameBut (s : State) :
    SameBut [.burner, .lines, .heat, .field, .attention, .shift] s s.toMainFiring := by
  intro b other
  cases b <;> simp_all [Block.Same]

theorem State.toMainFiring_pilotValve (s : State) : s.toMainFiring.valveOpen pv = false := by
  simp [State.toMainFiring, BurnerState.pilotOpen]

theorem State.toMainFiring_line (s : State) (l : Fin 6) :
    s.toMainFiring.lines[l].state = s.lines[l].state ∧ s.toMainFiring.lines[l].queue = s.lines[l].queue := by
  constructor
  · exact (congrArg Line.state (State.evaluate_line _ l)).trans (by simp)
  · exact (congrArg Line.queue (State.evaluate_line _ l)).trans (by simp)

theorem Burner.rampDue_of {b : Burner} {t now : Nat} (firing : b.state = .mainFiring) (since : b.rampFrom = some t)
    (behind : b.rampDone < (now - t) / 1000) : b.rampDue now = true := by
  rw [Burner.rampDue, firing, since]
  exact decide_eq_true behind

theorem State.rampCeiling_eq (s : State) (k : Nat) :
    s.rampCeiling k =
      ({ s with
        burner :=
          if s.envelope.maxHeat ≤ s.envelope.lightOffHeat + k * s.envelope.lightOffRamp / 60 then
            { s.burner with ceiling := none, rampFrom := none, rampDone := 0 }
          else { s.burner with ceiling := some (s.envelope.lightOffHeat + k * s.envelope.lightOffRamp / 60), rampDone :=
            k } } :
        State).evaluate := by
  refine congrArg State.evaluate ?_
  by_cases full : s.envelope.maxHeat ≤ s.envelope.lightOffHeat + k * s.envelope.lightOffRamp / 60
  · rw [if_pos full]
    exact if_pos full
  · rw [if_neg full]
    exact if_neg full

/-- The byte of a set of lines (R176). -/
def lineByte (f : Fin 6 → Bool) : Byte := BitVec.ofNat 8 (bitSet (allLines.map f))

theorem lineSet_eq (f : Fin 6 → Bool) : lineSet f = [lineByte f] := b1_bitSet _

theorem lineByte_lt (f : Fin 6 → Bool) : (lineByte f).toNat < 64 := by
  have six : (allLines.map f).length = 6 := by rw [List.length_map]; rfl
  have below := bitSet_lt (allLines.map f)
  rw [six] at below
  rw [lineByte, BitVec.toNat_ofNat]
  omega

theorem lineByte_getLsbD (f : Fin 6 → Bool) (l : Fin 6) : (lineByte f).getLsbD l.val = f l := by
  rw [lineByte, bitSet_getLsbD _ (by omega)]
  fin_cases l <;> rfl

theorem mem_allLines (l : Fin 6) : l ∈ allLines := by
  fin_cases l <;> decide

/-- The lines that a set byte names. -/
def linesOf (set : Byte) : List (Fin 6) := allLines.filter fun l => set.getLsbD l.val

theorem mem_linesOf (set : Byte) (l : Fin 6) : l ∈ linesOf set ↔ set.getLsbD l.val = true := by
  simp [linesOf, mem_allLines]

/-- The lines of a set that are not to be admitted (R15). -/
def State.barredLines (s : State) (set : Byte) (l : Fin 6) : Bool := set.getLsbD l.val && !s.admissible l

theorem decideMainLight_outside {s : State} {set : Byte} (outside : set = 0 ∨ 64 ≤ set.toNat) :
    decideMainLight set s = s.refuse .badValue := if_pos (by simpa using outside)

theorem decideMainLight_named {s : State} {set : Byte} (given : set ≠ 0) (below : set.toNat < 64) :
    decideMainLight set s =
      if s.burner.state = .pilot then
        if (linesOf set).all fun l => s.admissible l then (s.toMainTrial (linesOf set)).settle.accepted
        else s.refuseWith .notPermitted (lineSet (s.barredLines set))
      else s.refuseWith .notPermitted (b1 0) := by
  rw [decideMainLight, if_neg]
  · rfl
  · simp only [Bool.or_eq_true, decide_eq_true_eq, not_or]
    exact ⟨given, Nat.not_le.2 below⟩

end Sys2Proof.Machine

open Sys2Proof Sys2Proof.Machine

/-- Settles O31. -/
theorem mainFlameLit : Obligations.MainFlameLit := by
  intro s
  refine ⟨?_, fun live => ?_⟩
  · intro tag named ready u fails
    have refused {content : List Byte} (decided : decision (.mainLight tag named) u = u.refuseWith .notPermitted content) :
        exec (.mainLight tag named) s = .next (u.replied 0x07 tag .notPermitted content) := exec_ready rfl ready decided
    refine ⟨fun outside => ?_, fun given below => ⟨fun other => ?_, fun pilot failing => ?_, fun pilot sound => ?_⟩⟩
    · exact exec_refused rfl ready (decideMainLight_outside outside)
    · exact refused ((decideMainLight_named given below).trans (if_neg other))
    · obtain ⟨l, called, fault⟩ := failing
      have bad : ¬((linesOf named).all fun l => u.admissible l) = true := fun all =>
        (u.admissible_iff l).1 (List.all_eq_true.1 all l ((mem_linesOf named l).2 called)) fault
      refine ⟨lineByte (u.barredLines named), lineByte_lt _, fun m => ?_,
        refused ((decideMainLight_named given below).trans ((if_pos pilot).trans ((if_neg bad).trans ?_)))⟩
      · rw [lineByte_getLsbD, State.barredLines, Bool.and_eq_true, Bool.not_eq_true', Bool.eq_false_iff, ne_eq,
      u.admissible_iff, not_not]
      · rw [lineSet_eq]
    · have good : ((linesOf named).all fun l => u.admissible l) = true := List.all_eq_true.2 fun l called =>
        (u.admissible_iff l).2 (sound l ((mem_linesOf named l).1 called))
      have begun : exec (.mainLight tag named) s =
          .next ((u.toMainTrial (linesOf named)).settle.replied 0x07 tag .accepted []) :=
        exec_accepted rfl ready ((decideMainLight_named given below).trans ((if_pos pilot).trans (if_pos good)))
      refine ⟨_, begun, ?_⟩
      clear begun refused
      clear_value u
      have burner := (u.toMainTrial_burner (linesOf named)).trans u.mainTrialEntered_burner
      refine ⟨u.toMainTrial_sameBut _, (congrArg Burner.state burner :), (congrArg Burner.pilotHoldAt burner :),
        (congrArg Burner.mainTrialAt burner :), (congrArg Burner.ceiling burner :), ?_, u.toMainTrial_attention _,
        fun l => ⟨fun called => ⟨?_, ?_⟩, fun absent => ⟨?_, ?_⟩, ?_, ?_⟩⟩
      all_goals rw [State.toMainTrial_eq]
      · rw [State.admitAll_pilotValve, State.mainTrialEntered_valveOpen, if_pos rfl]
      · exact (State.admitAll_lineState _ _ l).trans (if_pos ((mem_linesOf named l).2 called))
      · rw [State.admitAll_valveOpen, decide_eq_true ((mem_linesOf named l).2 called), Bool.true_or]
      · refine (State.admitAll_lineState _ _ l).trans ((if_neg ?_).trans ?_)
        · rw [mem_linesOf, absent]
          exact Bool.false_ne_true
        · simp [State.mainTrialEntered, State.lineState]
      · rw [State.admitAll_valveOpen, decide_eq_false, Bool.false_or, State.mainTrialEntered_valveOpen,
          if_neg (svOf_ne_pv l)]
        rw [mem_linesOf, absent]
        exact Bool.false_ne_true
      · rw [State.admitAll_queue]
        simp [State.mainTrialEntered]
      · rw [State.admitAll_requested]
        simp [State.mainTrialEntered]
  · intro maxed
    refine ⟨fun t trial timer past opened flame => ?_, fun t k firing since seconds behind => ?_⟩
    · have ends : s.endMainTrial = s.toMainFiring := if_pos (by
        rw [flame, Bool.and_true, State.anyOpen, vector_any_iff]
        exact opened.imp fun l state => decide_eq_true state)
      refine ⟨_, next_settled live (Burner.due_of (by rw [trial]; rfl) timer past) ends, ?_⟩
      have burner := s.toMainFiring_burner
      refine ⟨s.toMainFiring_sameBut, (congrArg Burner.state burner :), (congrArg Burner.mainTrialAt burner :),
        s.toMainFiring_pilotValve,
        (congrArg Burner.firingRelay burner :), fun max => ?_, fun max => ?_, s.toMainFiring_attention,
        s.toMainFiring_shift, s.toMainFiring_line⟩
      · rw [burner]
        exact ⟨if_pos max, if_pos max⟩
      · rw [burner]
        exact ⟨if_neg max, if_neg max⟩
    · refine next_settled live (Burner.rampDue_of firing since (seconds ▸ behind)) ?_
      rw [since, Option.getD_some, secondsSince, ← seconds, State.rampCeiling_eq]

end

section
/-! The close of a shift, what a line delivers and the clock's second (R157, R159 to R167). -/

set_option Elab.async false

namespace Sys2Proof.Machine

open Sys2Proof

/-- An event that takes place at any time takes its effect, settles and sends what it owes. -/
theorem next_event_settled {s v : State} (live : s.resetRun = none) {f : State → State} (leaves : f s = v) :
    (Host.Outcome.next (s.event fun s => (f s).settle) : Result) = .next v.settle.pump := by
  rw [State.event_after live, leaves, State.after_some]

/-! ### The close of a shift (R163) -/

/-- The shift that a close opens, with the notice of the report it overwrites (R163). -/
def State.shiftOpened (s : State) (opens : OpenCause) (index : Nat) : OpenShift :=
  { sequence := nextSequence s.shift.current.sequence, index := index, openFloor := s.floorTime,
    openCalendar := s.shift.calendar, cause := opens,
    totals := s.shift.current.totals.carry s.floorTime s.alarm.standing,
    events := (overwritten s.shift.store).toList.map fun q => { time := s.floorTime, kind := .reportOverwritten q },
    notListed := 0 }

/-- The report that a close stores (R163). -/
def State.reportClosed (s : State) (cause : CloseCause) : Report :=
  { shift := s.shift.current.freeze s.floorTime, closeFloor := s.floorTime, closeCalendar := s.shift.calendar,
    cause := cause, released := false, overwrote := overwritten s.shift.store }

theorem overwritten_eq (store : List Report) :
    overwritten store =
      if store.length < 8 then none
      else (store.head?.filter fun r => !r.released).map fun r => r.shift.sequence := by
  unfold overwritten
  cases store.head? with
  | none => rfl
  | some r => cases released : r.released <;> simp [Option.filter, released]

theorem nextSequence_eq (n : Nat) : nextSequence n = if n = 4294967295 then 1 else n + 1 := rfl

section
variable (s : State) (cause : CloseCause) (opens : OpenCause) (index : Nat)

theorem State.closeShift_shift :
    (s.closeShift cause opens index).shift =
      { s.shift with
        current := s.shiftOpened opens index,
        store := (if s.shift.store.length < 8 then s.shift.store else s.shift.store.tail) ++ [s.reportClosed cause] } := by
  simp only [State.closeShift, State.shiftOpened, State.reportClosed]
  cases overwritten s.shift.store <;> rfl

theorem State.closeShift_alarm :
    (s.closeShift cause opens index).alarm =
      { s.alarm with handed := s.alarm.handed ++ (overwritten s.shift.store).toList.flatMap fun _ => pulseOf 13 } := by
  simp only [State.closeShift]
  cases overwritten s.shift.store
  · simp
  · rfl

theorem State.closeShift_attention : (s.closeShift cause opens index).attention = (s.raise .shift).attention := by
  simp only [State.closeShift]
  refine State.raise_attention_congr ?_ _
  cases overwritten s.shift.store <;> rfl

theorem State.closeShift_sameBut : SameBut [.alarm, .attention, .shift] s (s.closeShift cause opens index) := by
  intro b other
  cases b <;> simp_all [Block.Same]

end

/-! ### Durations (R161) -/

theorem Duration.hand_off (now : Nat) (d : Duration) : d.hand now false = d.freeze now := by
  obtain ⟨total, since⟩ := d
  cases since <;> rfl

theorem Duration.hand_on (now : Nat) (d : Duration) : d.hand now true = { d with since := some (d.since.getD now) } := by
  obtain ⟨total, since⟩ := d
  cases since <;> rfl

theorem Duration.hand_eq (now : Nat) (on : Bool) (d : Duration) :
    d.hand now on = if on then { d with since := some (d.since.getD now) } else d.freeze now := by
  cases on
  · exact d.hand_off now
  · exact d.hand_on now

/-- The durations of the shift as the owners hand them (R22, R52, R59, R84, R98, R145). -/
def State.totalsHanded (s : State) : Totals :=
  let now := s.floorTime
  let t := s.shift.current.totals
  { t with
    lines :=
      Vector.ofFn fun l : Fin 6 =>
        { t.lines[l] with
          deviation := t.lines[l].deviation.hand now s.lines[l].deviation, cut := t.lines[l].cut.hand now s.lines[l].cut },
    firing := t.firing.hand now s.burner.state.firing,
    lockout := t.lockout.hand now (decide (s.burner.state = .lockout)),
    surgeTime := t.surgeTime.hand now (decide (s.cooler.state = .surge)),
    floodTime := t.floodTime.hand now s.alarm.flood,
    ceilings :=
      Vector.ofFn fun c : Fin 5 =>
        t.ceilings[c].hand now (decide (s.heat.active.map CeilingSource.ctorIdx = some c.val)) }

theorem BurnerState.firing_eq (b : BurnerState) :
    b.firing = decide (b ∈ [.ignition, .pilot, .mainTrial, .mainFiring, .stopping]) := by
  cases b <;> rfl

theorem State.handDurations_eq (s : State) :
    s.handDurations =
      { s with shift := { s.shift with current := { s.shift.current with totals := s.totalsHanded } } } := by
  simp only [State.handDurations, State.modTotals, State.modShift, State.totalsHanded, State.mk.injEq, Shift.mk.injEq,
    OpenShift.mk.injEq, Totals.mk.injEq, true_and, and_true]
  constructor
  · refine Vector.ext fun l inside => ?_
    simp [inside]
  · refine Vector.ext fun c inside => ?_
    simp [beq_eq_decide]

/-! ### What a line delivers (R53, R160) -/

/-- The state in which a delivery falls: the shift is closed before a mass beyond its width (R160). -/
def State.beforeDelivery (s : State) (l : Fin 6) (grams : Nat) : State :=
  if max32 < s.shift.current.totals.lines[l.val].mass + grams then s.closeShift .request .request 0 else s

theorem State.beforeDelivery_lines (s : State) (l : Fin 6) (grams : Nat) :
    (s.beforeDelivery l grams).lines = s.lines := by
  unfold State.beforeDelivery
  split
  · simp
  · rfl

theorem State.deliver_eq (s : State) (l : Fin 6) (grams : Nat) :
    s.deliver l grams =
      ((s.beforeDelivery l grams).modLineTotals l fun t =>
          { t with mass := t.mass + grams, heat := t.heat + grams * s.lines[l.val].cv }).modLine l fun r =>
        { r with
          lifetime := r.lifetime + grams,
          progress := r.progress.map fun p => { p with delivered := add32 p.delivered grams } } := rfl

/-- A delivery to the recorder follows the recorder's own state, the points and the line's CV. -/
theorem State.deliver_congr {s t : State} (l : Fin 6) (grams : Nat) (shift : t.shift = s.shift) (alarm : t.alarm = s.alarm)
    (attention : t.attention = s.attention) (time : t.floorTime = s.floorTime)
    (cv : t.lines[l.val].cv = s.lines[l.val].cv) :
    (t.deliver l grams).shift = (s.deliver l grams).shift ∧ (t.deliver l grams).alarm = (s.deliver l grams).alarm ∧
      (t.deliver l grams).attention = (s.deliver l grams).attention := by
  have before : (t.beforeDelivery l grams).shift = (s.beforeDelivery l grams).shift ∧
      (t.beforeDelivery l grams).alarm = (s.beforeDelivery l grams).alarm ∧
        (t.beforeDelivery l grams).attention = (s.beforeDelivery l grams).attention := by
    unfold State.beforeDelivery
    rw [shift]
    split
    · simp only [State.closeShift_shift, State.closeShift_alarm, State.closeShift_attention, State.shiftOpened,
        State.reportClosed, shift, alarm, time, true_and]
      exact State.raise_attention_congr attention _
    · exact ⟨shift, alarm, attention⟩
  obtain ⟨shiftBefore, alarmBefore, attentionBefore⟩ := before
  rw [t.deliver_eq, s.deliver_eq, cv]
  refine ⟨?_, alarmBefore, attentionBefore⟩
  simp only [State.modLine, State.modLineTotals, State.modTotals, State.modShift, shiftBefore]

theorem State.weigh_continuous {s : State} {l : Fin 6} (kind : s.lines[l.val].cfg.kind = .continuous) :
    s.weigh l =
      ((s.countPulse ⟨l.val, by omega⟩).modLine l fun r =>
        { r with window := r.window ++ [(s.floorTime, s.lines[l.val].cfg.gramsPerPulse)] }).deliver l
          s.lines[l.val].cfg.gramsPerPulse := if_pos kind

/-! ### RELEASE REPORT (R165) -/

theorem stored_first {older newer : List Report} {r : Report} {sequence : Nat} (named : r.shift.sequence = sequence)
    (first : ∀ q ∈ older, q.shift.sequence ≠ sequence) : stored (older ++ r :: newer) sequence = some r := by
  have before : older.find? (fun q => decide (q.shift.sequence = sequence)) = none := by
    simpa [List.find?_eq_none] using first
  rw [stored, List.find?_append, before, Option.none_or]
  exact List.find?_cons_of_pos (decide_eq_true named)

theorem release_first {older newer : List Report} {r : Report} {sequence : Nat} (named : r.shift.sequence = sequence)
    (first : ∀ q ∈ older, q.shift.sequence ≠ sequence) :
    release sequence (older ++ r :: newer) =
      older.map (fun q => { q with released := true }) ++ { r with released := true } :: newer := by
  induction older with
  | nil => exact if_pos named
  | cons q older ih =>
    rw [List.cons_append, release, if_neg (first q List.mem_cons_self),
      ih fun p later => first p (List.mem_cons_of_mem _ later)]
    rfl

theorem decideRelease_none {s : State} {sequence : Nat} (none : stored s.shift.store sequence = none) :
    decideRelease sequence s = s.refuse .noSuch := by
  rw [decideRelease, none]

theorem decideRelease_some {s : State} {sequence : Nat} {r : Report} (found : stored s.shift.store sequence = some r) :
    decideRelease sequence s = (s.modShift fun h => { h with store := release sequence h.store }).done [] := by
  rw [decideRelease, found]

/-! ### The clock's second (R157, R159) -/

theorem scheduleIndex_none {minute : Nat} {schedule : List Nat} (absent : minute ∉ schedule) (k : Nat) :
    scheduleIndex minute schedule k = none := by
  induction schedule generalizing k with
  | nil => rfl
  | cons t rest ih =>
    rw [List.mem_cons, not_or] at absent
    obtain ⟨other, absent⟩ := absent
    rw [scheduleIndex, if_neg (Ne.symm other), ih absent]

/-- The place of a boundary is that of its first start time. -/
theorem scheduleIndex_first {minute k : Nat} {schedule : List Nat} (present : schedule[k]? = some minute)
    (first : ∀ j < k, schedule[j]? ≠ some minute) (start : Nat) :
    scheduleIndex minute schedule start = some (start + k) := by
  induction schedule generalizing k start with
  | nil => cases present
  | cons t rest ih =>
    cases k with
    | zero => exact if_pos (Option.some.inj present)
    | succ k =>
      have other : t ≠ minute := fun same => first 0 k.succ_pos (congrArg some same)
      rw [scheduleIndex, if_neg other, ih present fun j below => first (j + 1) (Nat.succ_lt_succ below)]
      congr 1
      omega

theorem boundary_none {d : DateTime} {schedule : List Nat} (apart : d.second ≠ 0 ∨ d.hour * 60 + d.minute ∉ schedule) :
    boundary d schedule = none := by
  unfold boundary
  split
  next whole => exact scheduleIndex_none (apart.resolve_left (not_not.2 whole)) 1
  · rfl

section
variable {s : State} {d : DateTime} {due : Nat}

/-- The clock stands at `e` with its next second due a second after `due` (R157). -/
def State.clockAt (s : State) (e : DateTime) (due : Nat) : State :=
  s.modShift fun h => { h with clock := some (e, due + 1000) }

theorem State.advanceClock_ended (last : d.next = none) :
    s.advanceClock d due = s.modShift fun h => { h with clock := none } := by
  rw [State.advanceClock, last]

theorem State.advanceClock_apart {e : DateTime} (next : d.next = some e) (apart : boundary e s.shift.schedule = none) :
    s.advanceClock d due = s.clockAt e due := by
  simp only [State.advanceClock, next, State.modShift, apart]
  rfl

theorem State.advanceClock_boundary {e : DateTime} {index : Nat} (next : d.next = some e)
    (at_ : boundary e s.shift.schedule = some index) :
    s.advanceClock d due = (s.clockAt e due).closeShift .schedule .schedule index := by
  simp only [State.advanceClock, next, State.modShift, at_]
  rfl

theorem next_second (live : s.resetRun = none) (clock : s.shift.clock = some (d, due)) (past : due ≤ s.floorTime) {v : State}
    (leaves : s.advanceClock d due = v) : exec .clockSecondTick s = .next v.settle.pump := by
  have second : s.shift.secondDue s.floorTime = some (d, due) := by
    rw [Shift.secondDue, clock]
    exact if_pos past
  have taken : exec .clockSecondTick s = .next (s.event fun s => (s.advanceClock d due).settle) := by
    simp only [exec.eq_def, execClockSecondTick, second]
  rw [taken, next_event_settled live leaves]

end

end Sys2Proof.Machine

open Sys2Proof Sys2Proof.Machine

/-- Settles O52. -/
theorem shiftsClosed : Obligations.ShiftsClosed := by
  intro s frozen frozenTotals carried closed handed old
  have freezes (now : Nat) (d : Duration) : d.freeze now = frozen now d := by
    obtain ⟨total, since⟩ := d
    cases since <;> rfl
  have totalsFreeze (now : Nat) (t : Totals) : t.freeze now = frozenTotals now t := by
    simp only [Totals.freeze, freezes, frozenTotals]
  have hands (on : Bool) (d : Duration) : d.hand s.floorTime on = handed on d := by
    rw [Duration.hand_eq, freezes]
  have shut (u : State) (cause : CloseCause) (opens : OpenCause) (index : Nat) :
      closed u cause opens index (u.closeShift cause opens index) := by
    refine ⟨u.closeShift_sameBut _ _ _, u.closeShift_attention _ _ _, ?_⟩
    rw [State.closeShift_shift, State.closeShift_alarm, ← overwritten_eq, ← totalsFreeze]
    refine ⟨rfl, rfl, rfl, rfl, nextSequence_eq _, rfl, rfl, rfl, rfl, rfl, rfl, ?_, ?_⟩
    · rw [State.shiftOpened]
      cases overwritten u.shift.store <;> rfl
    · cases overwritten u.shift.store with
      | none => exact congrArg _ (List.append_nil _)
      | some q => rfl
  refine ⟨?_, fun l grams => ⟨s.beforeDelivery l grams, fun within => if_neg within, fun beyond => ?_, ?_, ?_⟩, ?_, ?_⟩
  · rw [s.handDurations_eq, State.totalsHanded]
    simp only [hands, BurnerState.firing_eq]
    rfl
  · have closes : s.beforeDelivery l grams = s.closeShift .request .request 0 := if_pos beyond
    rw [closes]
    exact shut s .request .request 0
  · rw [s.deliver_eq]
    simp only [State.modLine, State.modLineTotals, State.modTotals, State.modShift, State.beforeDelivery_lines]
    rfl
  · intro live kind amount
    subst amount
    exact ⟨_, next_event_settled live (s.weigh_continuous kind), State.deliver_congr l _ rfl rfl rfl rfl
      (by simp [State.modLine])⟩
  · intro tag ready u
    refine ⟨⟨_, exec_done rfl ready rfl, shut u .request .request 0⟩, ?_, fun sequence => ⟨fun absent => ?_, ?_⟩⟩
    · rw [← totalsFreeze]
      exact exec_done rfl ready rfl
    · exact exec_refused rfl ready (decideRelease_none (stored_none absent))
    · intro older newer r store named first
      have found : stored u.shift.store sequence.toNat = some r := store ▸ stored_first named first
      rw [← release_first named first, ← store]
      exact exec_done rfl ready (decideRelease_some found)
  · intro d t live clock past
    refine ⟨fun last => next_second live clock past (State.advanceClock_ended last), fun e next => ?_⟩
    intro u
    refine ⟨fun apart => ?_, fun k whole present first => ?_⟩
    · exact next_second live clock past (State.advanceClock_apart next (boundary_none apart))
    · have meets : boundary e s.shift.schedule = some (k + 1) := by
        rw [boundary, if_pos whole, scheduleIndex_first present first, Nat.add_comm]
      exact ⟨_, next_second live clock past (State.advanceClock_boundary next meets), shut u .schedule .schedule (k + 1)⟩

end

section
/-! How a reset begins and ends, and the values that it leaves (R108, R125, R171, R175). -/

set_option Elab.async false

namespace Sys2Proof.Machine

open Sys2Proof

/-! ### The start of a reset (R108, R175) -/

section
variable (s : State) (kind : ResetKind) (cause : RestartCause) (restart : Bool)

theorem State.beginReset_run :
    ∃ run, (s.beginReset kind cause restart).resetRun = some run ∧ run.kind = kind ∧
      (restart = true → run.restart = true) := by
  refine ⟨_, rfl, rfl, fun named => ?_⟩
  rw [named, Bool.true_or]

theorem State.beginReset_valveOpen (v : Fin 7) : (s.beginReset kind cause restart).valveOpen v = false := by
  simp [State.valveOpen, State.beginReset, State.outputsOff]

theorem State.beginReset_batch (b : Fin 2) :
    (s.beginReset kind cause restart).batches[b].gateOpen = false ∧
      (s.beginReset kind cause restart).batches[b].slot = none := by
  simp [State.beginReset, State.outputsOff]

end

theorem State.endFrame_restart {s : State} {f : Frame} {k : ResetKind} (sending : s.link.sending = some f)
    (reply : f.reply = true) (pending : s.restartPending = some k) :
    s.endFrame =
      (s.modLink fun l => { l with sending := none, unanswered := l.unanswered && !f.reply }).beginReset k
        (requestCause k) true := by
  simp only [State.endFrame, sending, reply, State.modLink, pending]

/-! ### The end of a reset (R175) -/

/-- The state that the end of a reset of a kind leaves (R125, R155). -/
def State.resetEnded (s : State) : ResetKind → State
  | .cold => ((s.coldValues.raise .link).settle).pump
  | .warm => (((s.warmValues.addEvent (.restart .warmRequest)).raise .link).settle).pump

section
variable {s : State} {run : ResetRun}

theorem State.endReset_held (going : s.resetRun = some run) (held : s.pinLow = true ∨ s.supplyLow = true ∨ run.restart =
    true) :
    s.endReset = s := by
  simp only [State.endReset, going]
  exact if_pos (by simpa [or_assoc] using held)

theorem State.endReset_ends (going : s.resetRun = some run) (pin : s.pinLow = false) (supply : s.supplyLow = false)
    (restart : run.restart = false) : s.endReset = s.resetEnded run.kind := by
  simp only [State.endReset, going, pin, supply, restart, Bool.or_self, Bool.false_eq_true, if_false]
  cases run.kind <;> rfl

theorem exec_resetPinRelease (pin : s.pinLow = true) :
    exec .resetPinRelease s = .next ({ s with pinLow := false } : State).endReset := congrArg _ (if_pos pin)

theorem exec_supplyRestore (supply : s.supplyLow = true) :
    exec .supplyRestore s = .next ({ s with supplyLow := false } : State).endReset := congrArg _ (if_pos supply)

theorem exec_restartResetEnd (going : s.resetRun = some run) (restart : run.restart = true) :
    exec .restartResetEnd s = .next ({ s with resetRun := some { run with restart := false } } : State).endReset := by
  simp only [exec.eq_def, execRestartResetEnd, State.endRestart, going, restart, if_true]

end

/-! ### The values after a reset (R125, R175) -/

section
variable (s : State)

theorem State.warmValues_settings : s.warmValues.settings = s.settings := by
  rw [State.settings, State.settings, Settings.mk.injEq]
  refine ⟨rfl, Vector.ext fun l inside => ?_, rfl, rfl, Vector.ext fun i inside => ?_, rfl, rfl, rfl, rfl, rfl, rfl, rfl,
    rfl⟩
  · simp [State.warmValues, Line.reset]
  · simp [State.warmValues, Alarm.fresh, Point.warm, Point.fresh]

theorem State.coldValues_valveOpen (v : Fin 7) : s.coldValues.valveOpen v = false := by
  simp [State.valveOpen, State.coldValues, Field.reset, Valve.provingClosed]

theorem State.warmValues_valveOpen (v : Fin 7) : s.warmValues.valveOpen v = false := by
  simp [State.valveOpen, State.warmValues, Field.warm, Valve.provingClosed]

end

end Sys2Proof.Machine

open Sys2Proof Sys2Proof.Machine

/-- Settles O53. -/
theorem resetsBeginAndEnd : Obligations.ResetsBeginAndEnd := by
  intro s begun
  have begins (t : State) (kind : ResetKind) (cause : RestartCause) (restart : Bool) :
      begun t kind cause (t.beginReset kind cause restart) := by
    obtain ⟨run, going, same, -⟩ := t.beginReset_run kind cause restart
    exact ⟨⟨run, going, same⟩, rfl, rfl, rfl, rfl, rfl, rfl, rfl, rfl, rfl, rfl, rfl, t.beginReset_valveOpen kind cause
      restart,
      t.beginReset_batch kind cause restart, rfl, rfl⟩
  refine ⟨fun tag ready => ?_, fun f k live sending reply pending => ?_, fun pin => ?_, fun supply => ?_, ?_, ?_⟩
  · refine ⟨exec_done rfl ready rfl, exec_done rfl ready rfl, fun kind other => exec_refused rfl ready (if_neg other),
      fun type => exec_refused rfl ready rfl, fun type length => exec_refused rfl ready rfl⟩
  · have ends : exec .frameSendEnd s = .next s.endFrame := congrArg _ (if_neg (by rw [live]; exact Bool.false_ne_true))
    rw [State.endFrame_restart sending reply pending] at ends
    refine ⟨_, ends, ?_, ?_⟩
    · have := begins (s.modLink fun l => { l with sending := none, unanswered := l.unanswered && !f.reply }) k
        (requestCause k) true
      cases k <;> exact this
    · obtain ⟨run, going, -, restart⟩ := State.beginReset_run
        (s.modLink fun l => { l with sending := none, unanswered := l.unanswered && !f.reply }) k (requestCause k) true
      exact ⟨run, going, restart rfl⟩
  · have ends : exec .resetPinAssert s = .next (({ s with pinLow := true } : State).beginReset .cold .coldPin false) :=
      congrArg _ (if_neg (by rw [pin]; exact Bool.false_ne_true))
    exact ⟨_, ends, rfl, begins { s with pinLow := true } .cold .coldPin false⟩
  · have ends : exec .supplyFall s = .next (({ s with supplyLow := true } : State).beginReset .cold .coldSupply false) :=
      congrArg _ (if_neg (by rw [supply]; exact Bool.false_ne_true))
    exact ⟨_, ends, rfl, begins { s with supplyLow := true } .cold .coldSupply false⟩
  · intro run going ended
    have leaves (u : State) : ended u = u.resetEnded run.kind := by
      simp only [ended]
      cases run.kind <;> rfl
    simp only [leaves]
    refine ⟨fun pin supply restart => ?_, fun pin other => ?_, fun supply pin restart => ?_, fun supply other => ?_,
      fun restart pin supply => ?_, fun restart held => ?_⟩
    · rw [exec_resetPinRelease pin]
      exact congrArg _ (State.endReset_ends going rfl supply restart)
    · rw [exec_resetPinRelease pin]
      exact congrArg _ (State.endReset_held going (.inr other))
    · rw [exec_supplyRestore supply]
      exact congrArg _ (State.endReset_ends going pin rfl restart)
    · rw [exec_supplyRestore supply]
      exact congrArg _ (State.endReset_held going (other.imp_right .inr))
    · rw [exec_restartResetEnd going restart]
      exact congrArg _ (State.endReset_ends (run := { run with restart := false }) rfl pin supply rfl)
    · rw [exec_restartResetEnd going restart]
      exact congrArg _ (State.endReset_held rfl (held.imp_right .inl))
  · refine ⟨rfl, rfl, rfl, s.warmValues_settings, rfl, fun t named => ?_⟩
    obtain rfl | rfl : t = s.coldValues ∨ t = s.warmValues := by simpa using named
    · refine ⟨rfl, rfl, rfl, rfl, rfl, rfl, fun l => ?_, s.coldValues_valveOpen, rfl, rfl⟩
      rw [Fin.getElem_fin, s.coldValues_line l]
      exact ⟨rfl, rfl, rfl⟩
    · refine ⟨rfl, rfl, rfl, rfl, rfl, rfl, fun l => ?_, s.warmValues_valveOpen, rfl, rfl⟩
      rw [Fin.getElem_fin, s.warmValues_line l]
      exact ⟨rfl, rfl, rfl⟩

end

section
/-! The mass and the measured rate of a line, its deviation timer and its notice delay (R51 to R53, R56, R111). -/

set_option Elab.async false

namespace Sys2Proof.Machine

open Sys2Proof

theorem State.modLine_modLine (s : State) (l : Fin 6) (f g : Line → Line) :
    (s.modLine l f).modLine l g = s.modLine l fun r => g (f r) := by
  simp only [State.modLine, upd_upd]

theorem isDue_of {at_ : Option Nat} {t now : Nat} (timer : at_ = some t) (past : t ≤ now) : isDue at_ now = true := by
  rw [timer]
  exact isDue_some past

/-! ### Weigh pulses (R53, R111) -/

theorem State.weigh_batch {s : State} {l : Fin 6} (kind : s.lines[l.val].cfg.kind = .batch) :
    s.weigh l = s.countPulse ⟨l.val, by omega⟩ := 
  if_neg fun other => absurd (kind.symm.trans other) (by decide)

theorem State.deliver_within {s : State} {l : Fin 6} {grams : Nat}
    (within : s.shift.current.totals.lines[l.val].mass + grams ≤ max32) :
    s.deliver l grams =
      (s.modLineTotals l fun t =>
          { t with mass := t.mass + grams, heat := t.heat + grams * s.lines[l.val].cv }).modLine l fun r =>
        { r with
          lifetime := r.lifetime + grams,
          progress := r.progress.map fun p => { p with delivered := add32 p.delivered grams } } := by
  rw [State.deliver_eq, State.beforeDelivery, if_neg (Nat.not_lt.2 within)]

theorem State.deliver_sameBut (s : State) (l : Fin 6) (grams : Nat) :
    SameBut [.lines, .alarm, .attention, .shift] s (s.deliver l grams) := by
  intro b other
  cases b <;> simp_all [Block.Same]

theorem State.countPulse_sameBut {bs : List Block} (s : State) (n : Fin 11) (named : .field ∈ bs) :
    SameBut bs s (s.countPulse n) := s.modField_sameBut _ named

theorem State.weigh_sameBut (s : State) (l : Fin 6) : SameBut [.lines, .field, .alarm, .attention, .shift] s (s.weigh l)
    := by
  cases kind : s.lines[l.val].cfg.kind with
  | batch =>
    rw [State.weigh_batch kind]
    exact s.countPulse_sameBut _ (by decide)
  | continuous =>
    rw [State.weigh_continuous kind]
    exact ((s.countPulse_sameBut _ (by decide)).trans (State.modLine_sameBut _ _ _ (by decide))).trans
      ((State.deliver_sameBut _ _ _).mono (by decide))

theorem State.weigh_field (s : State) (l : Fin 6) : (s.weigh l).field = (s.countPulse ⟨l.val, by omega⟩).field := by
  cases kind : s.lines[l.val].cfg.kind with
  | batch => rw [State.weigh_batch kind]
  | continuous => simp [State.weigh_continuous kind]

/-! ### The measured rate (R51, R52) -/

theorem measuredRate_eq (window : List (Nat × Nat)) :
    measuredRate window = min 60000 ((window.map Prod.snd).sum * 9 / 25) := by
  rw [measuredRate, Config.rateMax, List.sum_eq_foldl, List.foldl_map]

/-- The line with its measured rate formed, before the comparison (R51). -/
def Line.formed (r : Line) (now : Nat) : Line :=
  { r with
    window := r.window.filter fun p => now < p.1 + 10000, measuredAt := now,
    measured := if r.cfg.kind = .continuous then measuredRate (r.window.filter fun p => now < p.1 + 10000) else 0 }

theorem Line.measure_eq (r : Line) (now : Nat) : r.measure now = compareRates now (r.formed now) := rfl

theorem Line.measure_measured (r : Line) (now : Nat) :
    (r.measure now).measured =
      if r.cfg.kind = .continuous then measuredRate (r.window.filter fun p => now < p.1 + 10000) else 0 :=
  (congrArg Line.measured (compareRates_eq now (r.formed now)) :)

theorem Line.measure_window (r : Line) (now : Nat) :
    (r.measure now).window = r.window.filter fun p => now < p.1 + 10000 :=
  (congrArg Line.window (compareRates_eq now (r.formed now)) :)

theorem Line.measure_formed (r : Line) (now : Nat) :
    r.measure now =
      { r with
        window := r.window.filter fun p => now < p.1 + 10000, measuredAt := now, measured := (r.measure now).measured,
        deviation := (r.measure now).deviation, deviationAt := (r.measure now).deviationAt } := by
  rw [r.measure_measured]
  exact compareRates_eq now (r.formed now)

theorem outside_iff (r : Line) : outside r = true ↔ deviationBand r < ((r.measured : Int) - r.commanded).natAbs := by
  have apart : max r.measured r.commanded - min r.measured r.commanded = ((r.measured : Int) - r.commanded).natAbs := by
    omega
  rw [outside, decide_eq_true_iff, apart]

section
variable {r : Line} {now : Nat}

theorem compareRates_apart (apart : r.cfg.kind = .batch ∨ r.state ≠ .opened) : compareRates now r = r := by
  refine if_neg fun compared => ?_
  rw [Bool.and_eq_true, decide_eq_true_iff, decide_eq_true_iff] at compared
  obtain ⟨kind, opened⟩ := compared
  obtain batch | shut := apart
  · exact absurd (kind.symm.trans batch) (by decide)
  · exact shut opened

theorem compareRates_within (kind : r.cfg.kind = .continuous) (opened : r.state = .opened)
    (within : ((r.measured : Int) - r.commanded).natAbs ≤ deviationBand r) :
    compareRates now r = { r with deviation := false, deviationAt := none } := by
  have inside : ¬outside r = true := fun beyond => Nat.not_lt.2 within ((outside_iff r).1 beyond)
  rw [compareRates, if_pos (by rw [kind, opened]; rfl), if_neg inside]

theorem compareRates_beyond (kind : r.cfg.kind = .continuous) (opened : r.state = .opened)
    (beyond : deviationBand r < ((r.measured : Int) - r.commanded).natAbs) :
    compareRates now r =
      { r with
        deviationAt :=
          if r.deviation = true ∨ r.deviationAt.isSome = true then r.deviationAt
          else some (now + r.cfg.deviationTime * 1000) } := by
  rw [compareRates, if_pos (by rw [kind, opened]; rfl), if_pos ((outside_iff r).2 beyond)]
  by_cases runs : r.deviation = true ∨ r.deviationAt.isSome = true
  · rw [if_pos runs, if_pos (Bool.or_eq_true _ _ ▸ runs)]
  · rw [if_neg runs, if_neg (Bool.or_eq_true _ _ ▸ runs)]

end

end Sys2Proof.Machine

open Sys2Proof Sys2Proof.Machine

/-- Settles O38. -/
theorem lineMeasures : Obligations.LineMeasures := by
  intro s l live r withLine
  refine ⟨⟨_, next_event_settled live rfl, s.weigh_sameBut l, ⟨⟨l.val, by omega⟩, rfl, s.weigh_field l⟩, fun kind => ?_,
    fun kind => ?_⟩, fun whole fresh => ?_, fun t timer past => ?_, fun t timer past => ?_⟩
  · rw [State.weigh_batch kind]
    exact ⟨rfl, rfl⟩
  · rw [State.weigh_continuous kind]
    refine ⟨?_, fun within => ?_⟩
    · rw [State.deliver_lines, State.modLine, upd_upd]
      rfl
    obtain ⟨shift, alarm, attention⟩ := State.deliver_congr (s := s)
      (t := (s.countPulse ⟨l.val, by omega⟩).modLine l fun r =>
      { r with window := r.window ++ [(s.floorTime, s.lines[l.val].cfg.gramsPerPulse)] }) l s.lines[l.val].cfg.gramsPerPulse
      rfl rfl rfl rfl (by simp [State.modLine])
    rw [shift, alarm, attention, State.deliver_within (s := s) (grams := s.lines[l.val].cfg.gramsPerPulse) within]
    exact ⟨congrArg LineTotals.mass (upd_get_self _ _ _), congrArg LineTotals.heat (upd_get_self _ _ _), rfl, rfl, rfl⟩
  · have due : r.measureDue s.floorTime = true := by
      simp [Line.measureDue, whole, fresh]
    have ticks : exec (.measuredRateTick l) s = .next (withLine fun _ => r.measure s.floorTime).settle.pump :=
      next_settled live due (congrArg (fun v => ({ s with lines := v } : State)) (upd_congr rfl))
    refine ⟨r.measure s.floorTime, ticks, ?_⟩
    clear ticks due
    clear_value r
    have measured := r.measure_eq s.floorTime
    refine ⟨r.measure_formed _, fun kind => ?_, fun kind => ?_, fun apart => ?_, fun kind opened => ?_⟩
    · rw [r.measure_measured, if_neg (by rw [kind]; decide)]
    · rw [r.measure_measured, if_pos kind, measuredRate_eq, r.measure_window]
    · rw [measured, compareRates_apart (r := r.formed _) apart]
      exact ⟨rfl, rfl⟩
    · intro limit
      rw [r.measure_measured]
      refine ⟨fun within => ?_, fun beyond => ?_⟩
      · rw [measured, compareRates_within (r := r.formed _) kind opened within]
        exact ⟨rfl, rfl⟩
      · rw [measured, compareRates_beyond (r := r.formed _) kind opened beyond]
        exact ⟨rfl, rfl⟩
  · exact next_settled live (isDue_of timer past) rfl
  · exact next_settled live (isDue_of timer past) (congrArg (State.raise · .feed) (s.modLine_modLine l _ _))

end

section
/-! What the operations on one line make of its record, and what the retirement and the take-up of its orders leave of it and
of the other lines (R45 to R47, R54 to R57). -/

set_option Elab.async false

namespace Sys2Proof.Machine

open Sys2Proof

/-! ### The record after one operation -/

/-- A line with a reason flag set (R57). -/
def Line.flagged (r : Line) : Reason → Line
  | .completion => { r with completionFlag := true }
  | .lowWater => { r with lowWaterFlag := true }
  | .empty => { r with emptyFlag := true }
  | .state => { r with stateFlag := true }

/-- A line whose order `o` has given its notice at `now` (R56). -/
def Line.noticed (r : Line) (o : Order) (now : Nat) : Line :=
  if o.notify then
    if o.delay && r.cfg.noticeDelay != 0 then { r with noticeAt := some (now + r.cfg.noticeDelay * 100) }
    else { r with noticeAt := none, completionFlag := true }
  else r

/-- A line whose queue has been checked (R57). -/
def Line.checked (r : Line) : Line :=
  { r with
    lowWaterFlag := r.lowWaterFlag || decide (r.cfg.lowWater ≠ 0 ∧ r.queue.length = r.cfg.lowWater),
    emptyFlag := r.emptyFlag || decide (r.queue = [] ∧ r.state = .opened) }

theorem Line.addCompletion_eq (r : Line) (c : Completion) :
    r.addCompletion c =
      { r with completions := (r.addCompletion c).completions, overrun := (r.addCompletion c).overrun } := by
  unfold Line.addCompletion
  split <;> rfl

theorem Line.retire_eq (r : Line) (o : Order) (rest : List Order) (c : Completion) :
    r.retire o rest c =
      { r with
        queue := rest, progress := none, retired := r.retired + 1, completions := (r.retire o rest c).completions,
        overrun := (r.retire o rest c).overrun } := by
  unfold Line.retire
  split
  · exact Line.addCompletion_eq _ _
  · rfl

theorem Line.discard_eq (r : Line) (o : Order) (rest : List Order) (c : Completion) :
    r.discard o rest c =
      { r with
        queue := rest, discarded := r.discarded + 1, completions := (r.discard o rest c).completions,
        overrun := (r.discard o rest c).overrun } := by
  unfold Line.discard
  split
  · exact Line.addCompletion_eq _ _
  · rfl

theorem Line.noticed_eq (r : Line) (o : Order) (now : Nat) :
    r.noticed o now =
      { r with noticeAt := (r.noticed o now).noticeAt, completionFlag := (r.noticed o now).completionFlag } := by
  unfold Line.noticed
  split
  · split <;> rfl
  · rfl

section
variable (s : State) (l : Fin 6)

theorem State.modLine_lines (f : Line → Line) : (s.modLine l f).lines = upd s.lines l f := rfl

theorem State.setReason_lines (reason : Reason) : (s.setReason l reason).lines = upd s.lines l (·.flagged reason) := by
  cases reason <;> rfl

theorem State.notice_lines (o : Order) : (s.notice l o).lines = upd s.lines l (·.noticed o s.floorTime) := by
  unfold State.notice
  split
  next asked =>
    split
    next later =>
      rw [State.modLine_lines]
      refine upd_congr ?_
      simp only [Line.noticed, if_pos asked, if_pos later]
    next now =>
      rw [State.setReason_lines, State.modLine_lines, upd_upd]
      refine upd_congr ?_
      simp only [Line.noticed, if_pos asked, if_neg now, Line.flagged]
  next unasked =>
    refine (upd_same ?_).symm
    simp only [Line.noticed, if_neg unasked]

theorem State.queueReasons_lines : (s.queueReasons l).lines = upd s.lines l Line.checked := by
  simp only [State.queueReasons]
  by_cases low : s.lines[l.val].cfg.lowWater ≠ 0 ∧ s.lines[l.val].queue.length = s.lines[l.val].cfg.lowWater
  · by_cases empty : s.lines[l.val].queue = [] ∧ s.lines[l.val].state = .opened
    · rw [if_pos low, if_pos empty, State.setReason_lines, State.setReason_lines, upd_upd]
      refine upd_congr ?_
      rw [Line.checked, decide_eq_true low, decide_eq_true empty, Bool.or_true, Bool.or_true]
      rfl
    · rw [if_pos low, if_neg empty, State.setReason_lines]
      refine upd_congr ?_
      rw [Line.checked, decide_eq_true low, decide_eq_false empty, Bool.or_true, Bool.or_false]
      rfl
  · by_cases empty : s.lines[l.val].queue = [] ∧ s.lines[l.val].state = .opened
    · rw [if_neg low, if_pos empty, State.setReason_lines]
      refine upd_congr ?_
      rw [Line.checked, decide_eq_false low, decide_eq_true empty, Bool.or_true, Bool.or_false]
      rfl
    · rw [if_neg low, if_neg empty]
      refine (upd_same ?_).symm
      rw [Line.checked, decide_eq_false low, decide_eq_false empty, Bool.or_false, Bool.or_false]

end

section
variable {s : State} {l : Fin 6} {o : Order} {rest : List Order} (head : s.lines[l.val].queue = o :: rest)
include head

/-- The record with which the head order ends (Table 2-5). -/
theorem State.endHead_lines (outcome : OrderOutcome) :
    (s.endHead l outcome).lines =
      upd s.lines l (·.retire o rest (completionOf o outcome s.lines[l.val].progress s.floorTime (s.batchCounts l o))) := by
  rw [State.endHead_eq outcome head]
  cases o.body <;> simp only [State.closeGate_frame, State.modLineTotals_frame] <;> rfl

theorem State.retireHead_lines (outcome : OrderOutcome) :
    (s.retireHead l outcome).lines =
      upd s.lines l fun r =>
        ((r.retire o rest (completionOf o outcome s.lines[l.val].progress s.floorTime (s.batchCounts l o))).noticed o
          s.floorTime).checked := by
  have retires : s.retireHead l outcome = ((s.endHead l outcome).notice l o).queueReasons l := by
    simp only [State.retireHead, head]
  have time : (s.endHead l outcome).floorTime = s.floorTime := by simp
  rw [retires, State.queueReasons_lines, State.notice_lines, State.endHead_lines head, upd_upd, upd_upd, time]

end

/-! ### What retirement and take-up leave -/

/-- The record of a line but for what an evaluation writes (R50, R52, R82). -/
def Line.core (r : Line) : Line :=
  { r with
    allowed := 0, cut := false, commanded := 0, deviation := false, deviationAt := none,
    progress := r.progress.map fun p => { p with cut := false } }

/-- The record of a line but for what an evaluation, the end of an order and a take-up write. -/
def Line.base (r : Line) : Line :=
  { r with
    cv := 0, priority := 0, requested := 0, allowed := 0, cut := false, commanded := 0, deviation := false,
    deviationAt := none, queue := [], progress := none, completions := [], overrun := false, noticeAt := none,
    completionFlag := false, lowWaterFlag := false, emptyFlag := false, retired := 0 }

/-- What the end of an order and a take-up leave of a batch record. -/
def Batch.slots (x : Batch) : Option Slot × Option SlotRecord × Nat × Bool := (x.slot, x.last, x.misses, x.batchMissed)

theorem State.evaluate_core (s : State) (m : Fin 6) : s.evaluate.lines[m].core = s.lines[m].core := by
  rw [s.evaluate_line m]
  simp only [Line.core, Option.map_map]
  rfl

theorem State.evaluate_base (s : State) (m : Fin 6) : s.evaluate.lines[m].base = s.lines[m].base := by
  rw [s.evaluate_line m]
  rfl

theorem Line.retire_base (r : Line) (o : Order) (rest : List Order) (c : Completion) : (r.retire o rest c).base = r.base
    := by
  rw [Line.retire_eq]
  rfl

theorem Line.noticed_base (r : Line) (o : Order) (now : Nat) : (r.noticed o now).base = r.base := by
  rw [Line.noticed_eq]
  rfl

theorem Line.checked_base (r : Line) : r.checked.base = r.base := rfl

theorem Line.retire_queue (r : Line) (o : Order) (rest : List Order) (c : Completion) : (r.retire o rest c).queue = rest
    := by
  rw [Line.retire_eq]

theorem Line.retire_retired (r : Line) (o : Order) (rest : List Order) (c : Completion) :
    (r.retire o rest c).retired = r.retired + 1 := by
  rw [Line.retire_eq]

/-- Orders of line `l` have ended at the head of its queue, or become active, from `s` to `t`: the other lines are left but
for evaluations, the line's own record but for its orders, and each order that left the queue is counted retired. -/
structure Falls (l : Fin 6) (s t : State) : Prop where
  others : ∀ m : Fin 6, m ≠ l → t.lines[m].core = s.lines[m].core
  base : t.lines[l].base = s.lines[l].base
  queue : t.lines[l].queue <:+ s.lines[l].queue
  counted : t.lines[l].retired + t.lines[l].queue.length = s.lines[l].retired + s.lines[l].queue.length
  events : s.shift.current.events <+: t.shift.current.events
  slots : ∀ b : Fin 2, t.batches[b].slots = s.batches[b].slots
  gate : ∀ b : Fin 2, s.batches[b].gateOpen = false → s.batches[b].idle = 0 →
    t.batches[b].gateOpen = false ∧ t.batches[b].idle = 0

namespace Falls

variable {l : Fin 6} {s t u : State}

theorem refl (l : Fin 6) (s : State) : Falls l s s :=
  ⟨fun _ _ => rfl, rfl, List.suffix_refl _, rfl, List.prefix_refl _, fun _ => rfl, fun _ gate idle => ⟨gate, idle⟩⟩

theorem trans (first : Falls l s t) (second : Falls l t u) : Falls l s u where
  others m other := (second.others m other).trans (first.others m other)
  base := second.base.trans first.base
  queue := second.queue.trans first.queue
  counted := second.counted.trans first.counted
  events := first.events.trans second.events
  slots b := (second.slots b).trans (first.slots b)
  gate b gate idle := (first.gate b gate idle).elim fun gate idle => second.gate b gate idle

/-- An update of the line's record alone that leaves its queue, its count and its base. -/
theorem of_line {f : Line → Line} (lines : t.lines = upd s.lines l f) (base : (f s.lines[l]).base = s.lines[l].base)
    (queue : (f s.lines[l]).queue <:+ s.lines[l].queue)
    (counted : (f s.lines[l]).retired + (f s.lines[l]).queue.length = s.lines[l].retired + s.lines[l].queue.length)
    (shift : t.shift.current.events = s.shift.current.events) (slots : ∀ b : Fin 2, t.batches[b].slots = s.batches[b].slots)
    (gate : ∀ b : Fin 2, s.batches[b].gateOpen = false → s.batches[b].idle = 0 →
      t.batches[b].gateOpen = false ∧ t.batches[b].idle = 0) : Falls l s t := by
  have own : t.lines[l] = f s.lines[l] := by
    rw [lines]
    exact upd_get_self _ _ _
  refine ⟨fun m other => ?_, by rw [own, base], by rw [own]; exact queue, by rw [own, counted], by rw [shift], slots, gate⟩
  rw [lines]
  exact congrArg Line.core (upd_get_ne _ _ _ _ (Ne.symm other))

theorem modLine {f : Line → Line} (base : ∀ r, (f r).base = r.base) (queue : ∀ r, (f r).queue = r.queue)
    (retired : ∀ r, (f r).retired = r.retired) : Falls l s (s.modLine l f) :=
  .of_line rfl (base _) (by rw [queue]) (by rw [queue, retired]) rfl (fun _ => rfl) fun _ gate idle => ⟨gate, idle⟩

theorem evaluate (l : Fin 6) (s : State) : Falls l s s.evaluate where
  others m _ := s.evaluate_core m
  base := s.evaluate_base l
  queue := by rw [s.evaluate_line l]
  counted := by rw [s.evaluate_line l]
  events := by simp
  slots b := by simp
  gate b gate idle := by simpa using ⟨gate, idle⟩

theorem addEvent (l : Fin 6) (s : State) (e : EventKind) : Falls l s (s.addEvent e) where
  others _ _ := rfl
  base := rfl
  queue := List.suffix_refl _
  counted := rfl
  events := by
    simp only [State.addEvent, State.modShift]
    split
    · exact List.prefix_append _ _
    · exact List.prefix_refl _
  slots _ := rfl
  gate _ gate idle := ⟨gate, idle⟩

end Falls

theorem State.closeGate_batch (s : State) (l : Fin 6) (b : Fin 2) :
    (s.closeGate l).batches[b].slots = s.batches[b].slots ∧
      (batchOf l = some b ∨ (s.batches[b].gateOpen = false ∧ s.batches[b].idle = 0) →
        (s.closeGate l).batches[b].gateOpen = false ∧ (s.closeGate l).batches[b].idle = 0) := by
  unfold State.closeGate
  cases named : batchOf l with
  | none => exact ⟨rfl, fun closed => closed.resolve_left (by simp)⟩
  | some c =>
    by_cases same : c = b
    · subst same
      simp [State.modBatch, Batch.slots]
    · have other : c.val ≠ b.val := fun eq => same (Fin.ext eq)
      simp [State.modBatch, upd, other, same]

/-- The order is a BATCH order. -/
def Order.isBatch (o : Order) : Bool :=
  match o.body with
  | .batch _ _ _ => true
  | .rate _ _ _ | .context _ _ => false

section
variable {s : State} {l : Fin 6} {o : Order} {rest : List Order} (head : s.lines[l.val].queue = o :: rest)
include head

theorem State.endHead_batches (outcome : OrderOutcome) :
    (s.endHead l outcome).batches = if o.isBatch then (s.closeGate l).batches else s.batches := by
  have gate (t : State) (same : t.batches = s.batches) : (t.closeGate l).batches = (s.closeGate l).batches := by
    unfold State.closeGate
    cases batchOf l <;> simp [State.modBatch, same]
  rw [State.endHead_eq outcome head]
  cases body : o.body
  case batch =>
    have kind : o.isBatch = true := by simp only [Order.isBatch, body]
    rw [if_pos kind]
    exact gate _ rfl
  all_goals
    have kind : ¬o.isBatch = true := by simp [Order.isBatch, body]
    rw [if_neg kind]
    rfl

theorem State.retireHead_batches (outcome : OrderOutcome) :
    (s.retireHead l outcome).batches = if o.isBatch then (s.closeGate l).batches else s.batches := by
  rw [← State.endHead_batches head outcome]
  simp only [State.retireHead, head, State.queueReasons_frame, State.notice_frame]

theorem State.endHead_events (outcome : OrderOutcome) :
    (s.endHead l outcome).shift.current.events = s.shift.current.events := by
  rw [State.endHead_eq outcome head]
  cases o.body <;> simp only [State.closeGate_frame] <;> rfl

theorem State.retireHead_events (outcome : OrderOutcome) :
    (s.retireHead l outcome).shift.current.events = s.shift.current.events := by
  rw [← State.endHead_events head outcome]
  simp only [State.retireHead, head, State.queueReasons_frame, State.notice_frame]

theorem State.retireHead_falls (outcome : OrderOutcome) : Falls l s (s.retireHead l outcome) := by
  have base (r : Line) (c : Completion) : (((r.retire o rest c).noticed o s.floorTime).checked).base = r.base := by
    rw [Line.checked_base, Line.noticed_base, Line.retire_base]
  have own (r : Line) (c : Completion) :
      ((r.retire o rest c).noticed o s.floorTime).checked.queue = rest ∧
        ((r.retire o rest c).noticed o s.floorTime).checked.retired = r.retired + 1 := by
    rw [Line.checked, Line.noticed_eq, Line.retire_eq]
    exact ⟨rfl, rfl⟩
  have queue : s.lines[l].queue = o :: rest := head
  refine .of_line (State.retireHead_lines head outcome) (base _ _) ?_ ?_ (State.retireHead_events head outcome) ?_ ?_
  · rw [(own _ _).1, queue]
    exact List.suffix_cons _ _
  · rw [(own _ _).1, (own _ _).2, queue, List.length_cons]
    omega
  · intro b
    rw [State.retireHead_batches head]
    split
    · exact (s.closeGate_batch l b).1
    · rfl
  · intro b gate idle
    rw [State.retireHead_batches head]
    split
    · exact (s.closeGate_batch l b).2 (.inr ⟨gate, idle⟩)
    · exact ⟨gate, idle⟩

end

/-! ### The take-up of a queue (R45, R47) -/

/-- A line that a CONTEXT order gives its CV and its priority (R45). -/
def State.inContext (s : State) (l : Fin 6) (cv priority : Nat) : State :=
  (s.modLine l fun r => { r with cv := cv, priority := priority, progress := none }).evaluate

/-- A line whose RATE order becomes active, its target reached at once or not (R46). -/
def State.atRate (s : State) (l : Fin 6) (target : Nat) (reached : Bool) : State :=
  (s.modLine l fun r =>
    { r with
      progress := some (freshProgress r s.floorTime reached), requested := if reached then target else r.requested
        }).evaluate

/-- A line whose BATCH order becomes active, with its counts at 0 and the credit at 100 (R61). -/
def State.atBatch (s : State) (l : Fin 6) : State :=
  let t := s.modLine l fun r => { r with progress := some (freshProgress r s.floorTime false) }
  (match batchOf l with
    | some b =>
      t.modBatch b fun x => { x with indexCount := 0, opened := 0, credit := 100, fed := 0, missed := 0, skipped := 0 }
    | none => t).evaluate

section
variable (s : State) (l : Fin 6)

theorem State.inContext_falls (cv priority : Nat) : Falls l s (s.inContext l cv priority) :=
  .trans (t := s.modLine l fun r => { r with cv := cv, priority := priority, progress := none })
    (.modLine (fun _ => rfl) (fun _ => rfl) fun _ => rfl) (.evaluate _ _)

theorem State.atRate_falls (target : Nat) (reached : Bool) : Falls l s (s.atRate l target reached) :=
  .trans (t := s.modLine l fun r =>
    { r with
      progress := some (freshProgress r s.floorTime reached), requested := if reached then target else r.requested })
    (.modLine (fun _ => rfl) (fun _ => rfl) fun _ => rfl) (.evaluate _ _)

theorem State.atBatch_falls : Falls l s (s.atBatch l) := by
  have active : Falls l s (s.modLine l fun r => { r with progress := some (freshProgress r s.floorTime false) }) :=
    .modLine (fun _ => rfl) (fun _ => rfl) fun _ => rfl
  unfold State.atBatch
  refine .trans ?_ (.evaluate _ _)
  cases batchOf l with
  | none => exact active
  | some b =>
    refine active.trans (.of_line (f := id) (by simp [upd]) rfl (List.suffix_refl _) rfl rfl (fun c => ?_) fun c gate
      idle => ?_)
    · by_cases same : b.val = c.val <;> simp [State.modBatch, State.modLine, upd, Batch.slots, same]
    · by_cases same : b.val = c.val <;> simp_all [State.modBatch, State.modLine, upd]

variable {s l}

theorem State.inContext_queue (cv priority : Nat) : (s.inContext l cv priority).lines[l.val].queue = s.lines[l.val].queue
    := by
  rw [State.inContext, State.evaluate_queue, State.modLine_queue]
  exact fun _ => rfl

theorem State.atRate_queue (target : Nat) (reached : Bool) :
    (s.atRate l target reached).lines[l.val].queue = s.lines[l.val].queue := by
  rw [State.atRate, State.evaluate_queue, State.modLine_queue]
  exact fun _ => rfl

variable {o : Order} {rest : List Order}

theorem State.takeUp_context {cv priority : Nat} (body : o.body = .context cv priority) :
    s.takeUp l (o :: rest) =
      (((s.inContext l cv priority).retireHead l .complete).addEvent (.contextChange l cv)).takeUp l rest := by
  rw [State.takeUp, body]
  rfl

theorem State.takeUp_waits (body : ∀ cv priority, o.body ≠ .context cv priority) (shut : s.lines[l.val].state ≠ .opened) :
    s.takeUp l (o :: rest) = s := by
  unfold State.takeUp
  cases kind : o.body with
  | context cv priority => exact absurd kind (body cv priority)
  | rate target ramp hold => exact if_neg shut
  | batch slots revs mass => exact if_neg shut

theorem State.takeUp_rate {target ramp hold : Nat} (body : o.body = .rate target ramp hold)
    (opened : s.lines[l.val].state = .opened) :
    let reached := decide (ramp = 0 ∨ s.lines[l.val].requested = target)
    s.takeUp l (o :: rest) =
      if reached = true ∧ hold = 0 ∧ rest ≠ [] then ((s.atRate l target reached).retireHead l .complete).takeUp l rest
      else s.atRate l target reached := by
  intro reached
  rw [State.takeUp, body]
  exact if_pos opened

theorem State.takeUp_batch {slots revs mass : Nat} (body : o.body = .batch slots revs mass)
    (opened : s.lines[l.val].state = .opened) : s.takeUp l (o :: rest) = s.atBatch l := by
  rw [State.takeUp, body]
  exact if_pos opened

end

theorem State.takeUp_falls (l : Fin 6) (q : List Order) : ∀ s : State, s.lines[l.val].queue = q → Falls l s
    (s.takeUp l q) := by
  induction q with
  | nil => exact fun s _ => Falls.refl l s
  | cons o rest ih =>
    intro s head
    have retires {u : State} (queue : u.lines[l.val].queue = o :: rest) (falls : Falls l s u) :
        Falls l s ((u.retireHead l .complete).takeUp l rest) :=
      (falls.trans (State.retireHead_falls queue .complete)).trans (ih _ (State.retireHead_queue .complete queue))
    cases body : o.body with
    | context cv priority =>
      have queue := (s.inContext_queue (l := l) cv priority).trans head
      rw [State.takeUp_context body]
      exact (((s.inContext_falls l cv priority).trans (State.retireHead_falls queue .complete)).trans
        (.addEvent l _ _)).trans (ih _ (State.retireHead_queue .complete queue))
    | rate target ramp hold =>
      by_cases opened : s.lines[l.val].state = .opened
      · rw [State.takeUp_rate body opened]
        split
        · exact retires ((s.atRate_queue target _).trans head) (s.atRate_falls l target _)
        · exact s.atRate_falls l target _
      · rw [State.takeUp_waits (by simp [body]) opened]
        exact .refl l s
    | batch slots revs mass =>
      by_cases opened : s.lines[l.val].state = .opened
      · rw [State.takeUp_batch body opened]
        exact s.atBatch_falls l
      · rw [State.takeUp_waits (by simp [body]) opened]
        exact .refl l s

theorem State.completeHead_falls {s : State} {l : Fin 6} {o : Order} {rest : List Order}
    (head : s.lines[l.val].queue = o :: rest) : Falls l s (s.completeHead l) := by
  have queue := State.retireHead_queue .complete head
  have taken := ((State.retireHead_falls head .complete).trans (State.takeUp_falls l _ _ rfl)).trans (.evaluate l _)
  exact taken

end Sys2Proof.Machine

end

section
/-! CLEAR LINE: the queue is discarded and a slot in flight is aborted (R49, R54 to R57, R68). -/

set_option Elab.async false

namespace Sys2Proof.Machine

open Sys2Proof

/-! ### Notices given one after another (R56) -/

/-- The order's notice falls due at once (R56). -/
def Line.atOnce (r : Line) (o : Order) : Bool := !o.delay || r.cfg.noticeDelay == 0

/-- A line whose orders have given their notices at `now`, in turn. -/
def Line.noticedAll (r : Line) (now : Nat) (q : List Order) : Line := q.foldl (fun r o => r.noticed o now) r

/-- What a notice reads and writes of a line. -/
def Line.bell (r : Line) : Option Nat × Bool × LineSettings := (r.noticeAt, r.completionFlag, r.cfg)

theorem Line.noticed_bell (r : Line) (o : Order) (now : Nat) :
    (r.noticed o now).bell =
      if o.notify then
        (if r.atOnce o then none else some (now + r.cfg.noticeDelay * 100), r.completionFlag || r.atOnce o, r.cfg)
      else r.bell := by
  unfold Line.noticed Line.atOnce
  split
  · cases delay : o.delay <;> cases none : r.cfg.noticeDelay == 0 <;> simp_all [Line.bell]
  · rfl

theorem Line.noticedAll_bell_congr {r q : Line} (now : Nat) (os : List Order) (same : r.bell = q.bell) :
    (r.noticedAll now os).bell = (q.noticedAll now os).bell := by
  induction os generalizing r q with
  | nil => exact same
  | cons o os ih =>
    refine ih ?_
    have parts := same
    simp only [Line.bell, Prod.mk.injEq] at parts
    obtain ⟨noticeAt, flag, cfg⟩ := parts
    have atOnce : r.atOnce o = q.atOnce o := by rw [Line.atOnce, Line.atOnce, cfg]
    rw [Line.noticed_bell, Line.noticed_bell, same, flag, cfg, atOnce]

/-- The last notice decides the delay timer, and any that falls due at once sets the flag (R56). -/
theorem Line.noticedAll_bell (r : Line) (now : Nat) (os : List Order) :
    (r.noticedAll now os).bell =
      ((os.filter fun o => o.notify).getLast?.elim r.noticeAt fun o =>
          if r.atOnce o then none else some (now + r.cfg.noticeDelay * 100),
        r.completionFlag || (os.filter fun o => o.notify).any r.atOnce, r.cfg) := by
  induction os generalizing r with
  | nil => simp [Line.noticedAll, Line.bell]
  | cons o os ih =>
    have rest := ih (r.noticed o now)
    have head := r.noticed_bell o now
    cases asked : o.notify with
    | false =>
      rw [asked, if_neg Bool.false_ne_true] at head
      have same := Line.noticedAll_bell_congr now os head
      rw [List.filter_cons_of_neg (by simp [asked])]
      exact same.trans (ih r)
    | true =>
      rw [asked, if_pos rfl] at head
      simp only [Line.bell, Prod.mk.injEq] at head
      obtain ⟨noticeAt, flag, cfg⟩ := head
      rw [List.filter_cons_of_pos asked, List.getLast?_cons, List.any_cons]
      have atOnce : (r.noticed o now).atOnce = r.atOnce := by
        funext q
        rw [Line.atOnce, Line.atOnce, cfg]
      refine rest.trans ?_
      rw [noticeAt, flag, cfg, atOnce, Bool.or_assoc]
      cases (os.filter fun o => o.notify).getLast? <;> rfl

/-! ### A queue that is discarded (R49, R54) -/

/-- The batch counts in the record of an order that never became active (Table 2-5). -/
def unstarted (l : Fin 6) (o : Order) : Option (Nat × Nat × Nat) :=
  if (batchOf l).isSome && o.isBatch then some (0, 0, 0) else none

theorem State.batchCounts_unstarted {s : State} {l : Fin 6} (idle : s.lines[l.val].progress = none) (o : Order) :
    s.batchCounts l o = unstarted l o := by
  unfold State.batchCounts unstarted Order.isBatch
  cases o.body <;> cases batchOf l <;> simp [idle]

/-- The record of an order that is discarded at `now` (Table 2-5). -/
def discardedRecord (l : Fin 6) (now : Nat) (o : Order) : Completion :=
  completionOf o .discarded none now (unstarted l o)

/-- A line whose orders `q` have been discarded at `now`, in turn, with or without their notices. -/
def Line.discardAll (r : Line) (l : Fin 6) (notices : Bool) (now : Nat) : List Order → Line
  | [] => r
  | o :: q =>
    let d := r.discard o q (discardedRecord l now o)
    (if notices then d.noticed o now else d).discardAll l notices now q

theorem Line.discard_progress (r : Line) (o : Order) (q : List Order) (c : Completion) :
    (r.discard o q c).progress = r.progress := by
  rw [Line.discard_eq]

theorem Line.noticed_progress (r : Line) (o : Order) (now : Nat) : (r.noticed o now).progress = r.progress := by
  rw [Line.noticed_eq]

theorem State.discardQueue_lines {s : State} {l : Fin 6} (idle : s.lines[l.val].progress = none) (notices : Bool)
    (q : List Order) : (s.discardQueue l notices q).lines = upd s.lines l (·.discardAll l notices s.floorTime q) := by
  induction q generalizing s with
  | nil => exact (upd_same rfl).symm
  | cons o q ih =>
    rw [State.discardQueue_cons, State.batchCounts_unstarted idle]
    cases notices with
    | false =>
      simp only [Bool.false_eq_true, if_false]
      have still : (s.modLine l fun r => r.discard o q (completionOf o .discarded none s.floorTime
          (unstarted l o))).lines[l.val].progress = none := by simp [State.modLine, Line.discard_progress, idle]
      rw [ih still, State.modLine_lines, upd_upd]
      rfl
    | true =>
      simp only [if_true]
      have time (t : State) : (t.notice l o).floorTime = t.floorTime := by simp
      have still : ((s.modLine l fun r => r.discard o q (completionOf o .discarded none s.floorTime
          (unstarted l o))).notice l o).lines[l.val].progress = none := by
        simp [State.notice_lines, State.modLine, Line.noticed_progress, Line.discard_progress, idle]
      rw [ih still, State.notice_lines, State.modLine_lines, upd_upd, upd_upd, time]
      rfl

/-- What the discard of a queue leaves of a line. -/
def Line.undiscarded (r : Line) : Line :=
  { r with
    queue := [], discarded := 0, completions := [], overrun := false, noticeAt := none, completionFlag := false }

section
variable (r : Line) (o : Order) (rest : List Order) (c : Completion) (now : Nat)

theorem Line.discard_undiscarded : (r.discard o rest c).undiscarded = r.undiscarded := by
  rw [Line.discard_eq]
  rfl

theorem Line.noticed_undiscarded : (r.noticed o now).undiscarded = r.undiscarded := by
  rw [Line.noticed_eq]
  rfl

theorem Line.discard_discarded : (r.discard o rest c).discarded = r.discarded + 1 := by
  rw [Line.discard_eq]

theorem Line.noticed_discarded : (r.noticed o now).discarded = r.discarded := by
  rw [Line.noticed_eq]

theorem Line.noticed_queue : (r.noticed o now).queue = r.queue := by
  rw [Line.noticed_eq]

theorem Line.noticed_records : (r.noticed o now).records = r.records := by
  rw [Line.noticed_eq]
  rfl

theorem Line.discard_bell : (r.discard o rest c).bell = r.bell := by
  rw [Line.discard_eq]
  rfl

theorem Line.retire_bell : (r.retire o rest c).bell = r.bell := by
  rw [Line.retire_eq]
  rfl

/-- An order that leaves the queue adds its record where it asked for one. -/
theorem Line.discard_records :
    (r.discard o rest c).records = (r.addRecords (if o.notify then [c] else [])).records := by
  unfold Line.discard
  split
  · exact Line.addCompletion_records _ rfl
  · rfl

end

section
variable (r : Line) (l : Fin 6) (notices : Bool) (now : Nat) (q : List Order)

theorem Line.discardAll_undiscarded : (r.discardAll l notices now q).undiscarded = r.undiscarded := by
  induction q generalizing r with
  | nil => rfl
  | cons o q ih =>
    refine (ih _).trans ?_
    split
    · rw [Line.noticed_undiscarded, Line.discard_undiscarded]
    · rw [Line.discard_undiscarded]

theorem Line.discardAll_discarded : (r.discardAll l notices now q).discarded = r.discarded + q.length := by
  induction q generalizing r with
  | nil => rfl
  | cons o q ih =>
    refine (ih _).trans ?_
    rw [List.length_cons, ← Nat.add_assoc, Nat.add_right_comm]
    split
    · rw [Line.noticed_discarded, Line.discard_discarded]
    · rw [Line.discard_discarded]

theorem Line.discardAll_queue (whole : r.queue = q) : (r.discardAll l notices now q).queue = [] := by
  induction q generalizing r with
  | nil => exact whole
  | cons o q ih =>
    refine ih _ ?_
    split
    · rw [Line.noticed_queue, Line.discard_queue]
    · rw [Line.discard_queue]

theorem Line.discardAll_records :
    (r.discardAll l notices now q).records =
      (r.addRecords ((q.filter fun o => o.notify).map (discardedRecord l now))).records := by
  induction q generalizing r with
  | nil => rfl
  | cons o q ih =>
    have first (d : Line) (same : d.records = (r.discard o q (discardedRecord l now o)).records) :
        d.records = (r.addRecords (if o.notify then [discardedRecord l now o] else [])).records :=
      same.trans (r.discard_records o q _)
    refine (ih _).trans ?_
    rw [Line.addRecords_records _ (first _ ?_), ← Line.addRecords_append]
    · cases asked : o.notify
      · rw [List.filter_cons_of_neg (by simp [asked])]
        rfl
      · rw [List.filter_cons_of_pos asked]
        rfl
    · split
      · exact Line.noticed_records _ _ _
      · rfl

theorem Line.discardAll_bell : (r.discardAll l true now q).bell = (r.noticedAll now q).bell := by
  induction q generalizing r with
  | nil => rfl
  | cons o q ih =>
    refine (ih _).trans (Line.noticedAll_bell_congr now q ?_)
    have same := r.discard_bell o q (discardedRecord l now o)
    exact Line.noticedAll_bell_congr now [o] same

end

/-! ### A slot that is aborted (R68) -/

theorem State.abortSlot_idle {s : State} {l : Fin 6} (idle : ∀ b, batchOf l = some b → s.batches[b.val].slot = none) :
    s.abortSlot l = s := by
  unfold State.abortSlot
  cases named : batchOf l with
  | none => rfl
  | some b => simp only [idle b named]

/-- The state whose slot ends ABORTED, its charge accounted where it was dropped (R68). -/
def State.charged (s : State) (l : Fin 6) (w : Slot) : State :=
  if w.phase != .gateDelay then s.deliver l (headCharge s.lines[l.val]).2 else s

/-- The record of a slot that is aborted (R68, R69). -/
def State.abortedSlot (s : State) (l : Fin 6) (w : Slot) : SlotRecord :=
  { number := w.number, tag := (headCharge s.lines[l.val]).1, openedAt := w.openedAt,
    endedAt := (s.charged l w).floorTime, outcome := .aborted, reason := none, credit := w.credit,
    mass := if w.phase != .gateDelay then some (headCharge s.lines[l.val]).2 else none,
    estimated := w.phase != .gateDelay }

theorem State.abortSlot_slot {s : State} {l : Fin 6} {b : Fin 2} {w : Slot} (named : batchOf l = some b)
    (inFlight : s.batches[b.val].slot = some w) :
    s.abortSlot l = ((s.charged l w).modBatch b fun x => { x with slot := none }).recordSlot b (s.abortedSlot l w) := by
  simp only [State.abortSlot, named, inFlight]
  rfl

/-- The batch record of a slot that is aborted. -/
def Batch.aborted (x : Batch) (sr : SlotRecord) : Batch := { x with slot := none, last := some sr }

theorem State.abortSlot_batches {s : State} {l : Fin 6} {b : Fin 2} {w : Slot} (named : batchOf l = some b)
    (inFlight : s.batches[b.val].slot = some w) :
    (s.abortSlot l).batches = upd s.batches b (·.aborted (s.abortedSlot l w)) := by
  have same : (s.charged l w).batches = s.batches := by
    unfold State.charged
    split
    · simp
    · rfl
  have records (t : State) (sr : SlotRecord) (ended : sr.outcome = .aborted) :
      (t.recordSlot b sr).batches = upd t.batches b fun x => { x with last := some sr } := by
    simp only [State.recordSlot, ended]
    rfl
  rw [State.abortSlot_slot named inFlight, records _ _ rfl, State.modBatch]
  rw [same, upd_upd]
  rfl

section
variable (s : State) (l : Fin 6)

theorem State.abortSlot_cleared (b : Fin 2) (named : batchOf l = some b) : (s.abortSlot l).batches[b].slot = none := by
  cases inFlight : s.batches[b.val].slot with
  | none =>
    rw [State.abortSlot_idle]
    · exact inFlight
    · intro c other
      rw [Option.some.inj (other.symm.trans named)]
      exact inFlight
  | some w =>
    rw [State.abortSlot_batches named inFlight]
    exact congrArg Batch.slot (upd_get_self _ _ _)

/-- The counts of a batch record are not those of its aborted slot. -/
theorem State.abortSlot_counts (b : Fin 2) :
    (s.abortSlot l).batches[b.val].fed = s.batches[b.val].fed ∧
      (s.abortSlot l).batches[b.val].missed = s.batches[b.val].missed ∧
        (s.abortSlot l).batches[b.val].skipped = s.batches[b.val].skipped := by
  cases named : batchOf l with
  | none =>
    rw [State.abortSlot_idle (by simp [named])]
    exact ⟨rfl, rfl, rfl⟩
  | some c =>
    cases inFlight : s.batches[c.val].slot with
    | none =>
      rw [State.abortSlot_idle (by simp [named, inFlight])]
      exact ⟨rfl, rfl, rfl⟩
    | some w =>
      rw [State.abortSlot_batches named inFlight, upd_get]
      split <;> exact ⟨rfl, rfl, rfl⟩

theorem State.abortSlot_batchCounts (o : Order) : (s.abortSlot l).batchCounts l o = s.batchCounts l o := by
  unfold State.batchCounts
  rw [State.abortSlot_active]
  cases o.body <;> cases batchOf l <;> simp only [State.abortSlot_counts]

/-- Of the lines an aborted slot changes the lifetime total and the delivered mass of its own. -/
theorem State.abortSlot_line :
    (s.abortSlot l).lines =
      upd s.lines l fun r =>
        { r with lifetime := (s.abortSlot l).lines[l].lifetime, progress := (s.abortSlot l).lines[l].progress } := by
  obtain same | ⟨grams, same⟩ := s.abortSlot_lines l
  · rw [same]
    exact (upd_same rfl).symm
  · rw [same, State.deliver_lines]
    refine upd_congr ?_
    simp

theorem State.abortSlot_own :
    (s.abortSlot l).lines[l] =
      { s.lines[l] with
        lifetime := (s.abortSlot l).lines[l].lifetime, progress := (s.abortSlot l).lines[l].progress } :=
  (congrArg (fun lines : Vector Line 6 => lines[l.val]) (s.abortSlot_line l)).trans (upd_get_self _ _ _)

theorem State.abortSlot_upd (f : Line → Line) :
    upd (s.abortSlot l).lines l f = upd s.lines l fun _ => f (s.abortSlot l).lines[l] := by
  calc
    upd (s.abortSlot l).lines l f
      = upd (upd s.lines l fun r => { r with lifetime := _, progress := _ }) l f := congrArg (upd · l f) (s.abortSlot_line l)
    _ = upd s.lines l fun r => f { r with lifetime := _, progress := _ } := upd_upd _ _ _ _
    _ = upd s.lines l fun _ => f (s.abortSlot l).lines[l] := upd_congr (congrArg f (s.abortSlot_own l).symm)

theorem State.abortSlot_floorTime : (s.abortSlot l).floorTime = s.floorTime := by simp

/-- Before the drop nothing is accounted. -/
theorem State.abortSlot_undropped (waits : ∀ (b : Fin 2) (w : Slot), batchOf l = some b → s.batches[b].slot = some w →
    w.phase = .gateDelay) : (s.abortSlot l).lines = s.lines := by
  cases named : batchOf l with
  | none => rw [State.abortSlot_idle (by simp [named])]
  | some b =>
    cases inFlight : s.batches[b.val].slot with
    | none => rw [State.abortSlot_idle (by simp [named, inFlight])]
    | some w =>
      have undropped : s.charged l w = s := if_neg (by simp [waits b w named inFlight])
      rw [State.abortSlot_slot named inFlight, undropped]
      simp

theorem State.abortSlot_sameBut : SameBut [.lines, .batches, .alarm, .attention, .shift] s (s.abortSlot l) := by
  intro b other
  cases b <;> simp_all [Block.Same]

end

/-! ### CLEAR LINE (R49) -/

section
variable {s : State} {l : Fin 6} {o : Order} {rest : List Order}

theorem State.notice_sets (asked : o.notify = true) (once : s.lines[l.val].atOnce o = true) : (s.notice l o).feedSet := by
  have now : ¬(o.delay && s.lines[l.val].cfg.noticeDelay != 0) = true := by
    cases delay : o.delay <;> simp_all [Line.atOnce]
  rw [State.notice, if_pos asked, if_neg now]
  exact State.setReason_feed _ _ _

end

/-- Among the orders that are discarded one whose notice falls due at once raises FEED (R56, R57). -/
theorem State.discardQueue_sets {s : State} {l : Fin 6} {q : List Order}
    (due : (q.filter fun o => o.notify).any s.lines[l.val].atOnce = true) : (s.discardQueue l true q).feedSet := by
  induction q generalizing s with
  | nil => simp at due
  | cons o q ih =>
    have kept (t : State) (set : t.feedSet) : (t.discardQueue l true q).feedSet :=
      (Requests.refl t).discardQueue l true q 3 set
    have once (t : State) (cfg : t.lines[l.val].cfg = s.lines[l.val].cfg) : t.lines[l.val].atOnce = s.lines[l.val].atOnce
      := by
      funext p
      rw [Line.atOnce, Line.atOnce, cfg]
    have discarded (c : Completion) : (s.modLine l fun r => r.discard o q c).lines[l.val].cfg = s.lines[l.val].cfg := by
      rw [State.modLine_lines, upd_get_self, Line.discard_eq]
    rw [State.discardQueue_cons]
    by_cases now : o.notify = true ∧ s.lines[l.val].atOnce o = true
    · obtain ⟨asked, due⟩ := now
      refine kept _ (State.notice_sets asked ?_)
      rw [once _ (discarded _)]
      exact due
    · refine ih ?_
      have cfg (t : State) : (t.notice l o).lines[l.val].cfg = t.lines[l.val].cfg := by
        rw [State.notice_lines, upd_get_self, Line.noticed_eq]
      rw [if_pos rfl, once _ ((cfg _).trans (discarded _))]
      cases asked : o.notify with
      | false => rwa [List.filter_cons_of_neg (by simp [asked])] at due
      | true =>
        rw [List.filter_cons_of_pos asked, List.any_cons, Bool.or_eq_true] at due
        exact due.resolve_left fun first => now ⟨asked, first⟩

section
variable {s : State} {l : Fin 6} {o : Order} {rest : List Order} (head : s.lines[l.val].queue = o :: rest)

/-- The record of the head of a queue that is cleared (Table 2-5). -/
def State.clearedRecord (s : State) (l : Fin 6) (o : Order) : Completion :=
  completionOf o .abortedClear (s.abortSlot l).lines[l].progress s.floorTime (s.batchCounts l o)

/-- The line whose queue `o :: rest` has been cleared, before EMPTY and the evaluation (R49). -/
def State.clearedLine (s : State) (l : Fin 6) (o : Order) (rest : List Order) : Line :=
  (((s.abortSlot l).lines[l].retire o rest (s.clearedRecord l o)).noticed o s.floorTime).discardAll l true s.floorTime rest

/-- The state whose queue `o :: rest` has been cleared, before EMPTY and the evaluation (R49). -/
def State.clearedHead (s : State) (l : Fin 6) (o : Order) (rest : List Order) : State :=
  (((s.abortSlot l).endHead l .abortedClear).notice l o).discardQueue l true rest

include head

theorem State.abortSlot_head : (s.abortSlot l).lines[l.val].queue = o :: rest := by
  rw [State.abortSlot_queue, head]

theorem State.clearQueue_eq :
    s.clearQueue l =
      (if (s.clearedHead l o rest).lines[l.val].state = .opened then (s.clearedHead l o rest).setReason l .empty
        else s.clearedHead l o rest).evaluate := by
  have ends := State.notice_queue ((s.abortSlot l).endHead l .abortedClear) l o
  rw [State.endHead_queue _ (State.abortSlot_head head)] at ends
  simp only [State.clearQueue, head, ends]
  rfl

theorem State.clearedHead_lines :
    (s.clearedHead l o rest).lines = upd s.lines l fun _ => s.clearedLine l o rest := by
  have head' := State.abortSlot_head head
  have record : completionOf o .abortedClear (s.abortSlot l).lines[l.val].progress (s.abortSlot l).floorTime
      ((s.abortSlot l).batchCounts l o) = s.clearedRecord l o := by
    rw [State.abortSlot_batchCounts, State.abortSlot_floorTime]
    rfl
  have idle : (((s.abortSlot l).endHead l .abortedClear).notice l o).lines[l.val].progress = none := by
    rw [State.notice_lines, upd_get_self, Line.noticed_progress, State.endHead_lines head', upd_get_self, Line.retire_eq]
  have time : (((s.abortSlot l).endHead l .abortedClear).notice l o).floorTime = s.floorTime := by simp
  have ended : ((s.abortSlot l).endHead l .abortedClear).floorTime = s.floorTime := by simp
  rw [State.clearedHead, State.discardQueue_lines idle, time, State.notice_lines, ended, State.endHead_lines head', record,
    upd_upd, upd_upd, State.abortSlot_upd]
  rfl

end

section
variable (s : State) (l : Fin 6) (o : Order) (rest : List Order)

theorem State.clearedLine_kept :
    (s.clearedLine l o rest).undiscarded =
      { (s.abortSlot l).lines[l] with
        queue := [], progress := none, retired := (s.abortSlot l).lines[l].retired + 1, discarded := 0, completions := [],
        overrun := false, noticeAt := none, completionFlag := false } := by
  rw [State.clearedLine, Line.discardAll_undiscarded, Line.noticed_undiscarded, Line.retire_eq]
  rfl

theorem State.clearedLine_queue : (s.clearedLine l o rest).queue = [] :=
  Line.discardAll_queue _ _ _ _ _ (by rw [Line.noticed_queue, Line.retire_queue])

theorem State.clearedLine_discarded :
    (s.clearedLine l o rest).discarded = (s.abortSlot l).lines[l].discarded + rest.length := by
  rw [State.clearedLine, Line.discardAll_discarded, Line.noticed_discarded, Line.retire_eq]

theorem Line.retire_records (r : Line) (c : Completion) :
    (r.retire o rest c).records = (r.addRecords (if o.notify then [c] else [])).records := by
  unfold Line.retire
  split
  · exact Line.addCompletion_records _ rfl
  · rfl

theorem State.clearedLine_records :
    (s.clearedLine l o rest).records =
      (s.lines[l].addRecords
        ((if o.notify then [s.clearedRecord l o] else []) ++
          (rest.filter fun q => q.notify).map (discardedRecord l s.floorTime))).records := by
  rw [State.clearedLine, Line.discardAll_records, Line.addRecords_append]
  refine Line.addRecords_records _ ?_
  rw [Line.noticed_records, Line.retire_records]
  exact Line.addRecords_records _ (s.abortSlot_records l l)

theorem State.clearedLine_bell :
    (s.clearedLine l o rest).bell = (s.lines[l].noticedAll s.floorTime (o :: rest)).bell := by
  rw [State.clearedLine, Line.discardAll_bell]
  have same : ((s.abortSlot l).lines[l].retire o rest (s.clearedRecord l o)).bell = s.lines[l].bell := by
    rw [Line.retire_bell, State.abortSlot_own]
    rfl
  exact Line.noticedAll_bell_congr s.floorTime (o :: rest) same

end

theorem Line.core_idle (r : Line) : r.core.progress = none ↔ r.progress = none := Option.map_eq_none_iff

theorem State.clearQueue_empty {s : State} {l : Fin 6} (empty : s.lines[l.val].queue = []) : s.clearQueue l = s := by
  simp only [State.clearQueue, empty]

section
variable {s : State} {l : Fin 6} {o : Order} {rest : List Order} (head : s.lines[l.val].queue = o :: rest)
include head

/-- The cleared line, with EMPTY raised where it is OPEN. -/
theorem State.clearQueue_line :
    (s.clearQueue l).lines[l].core =
      { (s.clearedLine l o rest).core with
        emptyFlag := (s.clearedLine l o rest).emptyFlag || decide ((s.clearedLine l o rest).state = .opened) } := by
  have own : (s.clearedHead l o rest).lines[l.val] = s.clearedLine l o rest := by
    rw [State.clearedHead_lines head, upd_get_self]
  rw [State.clearQueue_eq head, State.evaluate_core, own]
  by_cases opened : (s.clearedLine l o rest).state = .opened
  · have flagged : ((s.clearedHead l o rest).setReason l .empty).lines[l.val] =
        { s.clearedLine l o rest with emptyFlag := true } := by
      rw [State.setReason_lines, upd_get_self, own]
      rfl
    rw [if_pos opened, Fin.getElem_fin, flagged, decide_eq_true opened, Bool.or_true]
    rfl
  · rw [if_neg opened, Fin.getElem_fin, own, decide_eq_false opened, Bool.or_false]
    rfl

theorem State.clearQueue_feedSet (due : s.lines[l].state = .opened ∨
    ((o :: rest).filter fun q => q.notify).any s.lines[l].atOnce = true) : (s.clearQueue l).feedSet := by
  have own : (s.clearedHead l o rest).lines[l.val] = s.clearedLine l o rest := by
    rw [State.clearedHead_lines head, upd_get_self]
  have state : (s.clearedLine l o rest).state = s.lines[l].state :=
    (congrArg Line.state (s.clearedLine_kept l o rest) :).trans (congrArg Line.state (s.abortSlot_own l) :)
  have settles (t : State) (set : t.feedSet) : t.evaluate.feedSet := (Requests.refl t).evaluate 3 set
  rw [State.clearQueue_eq head, own, state]
  refine settles _ ?_
  by_cases opened : s.lines[l].state = .opened
  · rw [if_pos opened]
    exact State.setReason_feed _ _ _
  · rw [if_neg opened]
    have any := due.resolve_left opened
    have once (t : State) (cfg : t.lines[l.val].cfg = s.lines[l].cfg) : t.lines[l.val].atOnce = s.lines[l].atOnce := by
      funext p
      rw [Line.atOnce, Line.atOnce, cfg]
    have ended : ((s.abortSlot l).endHead l .abortedClear).lines[l.val].cfg = s.lines[l].cfg := by
      rw [State.endHead_lines (State.abortSlot_head head), upd_get_self, Line.retire_eq]
      exact (congrArg Line.cfg (s.abortSlot_own l) :)
    by_cases first : o.notify = true ∧ s.lines[l].atOnce o = true
    · obtain ⟨asked, now⟩ := first
      exact (Requests.refl _).discardQueue l true rest 3 (State.notice_sets asked (by rw [once _ ended]; exact now))
    · refine State.discardQueue_sets ?_
      rw [once _ (by rw [State.notice_lines, upd_get_self, Line.noticed_eq]; exact ended)]
      cases asked : o.notify with
      | false => rwa [List.filter_cons_of_neg (by simp [asked])] at any
      | true =>
        rw [List.filter_cons_of_pos asked, List.any_cons, Bool.or_eq_true] at any
        exact any.resolve_left fun now => first ⟨asked, now⟩

/-- The batch records after a clear: the slot aborted, and the gate closed with a BATCH order (R67). -/
theorem State.clearQueue_batches :
    (s.clearQueue l).batches =
      if o.isBatch then ((s.abortSlot l).closeGate l).batches else (s.abortSlot l).batches := by
  rw [State.clearQueue_eq head, ← State.endHead_batches (State.abortSlot_head head) .abortedClear, State.clearedHead]
  split <;> simp only [State.evaluate_frame, State.setReason_frame, State.discardQueue_frame, State.notice_frame]

theorem State.clearQueue_others (m : Fin 6) (other : m ≠ l) : (s.clearQueue l).lines[m].core = s.lines[m].core := by
  have same : (s.clearedHead l o rest).lines[m.val] = s.lines[m.val] := by
    rw [State.clearedHead_lines head, upd_get_ne _ _ _ _ (Ne.symm other)]
  have reason : ((s.clearedHead l o rest).setReason l .empty).lines[m.val] = s.lines[m.val] := by
    rw [State.setReason_lines, upd_get_ne _ _ _ _ (Ne.symm other), same]
  rw [State.clearQueue_eq head, State.evaluate_core]
  refine congrArg Line.core ?_
  by_cases opened : (s.clearedHead l o rest).lines[l.val].state = .opened
  · simp only [if_pos opened]
    exact reason
  · simp only [if_neg opened]
    exact same

end

theorem State.clearQueue_sameBut (s : State) (l : Fin 6) :
    SameBut [.lines, .batches, .heat, .alarm, .attention, .shift] s (s.clearQueue l) := by
  intro b other
  cases b <;> simp_all [Block.Same]

end Sys2Proof.Machine

open Sys2Proof Sys2Proof.Machine

/-- Settles O35. -/
theorem lineCleared : Obligations.LineCleared := by
  intro s tag line ready u
  refine ⟨fun outside => ?_, fun l number => ?_⟩
  · refine exec_refused rfl ready ?_
    simp only [decision, decideClear, numbered_none outside]
  · intro r
    have decided : decision (.clearLine tag line) s.taken = (u.clearQueue l).settle.done [] := by
      simp only [decision, decideClear, numbered_eq number]
      rfl
    have cleared := exec_done rfl ready decided
    refine ⟨fun empty => ?_, fun o rest head => ⟨_, cleared, ?_⟩⟩
    · have none : u.clearQueue l = u := State.clearQueue_empty empty
      rw [none] at cleared
      exact cleared
    · clear cleared decided
      clear_value u
      have own := State.clearQueue_line (l := l) head
      have kept := u.clearedLine_kept l o rest
      have before := u.abortSlot_own l
      have records := u.clearedLine_records l o rest
      have bell := (u.clearedLine_bell l o rest).trans (Line.noticedAll_bell _ _ _)
      simp only [Line.records, Line.bell, Prod.mk.injEq] at records bell
      obtain ⟨completions, overrun⟩ := records
      obtain ⟨noticeAt, completionFlag, -⟩ := bell
      have idle : (u.clearQueue l).lines[l].progress = none :=
        (Line.core_idle _).1 ((congrArg Line.progress own :).trans ((Line.core_idle _).2 (congrArg Line.progress kept :)))
      have state : (u.clearedLine l o rest).state = r.state :=
        ((congrArg Line.state kept :).trans (congrArg Line.state before :))
      refine ⟨u.clearQueue_sameBut l, (congrArg Line.queue own :).trans (u.clearedLine_queue l o rest), idle,
        (congrArg Line.state own :).trans state, ?_, ?_, ?_, ?_, ?_, ?_, ?_, ?_, fun opened => ⟨?_, ?_⟩, ?_, ?_⟩
      · exact ((congrArg Line.requested own :).trans (congrArg Line.requested kept :)).trans
          (congrArg Line.requested before :)
      · exact ((congrArg Line.shutRamp own :).trans (congrArg Line.shutRamp kept :)).trans (congrArg Line.shutRamp before :)
      · exact ((congrArg Line.posted own :).trans (congrArg Line.posted kept :)).trans (congrArg Line.posted before :)
      · exact ((congrArg Line.retired own :).trans (congrArg Line.retired kept :)).trans
          (congrArg (fun q : Line => q.retired + 1) before :)
      · exact ((congrArg Line.discarded own :).trans (u.clearedLine_discarded l o rest)).trans
          (congrArg (fun q : Line => q.discarded + rest.length) before :)
      · exact ((congrArg Line.lowWaterFlag own :).trans (congrArg Line.lowWaterFlag kept :)).trans
          (congrArg Line.lowWaterFlag before :)
      · exact (congrArg Line.lifetime own :).trans (congrArg Line.lifetime kept :)
      · intro b named
        obtain ⟨slots, closed⟩ := (u.abortSlot l).closeGate_batch l b
        rw [State.clearQueue_batches head]
        cases kind : o.isBatch with
        | true =>
          rw [if_pos rfl]
          exact ⟨(congrArg Prod.fst slots :).trans (u.abortSlot_cleared l b named), (congrArg (fun x => x.2.1) slots :),
            fun _ _ _ _ => closed (.inl named)⟩
        | false =>
          rw [if_neg Bool.false_ne_true]
          refine ⟨u.abortSlot_cleared l b named, rfl, fun _ _ _ body => ?_⟩
          rw [Order.isBatch, body] at kind
          cases (kind : true = false)
      · exact (congrArg Line.emptyFlag own :).trans (by
          rw [decide_eq_true (state.trans opened), Bool.or_true])
      · exact State.clearQueue_feedSet head (.inl opened)
      · intro m other
        have same := State.clearQueue_others head m other
        exact ⟨(congrArg Line.queue same :), (congrArg Line.state same :)⟩
      · intro p batch ended discarded records z notices atOnce
        have lists : discarded = discardedRecord l u.floorTime := by
          funext q
          obtain ⟨tag, notify, delay, body⟩ := q
          cases body <;> rfl
        refine ⟨?_, ?_, fun waits => ?_, ?_, fun due => ?_, ?_⟩
        · rw [← lists] at completions
          exact (congrArg Line.completions own :).trans completions
        · rw [← lists] at overrun
          exact (congrArg Line.overrun own :).trans overrun
        · exact congrArg (fun lines : Vector Line 6 => lines[l].progress) (u.abortSlot_undropped l waits)
        · exact (congrArg Line.completionFlag own :).trans completionFlag
        · exact State.clearQueue_feedSet head (.inr due)
        · refine ((congrArg Line.noticeAt own :).trans noticeAt).trans ?_
          cases notices.getLast? <;> rfl

end

section
/-! The rates of a line in time: the ramp and the hold of its RATE order, and the ramp of a shut (R39, R46, R47). -/

set_option Elab.async false

namespace Sys2Proof.Machine

open Sys2Proof

/-! ### An order that completes (R47, R54) -/

/-- What is said of a fall of the queue depends on the flag and the settings of the line before it only. -/
theorem Line.LowWaterTaken.of_mark {r q : Line} {l : Fin 6} {n : Nat} {v : State} (same : q.mark = r.mark)
    (taken : q.LowWaterTaken l n v) : r.LowWaterTaken l n v := by
  simp only [Line.mark, Prod.mk.injEq] at same
  obtain ⟨flag, cfg⟩ := same
  unfold Line.LowWaterTaken at taken ⊢
  rwa [flag, cfg] at taken

theorem Line.checked_empties {r : Line} (empty : r.queue = []) (opened : r.state = .opened) : r.checked.emptyFlag = true :=
  (Bool.or_eq_true _ _).mpr (.inr (decide_eq_true ⟨empty, opened⟩))

theorem State.queueReasons_empties {s : State} {l : Fin 6} (empty : s.lines[l.val].queue = [])
    (opened : s.lines[l.val].state = .opened) : (s.queueReasons l).feedSet := by
  simp only [State.queueReasons]
  rw [if_pos ⟨empty, opened⟩]
  exact State.setReason_feed _ _ _

section
variable {s : State} {l : Fin 6} {o : Order} {rest : List Order} (head : s.lines[l.val].queue = o :: rest)
include head

theorem State.retireHead_retired (outcome : OrderOutcome) :
    (s.retireHead l outcome).lines[l.val].retired = s.lines[l.val].retired + 1 := by
  rw [State.retireHead_lines head, upd_get_self, Line.checked, Line.noticed_eq, Line.retire_eq]

/-- After the head has left, an order that leaves is one of those behind it. -/
theorem Falls.leaves {outcome : OrderOutcome} {t : State} (falls : Falls l (s.retireHead l outcome) t) :
    s.lines[l].retired + 1 ≤ t.lines[l].retired ∧ t.lines[l].queue <:+ rest ∧
      t.lines[l].retired + t.lines[l].queue.length = s.lines[l].retired + 1 + rest.length := by
  have suffix := falls.queue
  have counted := falls.counted
  have queue : (s.retireHead l outcome).lines[l].queue = rest := State.retireHead_queue outcome head
  have retired : (s.retireHead l outcome).lines[l].retired = s.lines[l].retired + 1 := State.retireHead_retired head outcome
  rw [queue] at suffix counted
  rw [retired] at counted
  have fewer := suffix.length_le
  exact ⟨by omega, suffix, counted⟩

theorem State.completeHead_after : Falls l (s.retireHead l .complete) (s.completeHead l) := by
  have queue := State.retireHead_queue .complete head
  have taken := State.takeUp_falls l rest _ queue
  unfold State.completeHead
  simp only [queue]
  exact taken.trans (.evaluate l _)

/-- The last order that completes leaves the line with nothing active, and EMPTY on an OPEN line. -/
theorem State.completeHead_last (last : rest = []) :
    (s.completeHead l).lines[l].progress = none ∧ (s.completeHead l).lines[l].requested = s.lines[l].requested ∧
      (s.lines[l].state = .opened →
        (s.completeHead l).lines[l].emptyFlag = true ∧ (s.completeHead l).feedSet) := by
  subst last
  have ends : s.completeHead l = (s.retireHead l .complete).evaluate := by
    rw [State.completeHead, State.retireHead_queue .complete head]
    rfl
  have core := (s.retireHead l .complete).evaluate_core l
  have own : (s.retireHead l .complete).lines[l] = _ :=
    (congrArg (fun lines : Vector Line 6 => lines[l.val]) (State.retireHead_lines head .complete)).trans (upd_get_self _ _ _)
  rw [own] at core
  rw [ends]
  refine ⟨(Line.core_idle _).1 ((congrArg Line.progress core :).trans ((Line.core_idle _).2 ?_)),
    (congrArg Line.requested core :).trans ?_, fun opened => ⟨(congrArg Line.emptyFlag core :).trans ?_, ?_⟩⟩
  · exact (Line.noticed_progress _ _ _).trans (by rw [Line.retire_eq])
  · rw [Line.core, Line.checked, Line.noticed_eq, Line.retire_eq]
    rfl
  · refine Line.checked_empties ?_ ?_
    · rw [Line.noticed_queue, Line.retire_queue]
    · rw [Line.noticed_eq, Line.retire_eq]
      exact opened
  · have noticed : ((s.endHead l .complete).notice l o).lines[l.val] =
        (s.lines[l.val].retire o [] (completionOf o .complete s.lines[l.val].progress s.floorTime
          (s.batchCounts l o))).noticed o
          (s.endHead l .complete).floorTime := by
      rw [State.notice_lines, upd_get_self, State.endHead_lines head, upd_get_self]
    have retires : s.retireHead l .complete = ((s.endHead l .complete).notice l o).queueReasons l := by
      simp only [State.retireHead, head]
    rw [retires]
    refine (Requests.refl _).evaluate 3 (State.queueReasons_empties ?_ ?_)
    · rw [noticed, Line.noticed_queue, Line.retire_queue]
    · rw [noticed, Line.noticed_eq, Line.retire_eq]
      exact opened

/-- The records of a head that completes, and of the orders that follow it at once, on the line as it was before (R47,
R54). -/
theorem State.completeHead_completed {r : Line} (records : s.lines[l].records = r.records) {now : Nat}
    (time : s.floorTime = now) {counts : Option (Nat × Nat × Nat)} (counted : s.batchCounts l o = counts) :
    ∃ later : List Completion,
      let z := ((if o.notify then [completionOf o .complete s.lines[l].progress now counts] else []) ++ later).foldl
        Line.addCompletion r
      (s.completeHead l).lines[l].completions = z.completions ∧ (s.completeHead l).lines[l].overrun = z.overrun ∧
        (∀ c ∈ later, c.outcome = .complete ∧ c.finish = now) ∧ (rest = [] → later = []) := by
  obtain ⟨later, added, after, none⟩ := State.completeHead_records head
  refine ⟨later, ?_⟩
  have ends := added.trans (Line.addRecords_records _ records)
  rw [State.endRecord, counted, time] at ends
  rw [time] at after
  exact ⟨congrArg Prod.fst ends, congrArg Prod.snd ends, after, none⟩

end

/-! ### The ramp of a RATE order (R46, R47) -/

theorem State.modLine_own (s : State) (l : Fin 6) (f : Line → Line) : (s.modLine l f).lines[l] = f s.lines[l] :=
  upd_get_self _ _ _

/-- A line `k` whole seconds into the ramp of its RATE order (R46). -/
def State.ramped (s : State) (l : Fin 6) (p : Progress) (target ramp k : Nat) : State :=
  (s.modLine l fun r =>
    { r with
      requested := rampValue p.rampStart target ramp k,
      progress :=
        some { p with
          rampDone := k,
          holdStart := if rampValue p.rampStart target ramp k = target then some s.floorTime else none } }).evaluate

theorem State.ramped_keeps (s : State) (l : Fin 6) (p : Progress) (target ramp k : Nat) :
    (s.ramped l p target ramp k).lines[l].queue = s.lines[l].queue ∧
      (s.ramped l p target ramp k).lines[l].records = s.lines[l].records ∧
        (s.ramped l p target ramp k).lines[l].mark = s.lines[l].mark ∧
          (s.ramped l p target ramp k).lines[l].retired = s.lines[l].retired := by
  refine ⟨(State.evaluate_queue _ l).trans (s.modLine_queue l _ fun _ => rfl),
    (State.evaluate_records _ l).trans (s.modLine_records l l _ fun _ => rfl),
    (State.evaluate_mark _ l).trans (s.modLine_mark l _ fun _ => rfl), ?_⟩
  have same (t : State) : t.evaluate.lines[l].retired = t.lines[l].retired := by rw [State.evaluate_line]
  exact (same _).trans (congrArg Line.retired (s.modLine_own l _) :)

section
variable {s : State} {l : Fin 6} {p : Progress} {o : Order} {rest : List Order} {target ramp hold : Nat}
  (active : s.lines[l.val].progress = some p) (head : s.lines[l.val].queue = o :: rest)
  (body : o.body = .rate target ramp hold)
include active head body

theorem Line.rampDue_of (rising : p.holdStart = none) (behind : p.rampDone < (s.floorTime - p.startTime) / 1000) :
    s.lines[l.val].rampDue s.floorTime = true := by
  obtain ⟨tag, notify, delay, kind⟩ := o
  subst body
  simp only [Line.rampDue, active, head, rising, Option.isNone_none, Bool.true_and, secondsSince, behind, decide_true]

theorem State.rampRate_eq :
    s.rampRate l =
      (let k := (s.floorTime - p.startTime) / 1000
       if rampValue p.rampStart target ramp k = target ∧ hold = 0 ∧ rest ≠ [] then
         (s.ramped l p target ramp k).completeHead l
       else s.ramped l p target ramp k) := by
  obtain ⟨tag, notify, delay, kind⟩ := o
  subst body
  simp only [State.rampRate, active, head]
  rfl

theorem Line.holdDue_of {t : Nat} (holds : p.holdStart = some t) (bounded : hold ≠ 0)
    (past : t + hold * 1000 ≤ s.floorTime) :
    isDue s.lines[l.val].holdAt s.floorTime = true := by
  obtain ⟨tag, notify, delay, kind⟩ := o
  subst body
  refine isDue_of ?_ past
  simp only [Line.holdAt, active, head, if_neg bounded, holds, Option.map_some]

end

/-! ### The ramp of a shut (R39) -/

/-- A line `k` whole seconds into the ramp of its shut (R39). -/
def State.shutRamped (s : State) (l : Fin 6) (p : ShutRamp) (k : Nat) : State :=
  (s.modLine l fun r =>
    { r with
      requested := shutValue p.rate s.lines[l.val].cfg.shutRamp k, shutRamp := some { p with done := k } }).evaluate

section
variable {s : State} {l : Fin 6} {p : ShutRamp} (ramps : s.lines[l.val].shutRamp = some p)
include ramps

theorem Line.shutRampDue_of (behind : p.done < (s.floorTime - p.since) / 1000) :
    s.lines[l.val].shutRampDue s.floorTime = true := by
  simp only [Line.shutRampDue, ramps, secondsSince, behind, decide_true]

theorem State.rampShut_eq :
    s.rampShut l =
      (let k := (s.floorTime - p.since) / 1000
       if shutValue p.rate s.lines[l.val].cfg.shutRamp k = 0 then (s.shutRamped l p k).rampEnd l
       else s.shutRamped l p k) := by
  simp only [State.rampShut, ramps]
  rfl

end

end Sys2Proof.Machine

open Sys2Proof Sys2Proof.Machine

/-- Settles O37. -/
theorem lineRates : Obligations.LineRates := by
  intro s l live r withLine completed
  have unbatched {o : Order} {target ramp hold : Nat} (body : o.body = .rate target ramp hold) (t : State) :
      t.batchCounts l o = none := by
    simp only [State.batchCounts, body]
  refine ⟨fun p o rest target ramp hold k active head body =>
    ⟨fun rising seconds behind => ?_, fun t holds bounded past => ?_⟩,
    fun p k ramps seconds behind => ?_⟩
  · subst seconds
    intro value v
    have due := Line.rampDue_of active head body rising behind
    have ramped : s.ramped l p target ramp ((s.floorTime - p.startTime) / 1000) = v := rfl
    refine ⟨fun goesOn => next_settled live due ?_, fun reached bounded follows => ?_⟩
    · rw [State.rampRate_eq active head body]
      refine (if_neg ?_).trans ramped
      rintro ⟨reached, now, follows⟩
      exact goesOn.elim (· reached) fun other => other.elim (· now) follows
    · have ends : s.rampRate l = v.completeHead l := by
        rw [State.rampRate_eq active head body]
        exact if_pos ⟨reached, bounded, follows⟩
      obtain ⟨queue, records, mark, retired⟩ := s.ramped_keeps l p target ramp ((s.floorTime - p.startTime) / 1000)
      rw [ramped] at queue records mark retired
      have head' : v.lines[l.val].queue = o :: rest := queue.trans head
      obtain ⟨leaves, suffix, -⟩ := Falls.leaves head' (State.completeHead_after head')
      refine ⟨_, next_settled live due ends, retired ▸ leaves, suffix, ?_, ?_⟩
      · have taken := (State.completeHead_lowWater head').of_mark mark
        rwa [← head] at taken
      · exact State.completeHead_completed head' records (State.evaluate_frame _).1 (unbatched body v)
  · have due := Line.holdDue_of active head body holds bounded past
    obtain ⟨leaves, suffix, -⟩ := Falls.leaves head (State.completeHead_after head)
    refine ⟨_, next_settled live due rfl, leaves, suffix, ?_, ?_, ?_, fun last => State.completeHead_last head last⟩
    · have falls := State.completeHead_falls (l := l) head
      exact (congrArg Line.state falls.base :)
    · have taken := State.completeHead_lowWater (l := l) head
      rwa [← (head : s.lines[l.val].queue = o :: rest)] at taken
    · have ended := State.completeHead_completed head rfl rfl (unbatched body s)
      rwa [active] at ended
  · subst seconds
    intro value v
    have due := Line.shutRampDue_of ramps behind
    refine ⟨fun goesOn => next_settled live due ?_, fun ended => next_settled live due ?_⟩
    · rw [State.rampShut_eq ramps]
      exact if_neg goesOn
    · rw [State.rampShut_eq ramps]
      exact if_pos ended

end

section
/-! OPEN LINE and SHUT LINE (R35, R36, R38, R39). -/

set_option Elab.async false

namespace Sys2Proof.Machine

open Sys2Proof

/-! ### Parts of a line that follow from its core and its base -/

theorem Line.base_fields {r q : Line} (same : r.base = q.base) : r.lifetime = q.lifetime ∧ r.state = q.state :=
  ⟨(congrArg Line.lifetime same :), (congrArg Line.state same :)⟩

theorem Line.core_fields {r q : Line} (same : r.core = q.core) : r.state = q.state ∧ r.queue = q.queue :=
  ⟨(congrArg Line.state same :), (congrArg Line.queue same :)⟩

theorem Line.core_shutRamp (r : Line) : r.core.shutRamp = r.shutRamp := rfl

/-! ### A line that is not OPEN, at an evaluation and a take-up -/

/-- What a line that is not OPEN keeps at an evaluation and a take-up. -/
def Line.still (r : Line) : LineState × Nat × Bool × Option Nat := (r.state, r.requested, r.deviation, r.deviationAt)

theorem Line.handed_still {r : Line} (shut : r.state ≠ .opened) (now requested allowed : Nat) :
    (r.handed now requested allowed).still = r.still := by
  simp only [Line.handed]
  split
  · rfl
  · refine (congrArg Line.still (compareRates_apart ?_)).trans ?_
    · exact .inr shut
    · rfl

theorem State.evaluate_still {s : State} {m : Fin 6} (shut : s.lines[m].state ≠ .opened) :
    s.evaluate.lines[m].still = s.lines[m].still := by
  have handed : s.evaluate.lines[m] = s.lines[m].handed s.floorTime _ _ := s.evaluateAt_line _ m
  rw [handed]
  exact Line.handed_still shut _ _ _

section
variable {s : State} {l : Fin 6} {o : Order} {rest : List Order}

theorem State.retireHead_still (head : s.lines[l.val].queue = o :: rest) (outcome : OrderOutcome) :
    (s.retireHead l outcome).lines[l].still = s.lines[l].still ∧ (s.retireHead l outcome).lines[l].progress = none ∧
      (s.retireHead l outcome).lines[l].cv = s.lines[l].cv ∧
        (s.retireHead l outcome).lines[l].priority = s.lines[l].priority := by
  have own : (s.retireHead l outcome).lines[l] = _ :=
    (congrArg (fun lines : Vector Line 6 => lines[l.val]) (State.retireHead_lines head outcome)).trans (upd_get_self _ _ _)
  rw [own, Line.checked, Line.noticed_eq, Line.retire_eq]
  exact ⟨rfl, rfl, rfl, rfl⟩

theorem State.inContext_idle (cv priority : Nat) : (s.inContext l cv priority).lines[l].progress = none := by
  have own := s.modLine_own l fun r => { r with cv := cv, priority := priority, progress := none }
  have core := State.evaluate_core (s.modLine l fun r => { r with cv := cv, priority := priority, progress := none }) l
  exact (Line.core_idle _).1 ((congrArg Line.progress core :).trans ((Line.core_idle _).2 (congrArg Line.progress own :)))

theorem State.inContext_still (shut : s.lines[l].state ≠ .opened) (cv priority : Nat) :
    (s.inContext l cv priority).lines[l].still = s.lines[l].still ∧ (s.inContext l cv priority).lines[l].progress = none
      := by
  have own := s.modLine_own l fun r => { r with cv := cv, priority := priority, progress := none }
  refine ⟨(State.evaluate_still ?_).trans (congrArg Line.still own :), State.inContext_idle cv priority⟩
  rw [own]
  exact shut

end

/-- A take-up on a line that is not OPEN makes no order active. -/
theorem State.takeUp_still (l : Fin 6) (q : List Order) : ∀ s : State, s.lines[l.val].queue = q → s.lines[l].state ≠
    .opened →
    (s.takeUp l q).lines[l].still = s.lines[l].still ∧
      (s.lines[l].progress = none → (s.takeUp l q).lines[l].progress = none) := by
  induction q with
  | nil => exact fun s _ _ => ⟨rfl, id⟩
  | cons o rest ih =>
    intro s head shut
    by_cases context : ∃ cv priority, o.body = .context cv priority
    · obtain ⟨cv, priority, body⟩ := context
      have queue := (s.inContext_queue (l := l) cv priority).trans head
      obtain ⟨given, idle⟩ := State.inContext_still shut cv priority
      obtain ⟨retired, none, -⟩ := State.retireHead_still queue .complete
      have same := retired.trans given
      obtain ⟨taken, stays⟩ := ih (((s.inContext l cv priority).retireHead l .complete).addEvent (.contextChange l cv))
        (State.retireHead_queue .complete queue) (fun opened => shut ((congrArg Prod.fst same).symm.trans opened))
      rw [State.takeUp_context body]
      exact ⟨taken.trans same, fun _ => stays none⟩
    · rw [State.takeUp_waits (fun cv priority body => context ⟨cv, priority, body⟩) shut]
      exact ⟨rfl, id⟩

/-- A CONTEXT order, which is taken up in any line state (R45). -/
def Order.isContext (o : Order) : Prop := ∃ cv priority, o.body = .context cv priority

theorem State.takeUp_head_waits {s : State} {l : Fin 6} {q : List Order} (shut : s.lines[l].state ≠ .opened)
    (waits : ∀ o ∈ q.head?, ∀ cv priority, o.body ≠ .context cv priority) : s.takeUp l q = s := by
  cases q with
  | nil => rfl
  | cons o rest => exact State.takeUp_waits (waits o rfl) shut

section
variable {s : State} {l : Fin 6} {o : Order} {rest : List Order} {cv priority : Nat}

theorem State.inContext_line (cv priority : Nat) :
    (s.inContext l cv priority).lines[l].core = { s.lines[l].core with cv := cv, priority := priority, progress := none }
      := by
  rw [State.inContext, State.evaluate_core, State.modLine_own]
  rfl

/-- The CONTEXT order at the head of a line that is not OPEN, with no CONTEXT order behind it (R45). -/
theorem State.takeUp_context_once (head : s.lines[l.val].queue = o :: rest) (body : o.body = .context cv priority)
    (alone : rest = [] ∨ s.lines[l].state ≠ .opened ∧ ∀ p ∈ rest.head?, ∀ cv priority, p.body ≠ .context cv priority) :
    let t := s.takeUp l (o :: rest)
    t.lines[l].cv = cv ∧ t.lines[l].priority = priority ∧ t.lines[l].queue = rest ∧
      t.lines[l].retired = s.lines[l].retired + 1 ∧
      t.lines[l].records =
        (s.lines[l].addRecords (if o.notify then [completionOf o .complete none s.floorTime none] else [])).records := by
  have queue := (s.inContext_queue (l := l) cv priority).trans head
  have idle := s.inContext_idle (l := l) cv priority
  have context := s.inContext_line (l := l) cv priority
  obtain ⟨retired, -, sameCv, samePriority⟩ := State.retireHead_still queue .complete
  have alone : s.takeUp l (o :: rest) =
      ((s.inContext l cv priority).retireHead l .complete).addEvent (.contextChange l cv) := by
    rw [State.takeUp_context body]
    obtain rfl | ⟨shut, waits⟩ := alone
    · rfl
    · have same := retired.trans (State.inContext_still shut cv priority).1
      exact State.takeUp_head_waits (fun opened => shut ((congrArg Prod.fst same).symm.trans opened)) waits
  have counts : (s.inContext l cv priority).batchCounts l o = none := by
    simp only [State.batchCounts, body]
  have time : (s.inContext l cv priority).floorTime = s.floorTime := (State.evaluate_frame _).1
  have records := State.retireHead_records .complete queue
  have none : (s.inContext l cv priority).lines[l.val].progress = .none := idle
  rw [State.endRecord, counts, time, none] at records
  intro t
  refine ⟨?_, ?_, ?_, ?_, ?_⟩
  all_goals simp only [t, alone]
  · exact sameCv.trans (congrArg Line.cv context :)
  · exact samePriority.trans (congrArg Line.priority context :)
  · exact State.retireHead_queue .complete queue
  · exact (State.retireHead_retired queue .complete).trans (congrArg (fun r : Line => r.retired + 1) context :)
  · exact records.trans (Line.addRecords_records _ (congrArg Line.records context :))

end

/-! ### A line that begins its shut (R38, R39) -/

/-- The line of a shut that begins, before its head ends (R38). -/
def State.shutting (s : State) (l : Fin 6) : State :=
  ((s.abortSlot l).modLine l fun r => r.enter .shutting).closeGate l

/-- The line of a shut that begins, its head ended and its queue taken up (R38, R45). -/
def State.shutHead (s : State) (l : Fin 6) : State :=
  let t := (s.shutting l).retireHead l .abortedShut
  t.takeUp l t.lines[l.val].queue

/-- The ramp of a shut that begins (R39). -/
def State.shutRamps (s : State) (l : Fin 6) : State :=
  if s.lines[l.val].requested = 0 then s.rampEnd l
  else s.modLine l fun r => { r with shutRamp := some { since := s.floorTime, rate := r.requested, done := 0 } }

theorem State.beginShut_eq (s : State) (l : Fin 6) : s.beginShut l = ((s.shutHead l).shutRamps l).evaluate := rfl

section
variable (s : State) (l : Fin 6)

theorem State.shutting_own : (s.shutting l).lines[l] = (s.abortSlot l).lines[l].enter .shutting := by
  have lines : (s.shutting l).lines = ((s.abortSlot l).modLine l fun r => r.enter .shutting).lines := by
    simp [State.shutting]
  exact (congrArg (fun v : Vector Line 6 => v[l]) lines).trans (State.modLine_own _ _ _)

theorem State.shutting_other (m : Fin 6) (other : m ≠ l) : (s.shutting l).lines[m] = s.lines[m] := by
  have lines : (s.shutting l).lines = upd s.lines l fun _ => (s.abortSlot l).lines[l].enter .shutting := by
    rw [← s.abortSlot_upd l (·.enter .shutting)]
    simp [State.shutting, State.modLine]
  exact (congrArg (fun v : Vector Line 6 => v[m]) lines).trans (upd_get_ne _ _ _ _ (Ne.symm other))

theorem State.shutting_queue : (s.shutting l).lines[l].queue = s.lines[l].queue :=
  (congrArg Line.queue (s.shutting_own l)).trans (s.abortSlot_queue l)

theorem State.shutting_records : (s.shutting l).lines[l].records = s.lines[l].records :=
  (congrArg Line.records (s.shutting_own l)).trans (s.abortSlot_records l l)

theorem State.shutting_mark : (s.shutting l).lines[l].mark = s.lines[l].mark :=
  (congrArg Line.mark (s.shutting_own l)).trans (congrArg Line.mark (s.abortSlot_own l) :)

theorem State.shutting_still : (s.shutting l).lines[l].still = (.shutting, s.lines[l].requested, false, none) :=
  (congrArg Line.still (s.shutting_own l)).trans
    (congrArg (fun r : Line => (LineState.shutting, r.requested, false, (none : Option Nat))) (s.abortSlot_own l) :)

theorem State.closeGate_counts (b : Fin 2) :
    (s.closeGate l).batches[b.val].fed = s.batches[b.val].fed ∧
      (s.closeGate l).batches[b.val].missed = s.batches[b.val].missed ∧
        (s.closeGate l).batches[b.val].skipped = s.batches[b.val].skipped := by
  unfold State.closeGate
  cases batchOf l with
  | none => exact ⟨rfl, rfl, rfl⟩
  | some c =>
    simp only [State.modBatch]
    rw [upd_get]
    split <;> exact ⟨rfl, rfl, rfl⟩

theorem State.shutting_batchCounts (o : Order) : (s.shutting l).batchCounts l o = s.batchCounts l o := by
  have active : (s.shutting l).lines[l.val].progress.isSome = s.lines[l.val].progress.isSome :=
    (congrArg (fun r : Line => r.progress.isSome) (s.shutting_own l)).trans (s.abortSlot_active l)
  unfold State.batchCounts
  rw [active]
  cases o.body <;> cases batchOf l <;>
    simp only [State.shutting, State.closeGate_counts, State.modLine_frame, State.abortSlot_counts]

theorem State.shutting_floorTime : (s.shutting l).floorTime = s.floorTime := by simp [State.shutting]

theorem State.shutHead_falls : Falls l (s.shutting l) (s.shutHead l) := by
  unfold State.shutHead
  cases head : (s.shutting l).lines[l.val].queue with
  | nil =>
    have none : (s.shutting l).retireHead l .abortedShut = s.shutting l := by simp only [State.retireHead, head]
    simp only [none, head]
    exact .refl l _
  | cons o rest =>
    have queue := State.retireHead_queue .abortedShut head
    simp only [queue]
    exact (State.retireHead_falls head .abortedShut).trans (State.takeUp_falls l rest _ queue)

end

section
variable {s : State} {l : Fin 6} {o : Order} {rest : List Order}

/-- A CONTEXT order that is taken up is among the events where the list has room (R45, R162). -/
theorem State.takeUp_contextChange {cv priority : Nat} (head : s.lines[l.val].queue = o :: rest)
    (body : o.body = .context cv priority) (room : s.shift.current.events.length < 48) :
    { time := s.floorTime, kind := .contextChange l cv } ∈ (s.takeUp l (o :: rest)).shift.current.events := by
  have queue := (s.inContext_queue (l := l) cv priority).trans head
  have events : ((s.inContext l cv priority).retireHead l .complete).shift.current.events = s.shift.current.events := by
    rw [State.retireHead_events queue]
    simp [State.inContext]
  have time : ((s.inContext l cv priority).retireHead l .complete).floorTime = s.floorTime := by simp [State.inContext]
  have later := (State.takeUp_falls l rest (((s.inContext l cv priority).retireHead l .complete).addEvent
    (.contextChange l cv))
    (State.retireHead_queue .complete queue)).events
  rw [State.takeUp_context body]
  refine later.subset ?_
  rw [← events] at room
  simp only [State.addEvent, State.modShift, if_pos room, time]
  exact List.mem_append_right _ List.mem_cons_self

theorem State.shutHead_empty (empty : s.lines[l].queue = []) : s.shutHead l = s.shutting l := by
  have queue : (s.shutting l).lines[l.val].queue = [] := (s.shutting_queue l).trans empty
  have none : (s.shutting l).retireHead l .abortedShut = s.shutting l := by simp only [State.retireHead, queue]
  simp only [State.shutHead, none, queue]
  rfl

section
variable (head : s.lines[l].queue = o :: rest)
include head

theorem State.shutting_head : (s.shutting l).lines[l.val].queue = o :: rest := (s.shutting_queue l).trans head

theorem State.shutHead_eq : s.shutHead l = ((s.shutting l).retireHead l .abortedShut).takeUp l rest := by
  simp only [State.shutHead, State.retireHead_queue .abortedShut (State.shutting_head head)]

theorem State.shutRetired_still :
    ((s.shutting l).retireHead l .abortedShut).lines[l].still = (.shutting, s.lines[l].requested, false, none) :=
  (State.retireHead_still (State.shutting_head head) .abortedShut).1.trans (s.shutting_still l)

theorem State.shutRetired_shut : ((s.shutting l).retireHead l .abortedShut).lines[l].state ≠ .opened := fun opened =>
  have apart : LineState.shutting ≠ .opened := by decide
  apart ((congrArg Prod.fst (State.shutRetired_still head) :).symm.trans opened)

/-- The record of the head of a line that begins its shut (Table 2-5). -/
def State.shutRecord (s : State) (l : Fin 6) (o : Order) : Completion :=
  completionOf o .abortedShut (s.abortSlot l).lines[l].progress s.floorTime (s.batchCounts l o)

theorem State.shutRetired_records :
    ((s.shutting l).retireHead l .abortedShut).lines[l.val].records =
      (s.lines[l].addRecords (if o.notify then [s.shutRecord l o] else [])).records := by
  have records := State.retireHead_records .abortedShut (State.shutting_head head)
  have progress : (s.shutting l).lines[l.val].progress = (s.abortSlot l).lines[l].progress :=
    (congrArg Line.progress (s.shutting_own l) :)
  rw [State.endRecord, s.shutting_batchCounts, s.shutting_floorTime, progress] at records
  exact records.trans (Line.addRecords_records _ (s.shutting_records l))

theorem State.shutHead_leaves :
    s.lines[l].retired + 1 ≤ (s.shutHead l).lines[l].retired ∧ (s.shutHead l).lines[l].queue <:+ rest ∧
      (s.shutHead l).lines[l].retired + (s.shutHead l).lines[l].queue.length = s.lines[l].retired + 1 + rest.length := by
  have taken := State.takeUp_falls l rest _ (State.retireHead_queue .abortedShut (State.shutting_head head))
  have leaves := Falls.leaves (State.shutting_head head) taken
  have retired : (s.shutting l).lines[l].retired = s.lines[l].retired :=
    (congrArg Line.retired (s.shutting_own l) :).trans (congrArg Line.retired (s.abortSlot_own l) :)
  rw [retired] at leaves
  rw [State.shutHead_eq head]
  exact leaves

theorem State.shutHead_lowWater : s.lines[l].LowWaterTaken l s.lines[l].queue.length (s.shutHead l) := by
  have queue := State.shutting_head head
  have after := State.retireHead_queue .abortedShut queue
  obtain ⟨cfg, flag, sets⟩ := State.retireHead_lowWater .abortedShut queue
  obtain ⟨taken, fewer, keeps⟩ := State.takeUp_lowWater l rest _ after
  rw [State.shutHead_eq head, head]
  exact (taken.after cfg flag sets keeps fewer).of_mark (s.shutting_mark l)

end

theorem State.shutHead_still : (s.shutHead l).lines[l].still = (.shutting, s.lines[l].requested, false, none) := by
  cases head : s.lines[l].queue with
  | nil =>
    rw [State.shutHead_empty head]
    exact s.shutting_still l
  | cons o rest =>
    rw [State.shutHead_eq head]
    exact (State.takeUp_still l rest _ (State.retireHead_queue .abortedShut (State.shutting_head head))
      (State.shutRetired_shut head)).1.trans (State.shutRetired_still head)

theorem State.shutHead_idle (ends : s.lines[l].queue ≠ [] ∨ s.lines[l].progress = none) :
    (s.shutHead l).lines[l].progress = none := by
  cases head : s.lines[l].queue with
  | nil =>
    have idle := ends.resolve_left (not_not.2 head)
    rw [State.shutHead_empty head]
    have active := s.abortSlot_active l
    have none : s.lines[l.val].progress = .none := idle
    rw [none, Option.isSome_none, Option.isSome_eq_false_iff, Option.isNone_iff_eq_none] at active
    exact (congrArg Line.progress (s.shutting_own l)).trans active
  | cons o rest =>
    rw [State.shutHead_eq head]
    exact (State.takeUp_still l rest _ (State.retireHead_queue .abortedShut (State.shutting_head head))
      (State.shutRetired_shut head)).2 (State.retireHead_still (State.shutting_head head) .abortedShut).2.1

/-! ### The ramp of the shut (R39) -/

theorem State.shutRamps_own (t : State) (l : Fin 6) :
    (t.shutRamps l).lines[l] =
      { t.lines[l] with
        shutRamp :=
          if t.lines[l].requested = 0 then none
          else some { since := t.floorTime, rate := t.lines[l].requested, done := 0 } } := by
  unfold State.shutRamps
  by_cases zero : t.lines[l.val].requested = 0
  · have lines : (t.rampEnd l).lines = (t.modLine l fun r => { r with shutRamp := none }).lines := by
      simp [State.rampEnd]
    simp only [if_pos zero, Fin.getElem_fin, lines]
    exact t.modLine_own l _
  · simp only [if_neg zero, Fin.getElem_fin]
    exact t.modLine_own l _

theorem State.shutRamps_other (t : State) (l m : Fin 6) (other : m ≠ l) : (t.shutRamps l).lines[m] = t.lines[m] := by
  unfold State.shutRamps
  by_cases zero : t.lines[l.val].requested = 0
  · have lines : (t.rampEnd l).lines = (t.modLine l fun r => { r with shutRamp := none }).lines := by
      simp [State.rampEnd]
    simp only [if_pos zero, lines]
    exact upd_get_ne _ _ _ _ (Ne.symm other)
  · simp only [if_neg zero]
    exact upd_get_ne _ _ _ _ (Ne.symm other)

theorem State.shutRamps_rest (t : State) (l : Fin 6) :
    (t.shutRamps l).shift = t.shift ∧ (t.shutRamps l).batches = t.batches ∧ (t.shutRamps l).attention = t.attention := by
  unfold State.shutRamps
  split <;> simp

theorem State.shutRamps_valveOpen (t : State) (l : Fin 6) :
    (t.shutRamps l).valveOpen (svOf l) = (decide (t.lines[l].requested ≠ 0) && t.valveOpen (svOf l)) := by
  unfold State.shutRamps
  by_cases zero : t.lines[l.val].requested = 0
  · rw [if_pos zero, State.rampEnd_valveOpen, Function.update_self]
    simp [zero]
  · rw [if_neg zero]
    simp [zero]

end

section
variable (s : State) (l : Fin 6)

theorem State.beginShut_sameBut :
    SameBut [.lines, .batches, .heat, .field, .alarm, .attention, .shift] s (s.beginShut l) := by
  intro b other
  cases b <;> simp_all [Block.Same]

/-- The line of a shut that has begun, but for what an evaluation writes. -/
theorem State.beginShut_line :
    (s.beginShut l).lines[l].core = ((s.shutHead l).shutRamps l).lines[l].core := by
  rw [s.beginShut_eq]
  exact State.evaluate_core _ l

theorem Line.still_state {r : Line} {st : LineState} {rest : Nat × Bool × Option Nat} (still : r.still = (st, rest)) :
    r.state = st := congrArg Prod.fst still

theorem State.shutRamps_still (t : State) : (t.shutRamps l).lines[l].still = t.lines[l].still := by
  rw [State.shutRamps_own]
  rfl

theorem State.beginShut_still : (s.beginShut l).lines[l].still = (.shutting, s.lines[l].requested, false, none) := by
  have own := ((s.shutHead l).shutRamps_still l).trans (State.shutHead_still (s := s))
  have apart : LineState.shutting ≠ .opened := by decide
  rw [s.beginShut_eq, State.evaluate_still (by rw [Line.still_state own]; exact apart), own]

/-- Whatever an evaluation and the ramp of the shut leave of the line. -/
theorem State.beginShut_field {α : Type} (f : Line → α) (same : ∀ q, f q.core = f q)
    (rest : ∀ q z, f { q with shutRamp := z } = f q) : f (s.beginShut l).lines[l] = f (s.shutHead l).lines[l] := by
  rw [← same, s.beginShut_line, same, State.shutRamps_own, rest]

theorem State.beginShut_shutRamp :
    (s.beginShut l).lines[l].shutRamp =
      if s.lines[l].requested = 0 then none else some { since := s.floorTime, rate := s.lines[l].requested, done := 0 } := by
  have requested : (s.shutHead l).lines[l].requested = s.lines[l].requested := by
    have held := s.shutHead_still (l := l)
    simp only [Line.still, Prod.mk.injEq] at held
    exact held.2.1
  have time : (s.shutHead l).floorTime = s.floorTime := by simp [State.shutHead, State.shutting]
  rw [← Line.core_shutRamp, s.beginShut_line, Line.core_shutRamp, State.shutRamps_own, requested, time]

theorem State.beginShut_lifetime : (s.beginShut l).lines[l].lifetime = (s.abortSlot l).lines[l].lifetime := by
  rw [s.beginShut_field l Line.lifetime (fun _ => rfl) fun _ _ => rfl]
  obtain ⟨lifetime, -⟩ := Line.base_fields (s.shutHead_falls l).base
  rw [lifetime, s.shutting_own]
  rfl

theorem State.beginShut_progress (ends : s.lines[l].queue ≠ [] ∨ s.lines[l].progress = none) :
    (s.beginShut l).lines[l].progress = none := by
  rw [← Line.core_idle, s.beginShut_line, Line.core_idle, State.shutRamps_own]
  exact State.shutHead_idle ends

theorem State.beginShut_valve :
    (s.beginShut l).valveOpen (svOf l) = (decide (s.lines[l].requested ≠ 0) && s.valveOpen (svOf l)) := by
  have requested : (s.shutHead l).lines[l].requested = s.lines[l].requested := by
    have held := s.shutHead_still (l := l)
    simp only [Line.still, Prod.mk.injEq] at held
    exact held.2.1
  have valves : (s.shutHead l).valveOpen = s.valveOpen := by simp [State.shutHead, State.shutting]
  rw [s.beginShut_eq, (State.evaluate_control _).2.2, State.shutRamps_valveOpen, requested, valves]

theorem State.beginShut_lowWater : s.lines[l].LowWaterTaken l s.lines[l].queue.length (s.beginShut l) := by
  have flag := s.beginShut_field l Line.lowWaterFlag (fun _ => rfl) fun _ _ => rfl
  have queue := s.beginShut_field l Line.queue (fun _ => rfl) fun _ _ => rfl
  have attention : (s.beginShut l).attention = (s.shutHead l).attention := by
    rw [s.beginShut_eq, ← ((s.shutHead l).shutRamps_rest l).2.2]
    simp
  have head : s.lines[l].LowWaterTaken l s.lines[l].queue.length (s.shutHead l) := by
    cases head : s.lines[l].queue with
    | nil =>
      rw [State.shutHead_empty head]
      exact .of_mark (s.shutting_mark l) (.of_same rfl (congrArg List.length ((s.shutting_queue l).trans head)))
    | cons o rest =>
      rw [← head]
      exact State.shutHead_lowWater head
  refine head.congr flag queue fun set => ?_
  rw [State.feedSet, attention]
  exact set

theorem State.beginShut_shift : (s.beginShut l).shift = (s.shutHead l).shift := by
  rw [s.beginShut_eq, ← ((s.shutHead l).shutRamps_rest l).1]
  simp

theorem State.beginShut_other (m : Fin 6) (other : m ≠ l) : (s.beginShut l).lines[m].core = s.lines[m].core := by
  rw [s.beginShut_eq, State.evaluate_core, State.shutRamps_other _ _ _ other, (s.shutHead_falls l).others m other,
    s.shutting_other l m other]

theorem State.shutting_batch (b : Fin 2) (named : batchOf l = some b) :
    (s.shutting l).batches[b].slot = none ∧ (s.shutting l).batches[b].last = (s.abortSlot l).batches[b].last ∧
      (s.shutting l).batches[b].gateOpen = false ∧ (s.shutting l).batches[b].idle = 0 := by
  obtain ⟨slots, closed⟩ := ((s.abortSlot l).modLine l fun r => r.enter .shutting).closeGate_batch l b
  obtain ⟨gate, idle⟩ := closed (.inl named)
  exact ⟨(congrArg Prod.fst slots :).trans (s.abortSlot_cleared l b named), (congrArg (fun x => x.2.1) slots :), gate, idle⟩

theorem State.beginShut_batch (b : Fin 2) (named : batchOf l = some b) :
    (s.beginShut l).batches[b].slot = none ∧ (s.beginShut l).batches[b].last = (s.abortSlot l).batches[b].last ∧
      (s.beginShut l).batches[b].gateOpen = false ∧ (s.beginShut l).batches[b].idle = 0 := by
  have batches : (s.beginShut l).batches = (s.shutHead l).batches := by
    rw [s.beginShut_eq, ← ((s.shutHead l).shutRamps_rest l).2.1]
    simp
  obtain ⟨slot, last, gate, idle⟩ := s.shutting_batch l b named
  have falls := s.shutHead_falls l
  have slots := falls.slots b
  obtain ⟨gate, idle⟩ := falls.gate b gate idle
  rw [batches]
  exact ⟨(congrArg Prod.fst slots :).trans slot, (congrArg (fun x => x.2.1) slots :).trans last, gate, idle⟩

theorem State.abortSlot_room (room : s.shift.current.events.length < 48) :
    (s.abortSlot l).shift.current.events.length < 48 := by
  have delivered (grams : Nat) : (s.deliver l grams).shift.current.events.length < 48 := by
    have same : (s.deliver l grams).shift.current.events = (s.beforeDelivery l grams).shift.current.events := by
      rw [State.deliver_eq]
      rfl
    rw [same, State.beforeDelivery]
    split
    · rw [State.closeShift_shift]
      simp only [State.shiftOpened, List.length_map]
      cases overwritten s.shift.store <;> simp
    · exact room
  cases named : batchOf l with
  | none => rwa [State.abortSlot_idle (by simp [named])]
  | some b =>
    cases inFlight : s.batches[b.val].slot with
    | none => rwa [State.abortSlot_idle (by simp [named, inFlight])]
    | some w =>
      rw [State.abortSlot_slot named inFlight]
      refine (congrArg List.length (?_ : _ = (s.charged l w).shift.current.events)).trans_lt ?_
      · rfl
      · unfold State.charged
        split
        · exact delivered _
        · exact room

end

/-! ### The orders of a line that begins its shut (R38, R45, R54) -/

section
variable {s : State} {l : Fin 6} {o : Order} {rest : List Order}

theorem State.takeUp_context_suffix {cv priority : Nat} (head : s.lines[l.val].queue = o :: rest)
    (body : o.body = .context cv priority) : (s.takeUp l (o :: rest)).lines[l].queue <:+ rest := by
  have queue := (s.inContext_queue (l := l) cv priority).trans head
  have after := State.retireHead_queue .complete queue
  have falls := State.takeUp_falls l rest (((s.inContext l cv priority).retireHead l .complete).addEvent
    (.contextChange l cv)) after
  have suffix := falls.queue
  have before : (((s.inContext l cv priority).retireHead l .complete).addEvent (.contextChange l cv)).lines[l].queue =
    rest :=
    after
  rw [before] at suffix
  rw [State.takeUp_context body]
  exact suffix

/-- What a shut that begins makes of the orders behind the head: `later` are the records they add. -/
structure State.ShutOrders (s : State) (l : Fin 6) (o : Order) (rest : List Order) (later : List Completion) : Prop where
  records : (s.shutHead l).lines[l].records =
    (s.lines[l].addRecords ((if o.notify then [s.shutRecord l o] else []) ++ later)).records
  complete : ∀ c ∈ later, c.outcome = .complete ∧ c.finish = s.floorTime
  waits : (∀ q ∈ rest.head?, ∀ cv priority, q.body ≠ .context cv priority) →
    later = [] ∧ (s.shutHead l).lines[l].queue = rest ∧ (s.shutHead l).lines[l].retired = s.lines[l].retired + 1
  once : ∀ q more cv priority, rest = q :: more → q.body = .context cv priority →
    (∀ p ∈ more.head?, ∀ cv priority, p.body ≠ .context cv priority) →
      (s.shutHead l).lines[l].cv = cv ∧ (s.shutHead l).lines[l].priority = priority ∧
        (s.shutHead l).lines[l].queue = more ∧ (s.shutHead l).lines[l].retired = s.lines[l].retired + 2 ∧
          later = if q.notify then [completionOf q .complete none s.floorTime none] else []

variable (head : s.lines[l].queue = o :: rest)
include head

theorem State.shutRetired_retired :
    ((s.shutting l).retireHead l .abortedShut).lines[l].retired = s.lines[l].retired + 1 := by
  have before : (s.shutting l).lines[l.val].retired = s.lines[l].retired := by
    rw [← Fin.getElem_fin, s.shutting_own, s.abortSlot_own]
    rfl
  rw [Fin.getElem_fin, State.retireHead_retired (State.shutting_head head), before]

theorem State.shutOrders_exists : ∃ later, s.ShutOrders l o rest later := by
  have queue := State.retireHead_queue .abortedShut (State.shutting_head head)
  have shut := State.shutRetired_shut head
  have ended := State.shutRetired_records head
  have retired := State.shutRetired_retired head
  have time : ((s.shutting l).retireHead l .abortedShut).floorTime = s.floorTime := by simp [State.shutting]
  have whole := State.shutHead_eq head
  by_cases waits : ∀ q ∈ rest.head?, ∀ cv priority, q.body ≠ .context cv priority
  · rw [State.takeUp_head_waits shut waits] at whole
    refine ⟨[], ⟨?_, by simp, fun _ => ⟨rfl, ?_, ?_⟩, fun q more cv priority named body => ?_⟩⟩
    · rw [List.append_nil, whole]
      exact ended
    · rw [whole]
      exact queue
    · rw [whole]
      exact retired
    · exact absurd body (waits q (by rw [named]; rfl) cv priority)
  · obtain ⟨q, member, cv, priority, body⟩ : ∃ q ∈ rest.head?, ∃ cv priority, q.body = .context cv priority := by
      simpa only [not_forall, not_not, exists_prop] using waits
    obtain ⟨more, rfl⟩ : ∃ more, rest = q :: more := by
      cases rest with
      | nil => cases member
      | cons p more => exact ⟨more, by rw [Option.some.inj member]⟩
    have named {p : Order} {others : List Order} (same : q :: more = p :: others) : p = q ∧ others = more := by
      obtain ⟨rfl, rfl⟩ := List.cons.inj same
      exact ⟨rfl, rfl⟩
    by_cases once : ∀ p ∈ more.head?, ∀ cv priority, p.body ≠ .context cv priority
    · obtain ⟨sameCv, samePriority, left, counted, added⟩ := State.takeUp_context_once queue body (.inr ⟨shut, once⟩)
      rw [← whole, time] at added
      rw [← whole] at sameCv samePriority left counted
      refine ⟨if q.notify then [completionOf q .complete none s.floorTime none] else [],
        ⟨?_, ?_, fun none => absurd none waits, ?_⟩⟩
      · rw [added, Line.addRecords_append]
        exact Line.addRecords_records _ ended
      · intro c added
        split at added
        · rw [List.mem_singleton.1 added]
          exact ⟨rfl, rfl⟩
        · cases added
      · intro p others cv' priority' same kind _
        obtain ⟨rfl, rfl⟩ := named same
        obtain ⟨rfl, rfl⟩ := OrderBody.context.inj (body.symm.trans kind)
        exact ⟨sameCv, samePriority, left, by rw [counted, retired], rfl⟩
    · obtain ⟨later, added, complete, -⟩ := State.takeUp_records l (q :: more) _ queue
      rw [← whole] at added
      rw [time] at complete
      refine ⟨later, ⟨?_, complete, fun none => absurd none waits, fun p others _ _ same _ apart => ?_⟩⟩
      · rw [Fin.getElem_fin, added, Line.addRecords_append]
        exact Line.addRecords_records _ ended
      · obtain ⟨rfl, rfl⟩ := named same
        exact absurd apart once

theorem State.shutHead_context {q : Order} {more : List Order} {cv priority : Nat} (behind : rest = q :: more)
    (body : q.body = .context cv priority) :
    s.lines[l].retired + 2 ≤ (s.shutHead l).lines[l].retired ∧ (s.shutHead l).lines[l].queue <:+ more ∧
      (s.shift.current.events.length < 48 →
        { time := s.floorTime, kind := .contextChange l cv } ∈ (s.shutHead l).shift.current.events) := by
  subst behind
  have queue := State.retireHead_queue .abortedShut (State.shutting_head head)
  have whole := State.shutHead_eq head
  have time : ((s.shutting l).retireHead l .abortedShut).floorTime = s.floorTime := by simp [State.shutting]
  have events : ((s.shutting l).retireHead l .abortedShut).shift.current.events = (s.abortSlot l).shift.current.events := by
    rw [State.retireHead_events (State.shutting_head head)]
    simp [State.shutting]
  obtain ⟨-, -, counted⟩ := State.shutHead_leaves head
  have suffix := State.takeUp_context_suffix queue body
  rw [← whole] at suffix
  have fewer := suffix.length_le
  rw [List.length_cons] at counted
  refine ⟨by omega, suffix, fun room => ?_⟩
  have listed := State.takeUp_contextChange queue body (by rw [events]; exact s.abortSlot_room l room)
  rwa [time, ← whole] at listed

end

/-! ### The two requests (R36, Table 2-4) -/

section
variable {s : State} {line : Byte} {l : Fin 6} (named : numbered 6 line = some l)

theorem State.feeds_none {q : List Order} (empty : ∀ o ∈ q, ∃ cv priority, o.body = .context cv priority) :
    (!q.any Order.feeds) = true := by
  rw [Bool.not_eq_true', List.any_eq_false]
  exact fun o member feeds => (Order.feeds_iff o).1 feeds (empty o member)

theorem State.feeds_some {q : List Order} (feeds : ∃ o ∈ q, ∀ cv priority, o.body ≠ .context cv priority) :
    ¬(!q.any Order.feeds) = true := by
  obtain ⟨o, member, other⟩ := feeds
  have any : q.any Order.feeds = true :=
    List.any_eq_true.2 ⟨o, member, (Order.feeds_iff o).2 fun ⟨cv, priority, body⟩ => other cv priority body⟩
  simp [any]

include named

theorem State.decideOpen_barred (barred : s.burner.state ≠ .mainFiring ∨ s.lines[l].state ≠ .shut ∨
    s.record (recordOfValve (svOf l)) ≠ .ok) : decideOpen line s = s.refuse .notPermitted := by
  simp only [decideOpen, named]
  by_cases firing : s.burner.state = .mainFiring
  · rw [if_neg (not_not.2 firing), if_pos]
    have fails := barred.resolve_left (not_not.2 firing)
    rw [Bool.or_eq_true, decide_eq_true_iff]
    refine fails.imp_right fun unsound => ?_
    rw [← Bool.not_eq_false]
    exact fun sound => unsound ((DiagState.unsound_iff _).1 sound)
  · exact if_pos firing

theorem State.decideOpen_sound (firing : s.burner.state = .mainFiring) (shut : s.lines[l].state = .shut)
    (sound : s.record (recordOfValve (svOf l)) = .ok) :
    decideOpen line s =
      if (!s.lines[l].queue.any Order.feeds) = true then s.refuse .empty else (s.admitLine l).settle.accepted := by
  have fit : ¬(decide (s.lines[l].state ≠ .shut) || (s.record (recordOfValve (svOf l))).unsound) = true := by
    rw [Bool.or_eq_true, decide_eq_true_iff, (DiagState.unsound_iff _).2 sound, not_or]
    exact ⟨not_not.2 shut, Bool.false_ne_true⟩
  simp only [decideOpen, named]
  rw [if_neg (not_not.2 firing)]
  exact if_neg fit

theorem State.decideShut_ended (ended : s.lines[l].state = .shut ∨ s.lines[l].state = .shutting) :
    decideShut line s = s.done [] := by
  simp only [decideShut, named]
  obtain state | state := ended
  all_goals
    rw [Fin.getElem_fin] at state
    rw [state]

theorem State.decideShut_fault (fault : s.lines[l].state = .fault) : decideShut line s = (s.enterShut l).settle.done [] := by
  simp only [decideShut, named]
  rw [Fin.getElem_fin] at fault
  rw [fault]

theorem State.decideShut_live (live : s.lines[l].state = .admitting ∨ s.lines[l].state = .opened) :
    decideShut line s = (s.beginShut l).settle.accepted := by
  simp only [decideShut, named]
  obtain state | state := live
  all_goals
    rw [Fin.getElem_fin] at state
    rw [state]

end

end Sys2Proof.Machine

open Sys2Proof Sys2Proof.Machine

/-- Settles O36. -/
theorem lineOpenedAndShut : Obligations.LineOpenedAndShut := by
  intro s tag line ready u
  refine ⟨fun outside => ?_, fun l number => ?_⟩
  · have none := numbered_none (n := 6) outside
    exact ⟨exec_refused rfl ready (by simp only [decision, decideOpen, none]),
      exec_refused rfl ready (by simp only [decision, decideShut, none])⟩
  · intro r entering
    have some := numbered_eq (n := 6) number
    refine ⟨fun barred => ?_, fun firing shut sound => ⟨fun empty => ?_, fun feeds => ?_⟩, fun ended => ?_, fun fault => ?_,
      fun live => ?_⟩
    · exact exec_refused rfl ready (State.decideOpen_barred some barred)
    · exact exec_refused rfl ready ((State.decideOpen_sound some firing shut sound).trans (if_pos (State.feeds_none empty)))
    · have admits : u.admitLine l = ((entering .admitting).commandValve (svOf l) true).evaluate := rfl
      rw [← admits]
      exact exec_accepted rfl ready ((State.decideOpen_sound some firing shut sound).trans (if_neg (State.feeds_some feeds)))
    · exact exec_done rfl ready (State.decideShut_ended some ended)
    · have enters : u.enterShut l = ((entering .shut).addEvent (.lineShut l)).evaluate := rfl
      rw [← enters]
      exact exec_done rfl ready (State.decideShut_fault some fault)
    · have begun : exec (.shutLine tag line) s = .next ((u.beginShut l).settle.replied 0x14 tag .accepted []) :=
        exec_accepted rfl ready (State.decideShut_live some live)
      refine ⟨_, begun, ?_⟩
      clear begun
      clear_value u
      have still := u.beginShut_still l
      have valve := u.beginShut_valve l
      have ramp := u.beginShut_shutRamp l
      simp only [Line.still, Prod.mk.injEq] at still
      obtain ⟨state, requested, deviation, deviationAt⟩ := still
      refine ⟨u.beginShut_sameBut l, state, requested, u.beginShut_lowWater l, u.beginShut_lifetime l, u.beginShut_batch l,
        u.beginShut_progress l, deviation, deviationAt, fun zero => ⟨?_, ramp.trans (if_pos zero)⟩,
        fun moving => ⟨?_, ramp.trans (if_neg moving)⟩, fun o rest head => ?_, fun m other => ?_⟩
      · rw [valve, decide_eq_false (not_not.2 zero), Bool.false_and]
      · rw [valve, decide_eq_true moving, Bool.true_and]
      · obtain ⟨later, orders⟩ := State.shutOrders_exists head
        obtain ⟨leaves, suffix, -⟩ := State.shutHead_leaves head
        have records := u.beginShut_field l Line.records (fun _ => rfl) fun _ _ => rfl
        have queue := u.beginShut_field l Line.queue (fun _ => rfl) fun _ _ => rfl
        have retired := u.beginShut_field l Line.retired (fun _ => rfl) fun _ _ => rfl
        have sameCv := u.beginShut_field l Line.cv (fun _ => rfl) fun _ _ => rfl
        have samePriority := u.beginShut_field l Line.priority (fun _ => rfl) fun _ _ => rfl
        have shift := u.beginShut_shift l
        rw [orders.records] at records
        simp only [Line.records, Prod.mk.injEq] at records
        obtain ⟨completions, overrun⟩ := records
        rw [queue, retired, sameCv, samePriority, shift]
        refine ⟨leaves, suffix, later, completions, overrun, orders.complete, orders.waits, ?_⟩
        intro q more cv priority behind body
        obtain ⟨twice, left, listed⟩ := State.shutHead_context head behind body
        exact ⟨twice, left, listed, orders.once q more cv priority behind body⟩
      · have same := u.beginShut_other l m other
        exact Line.core_fields same

end

section
/-! POST ORDERS (R43 to R47, R61). -/

set_option Elab.async false

namespace Sys2Proof.Machine

open Sys2Proof

/-! ### The orders that a request carries (R44, Table 11-5) -/

/-- The fields of an order are in range on a line with these settings (R44). -/
def orderInside (c : LineSettings) (o : OrderFields) : Prop :=
  (o.kind = 0 ∧ c.kind = .continuous ∧ o.at4.toNat ≤ c.maxRate ∧ o.at6.toNat ≤ 60000) ∨
    (o.kind = 1 ∧ 5000 ≤ o.at4.toNat ∧ o.at4.toNat ≤ 40000 ∧ 1 ≤ o.at6.toNat / 256 ∧ o.at6.toNat / 256 ≤ 8) ∨
    (o.kind = 2 ∧ c.kind = .batch ∧ 1 ≤ o.at4.toNat / 256 ∧ 1 ≤ o.at4.toNat % 256 ∧ o.at4.toNat % 256 ≤ 8 ∧
      1 ≤ o.at6.toNat ∧ o.at6.toNat ≤ 2000)

/-- The order that the fields give (Table 11-5). -/
def carriedOrder (o : OrderFields) : Order :=
  { tag := o.tag.toNat, notify := o.flags.getLsbD 0, delay := o.flags.getLsbD 1,
    body :=
      if o.kind = 0 then .rate o.at4.toNat o.at6.toNat o.at8.toNat
      else if o.kind = 1 then .context o.at4.toNat (o.at6.toNat / 256)
      else .batch (o.at4.toNat / 256) (o.at4.toNat % 256) o.at6.toNat }

theorem feedOrder_some {c : LineSettings} {o : OrderFields} (within : orderInside c o) : feedOrder c o = some
    (carriedOrder o) := by
  obtain ⟨kind, line, rate, ramp⟩ | ⟨kind, low, high, one, eight⟩ | ⟨kind, line, slots, one, eight, least, most⟩ := within
  · simp [feedOrder, carriedOrder, kind, line, rate, ramp, Config.rateMax]
  · simp [feedOrder, carriedOrder, kind, inRange, highByte, low, high, one, eight]
  · simp [feedOrder, carriedOrder, kind, line, inRange, highByte, lowByte, slots, one, eight, least, most]

theorem feedOrder_none {c : LineSettings} {o : OrderFields} (beyond : ¬orderInside c o) : feedOrder c o = none := by
  have kind (k : Nat) (small : k < 256) : o.kind.toNat = k ↔ o.kind = BitVec.ofNat 8 k := by
    rw [← BitVec.toNat_inj, BitVec.toNat_ofNat, Nat.mod_eq_of_lt small]
  simp only [orderInside, not_or] at beyond
  obtain ⟨rate, context, batch⟩ := beyond
  unfold feedOrder
  split
  next zero =>
    refine if_neg fun within => rate ⟨(kind 0 (by decide)).1 zero, ?_⟩
    simp only [Bool.and_eq_true, decide_eq_true_eq, and_assoc] at within
    exact within
  next one =>
    refine if_neg fun within => context ⟨(kind 1 (by decide)).1 one, ?_⟩
    simp only [Bool.and_eq_true, inRange_iff, and_assoc] at within
    exact within
  next two =>
    refine if_neg fun within => batch ⟨(kind 2 (by decide)).1 two, ?_⟩
    simp only [Bool.and_eq_true, decide_eq_true_eq, inRange_iff, and_assoc] at within
    exact within
  · rfl

theorem feedOrders_some {c : LineSettings} {orders : List OrderFields} (within : ∀ o ∈ orders, orderInside c o) :
    feedOrders c orders = some (orders.map carriedOrder) := by
  induction orders with
  | nil => rfl
  | cons o rest ih =>
    rw [feedOrders, feedOrder_some (within o List.mem_cons_self), ih fun p later => within p (List.mem_cons_of_mem _ later)]
    rfl

theorem feedOrders_none {c : LineSettings} {orders : List OrderFields} (beyond : ∃ o ∈ orders, ¬orderInside c o) :
    feedOrders c orders = none := by
  induction orders with
  | nil => simp at beyond
  | cons o rest ih =>
    by_cases first : orderInside c o
    · obtain ⟨p, member, outside⟩ := beyond
      have later : p ∈ rest := (List.mem_cons.1 member).resolve_left fun same => outside (same ▸ first)
      rw [feedOrders, feedOrder_some first, ih ⟨p, later, outside⟩]
    · rw [feedOrders, feedOrder_none first]

theorem carriedOrder_context (o : OrderFields) :
    (∃ cv priority, (carriedOrder o).body = .context cv priority) ↔ o.kind = 1 := by
  unfold carriedOrder
  by_cases zero : o.kind = 0
  · simp [zero]
  · by_cases one : o.kind = 1
    · simp [one]
    · rw [if_neg zero, if_neg one]
      exact iff_of_false (by simp) one

/-! ### The post (R44, R45, R47) -/

theorem Line.posted_of_base {r q : Line} (same : r.base = q.base) : r.posted = q.posted := (congrArg Line.posted same :)

theorem Line.context_of_core {r q : Line} (same : r.core = q.core) :
    r.cv = q.cv ∧ r.priority = q.priority ∧ r.queue = q.queue ∧ r.retired = q.retired ∧ r.records = q.records :=
  ⟨(congrArg Line.cv same :), (congrArg Line.priority same :), (congrArg Line.queue same :), (congrArg Line.retired same :),
    (congrArg Line.records same :)⟩

theorem Line.posted_of_core {r q : Line} (same : r.core = q.core) : r.posted = q.posted := (congrArg Line.posted same :)

/-- The line with the posted orders behind its queue, before any is taken up (R44). -/
def State.posted (s : State) (l : Fin 6) (orders : List Order) : State :=
  s.modLine l fun r => { r with queue := r.queue ++ orders, posted := r.posted + orders.length }

section
variable {s : State} {l : Fin 6} (orders : List Order)

theorem State.posted_own :
    (s.posted l orders).lines[l] =
      { s.lines[l] with queue := s.lines[l].queue ++ orders, posted := s.lines[l].posted + orders.length } :=
  s.modLine_own l _

theorem State.post_empty (empty : s.lines[l].queue = []) :
    s.post l orders = ((s.posted l orders).takeUp l orders).evaluate := by
  have queue : (s.posted l orders).lines[l.val].queue = orders := by
    rw [← Fin.getElem_fin, State.posted_own, empty, List.nil_append]
  have none : s.lines[l.val].queue = [] := empty
  simp only [State.post, if_pos none]
  exact congrArg (fun q => ((s.posted l orders).takeUp l q).evaluate) queue

theorem State.post_openEnded (queued : s.lines[l].queue ≠ []) (gives : (s.posted l orders).lines[l].openEnded = true) :
    s.post l orders = ((s.posted l orders).completeHead l).evaluate := by
  have some : ¬s.lines[l.val].queue = [] := queued
  simp only [State.post, if_neg some]
  exact congrArg State.evaluate (if_pos gives)

theorem State.post_waits (queued : s.lines[l].queue ≠ []) (waits : (s.posted l orders).lines[l].openEnded = false) :
    s.post l orders = (s.posted l orders).evaluate := by
  have some : ¬s.lines[l.val].queue = [] := queued
  simp only [State.post, if_neg some]
  exact congrArg State.evaluate (if_neg (by rw [Bool.not_eq_true]; exact waits))

/-- Orders behind the head do not change whether it gives way (R44, R47). -/
theorem Line.openEnded_append (r : Line) (posted : Nat) (queued : r.queue ≠ []) :
    ({ r with queue := r.queue ++ orders, posted := posted } : Line).openEnded = r.openEnded := by
  unfold Line.openEnded
  cases head : r.queue with
  | nil => exact absurd head queued
  | cons o rest =>
    obtain ⟨tag, notify, delay, body⟩ := o
    cases r.progress <;> cases body <;> rfl

theorem State.post_falls : Falls l (s.posted l orders) (s.post l orders) := by
  by_cases empty : s.lines[l].queue = []
  · have queue : (s.posted l orders).lines[l.val].queue = orders := by
      rw [← Fin.getElem_fin, State.posted_own, empty, List.nil_append]
    rw [State.post_empty orders empty]
    exact (State.takeUp_falls l orders _ queue).trans (.evaluate l _)
  · cases gives : (s.posted l orders).lines[l].openEnded with
    | true =>
      have queue : (s.posted l orders).lines[l.val].queue = s.lines[l].queue ++ orders := by
        rw [← Fin.getElem_fin, State.posted_own]
      obtain ⟨o, rest, head⟩ := List.exists_cons_of_ne_nil empty
      rw [State.post_openEnded orders empty gives]
      rw [head] at queue
      exact (State.completeHead_falls queue).trans (.evaluate l _)
    | false =>
      rw [State.post_waits orders empty gives]
      exact .evaluate l _

theorem State.posted_mark : (s.posted l orders).lines[l].mark = s.lines[l].mark := by
  rw [State.posted_own]
  rfl

theorem Line.LowWaterTaken.evaluate {r : Line} {n : Nat} {v : State} (taken : r.LowWaterTaken l n v) :
    r.LowWaterTaken l n v.evaluate := by
  have mark := v.evaluate_mark l
  simp only [Line.mark, Prod.mk.injEq] at mark
  exact taken.congr mark.1 (v.evaluate_queue l) ((Requests.refl v).evaluate 3)

theorem State.post_lowWater :
    s.lines[l].LowWaterTaken l (s.lines[l].queue.length + orders.length) (s.post l orders) := by
  have length : (s.posted l orders).lines[l.val].queue.length = s.lines[l].queue.length + orders.length := by
    rw [← Fin.getElem_fin, State.posted_own, List.length_append]
  by_cases empty : s.lines[l].queue = []
  · have queue : (s.posted l orders).lines[l.val].queue = orders := by
      rw [← Fin.getElem_fin, State.posted_own, empty, List.nil_append]
    rw [State.post_empty orders empty, empty, List.length_nil, Nat.zero_add]
    exact ((State.takeUp_lowWater l orders _ queue).1.of_mark (State.posted_mark orders)).evaluate
  · cases gives : (s.posted l orders).lines[l].openEnded with
    | true =>
      obtain ⟨o, rest, head⟩ := List.exists_cons_of_ne_nil (List.append_ne_nil_of_left_ne_nil empty orders)
      have queue : (s.posted l orders).lines[l.val].queue = o :: rest := by
        rw [← Fin.getElem_fin, State.posted_own, head]
      rw [State.post_openEnded orders empty gives, ← length, queue]
      exact ((State.completeHead_lowWater queue).of_mark (State.posted_mark orders)).evaluate
    | false =>
      rw [State.post_waits orders empty gives]
      exact (Line.LowWaterTaken.of_mark (State.posted_mark orders) (.of_same rfl length)).evaluate

end

/-! ### The order that an OPEN line takes up at once (R46, R61) -/

section
variable {s : State} {l : Fin 6} {o : Order} {rest : List Order}

theorem State.atRate_own (target : Nat) (reached : Bool) :
    (s.atRate l target reached).lines[l].requested = (if reached then target else s.lines[l].requested) ∧
      (s.atRate l target reached).lines[l].progress.isSome = true := by
  have own := s.modLine_own l fun r =>
    { r with
      progress := some (freshProgress r s.floorTime reached), requested := if reached then target else r.requested }
  rw [State.atRate, State.evaluate_line, own]
  exact ⟨rfl, rfl⟩

theorem lineOfBatch_of {l : Fin 6} {b : Fin 2} (named : batchOf l = some b) : lineOfBatch b = l := by
  revert l b
  decide

theorem State.modBatch_own (s : State) (b : Fin 2) (f : Batch → Batch) : (s.modBatch b f).batches[b] = f s.batches[b] :=
  upd_get_self _ _ _

theorem State.BatchActivated.evaluate {v : State} {b : Fin 2} {now : Nat} (activated : v.BatchActivated b now) :
    v.evaluate.BatchActivated b now := by
  obtain ⟨count, opened, credit, fed, missed, skipped, p, progress, start, delivered⟩ := activated
  have batches : v.evaluate.batches = v.batches := by simp
  have goes : v.evaluate.lines[lineOfBatch b].progress =
      some { p with cut := p.cut || v.evaluate.lines[lineOfBatch b].cut } := by
    rw [State.evaluate_line, progress]
    rfl
  simp only [State.BatchActivated, batches]
  exact ⟨count, opened, credit, fed, missed, skipped, _, goes, start, delivered⟩

theorem State.atBatch_activated {b : Fin 2} (named : batchOf l = some b) : (s.atBatch l).BatchActivated b s.floorTime := by
  have line := lineOfBatch_of named
  subst line
  unfold State.atBatch
  simp only [named]
  refine State.BatchActivated.evaluate ?_
  have batch := (s.modLine (lineOfBatch b) fun r =>
    { r with progress := some (freshProgress r s.floorTime false) }).modBatch_own b fun x =>
      { x with indexCount := 0, opened := 0, credit := 100, fed := 0, missed := 0, skipped := 0 }
  have line := s.modLine_own (lineOfBatch b) fun r => { r with progress := some (freshProgress r s.floorTime false) }
  exact ⟨(congrArg Batch.indexCount batch :), (congrArg Batch.opened batch :), (congrArg Batch.credit batch :),
    (congrArg Batch.fed batch :), (congrArg Batch.missed batch :), (congrArg Batch.skipped batch :), _,
    (congrArg Line.progress line :), rfl, rfl⟩

theorem State.atBatch_queue : (s.atBatch l).lines[l].queue = s.lines[l].queue := by
  unfold State.atBatch
  rw [Fin.getElem_fin, State.evaluate_queue]
  cases batchOf l <;> exact s.modLine_queue l _ fun _ => rfl

end

/-! ### Orders posted to an empty queue (R44, R45) -/

section
variable {s : State} {l : Fin 6} {o : Order} {rest : List Order} (empty : s.lines[l].queue = [])
include empty

theorem State.posted_queue (orders : List Order) : (s.posted l orders).lines[l.val].queue = orders := by
  rw [← Fin.getElem_fin, State.posted_own, empty, List.nil_append]

theorem State.post_batch {slots revs mass : Nat} (opened : s.lines[l].state = .opened)
    (body : o.body = .batch slots revs mass) :
    s.post l (o :: rest) = ((s.posted l (o :: rest)).atBatch l).evaluate := by
  have live : (s.posted l (o :: rest)).lines[l.val].state = .opened := by
    rw [← Fin.getElem_fin, State.posted_own]
    exact opened
  rw [State.post_empty _ empty, State.takeUp_batch body live]

theorem State.post_rate {target hold : Nat} (opened : s.lines[l].state = .opened) (body : o.body = .rate target 0 hold) :
    s.post l [o] = ((s.posted l [o]).atRate l target true).evaluate := by
  have live : (s.posted l [o]).lines[l.val].state = .opened := by
    rw [← Fin.getElem_fin, State.posted_own]
    exact opened
  have reached : decide ((0 : Nat) = 0 ∨ (s.posted l [o]).lines[l.val].requested = target) = true := decide_eq_true
    (.inl rfl)
  rw [State.post_empty _ empty, State.takeUp_rate body live, reached, if_neg fun follows => follows.2.2 rfl]

theorem State.post_context {cv priority : Nat} (body : o.body = .context cv priority) :
    s.lines[l].retired + 1 ≤ (s.post l (o :: rest)).lines[l].retired ∧ (s.post l (o :: rest)).lines[l].queue <:+ rest ∧
      (s.shift.current.events.length < 48 →
        { time := s.floorTime, kind := .contextChange l cv } ∈ (s.post l (o :: rest)).shift.current.events) ∧
      (rest = [] ∨ s.lines[l].state ≠ .opened ∧ (∀ p ∈ rest.head?, ∀ cv priority, p.body ≠ .context cv priority) →
        (s.post l (o :: rest)).lines[l].cv = cv ∧ (s.post l (o :: rest)).lines[l].priority = priority ∧
          (s.post l (o :: rest)).lines[l].queue = rest ∧
            (s.post l (o :: rest)).lines[l].retired = s.lines[l].retired + 1 ∧
              (s.post l (o :: rest)).lines[l].records =
                (s.lines[l].addRecords
                  (if o.notify then [completionOf o .complete none s.floorTime none] else [])).records) := by
  have head := State.posted_queue empty (o :: rest)
  have whole := State.post_empty (o :: rest) empty
  have mine := s.posted_own (l := l) (o :: rest)
  have core := State.evaluate_core ((s.posted l (o :: rest)).takeUp l (o :: rest)) l
  rw [← whole] at core
  have suffix := State.takeUp_context_suffix head body
  rw [← (Line.core_fields core).2] at suffix
  have counted := (State.post_falls (s := s) (l := l) (o :: rest)).counted
  rw [mine, empty, List.nil_append, List.length_cons] at counted
  have fewer := suffix.length_le
  refine ⟨by simp only at counted; omega, suffix, fun room => ?_, fun alone => ?_⟩
  · have listed := State.takeUp_contextChange head body room
    have shift : ((s.posted l (o :: rest)).takeUp l (o :: rest)).evaluate.shift =
        ((s.posted l (o :: rest)).takeUp l (o :: rest)).shift := by simp
    rw [whole, shift]
    exact listed
  · have shut : rest = [] ∨ (s.posted l (o :: rest)).lines[l].state ≠ .opened ∧
        ∀ p ∈ rest.head?, ∀ cv priority, p.body ≠ .context cv priority := by
      rw [mine]
      exact alone
    obtain ⟨sameCv, samePriority, queue, retired, records⟩ := State.takeUp_context_once head body shut
    rw [mine] at retired records
    obtain ⟨coreCv, corePriority, coreQueue, coreRetired, coreRecords⟩ := Line.context_of_core core
    exact ⟨coreCv.trans sameCv, corePriority.trans samePriority, coreQueue.trans queue, coreRetired.trans retired,
      coreRecords.trans (records.trans (Line.addRecords_records _ rfl))⟩

end

/-! ### POST ORDERS is decided (R44) -/

theorem b1_eq (n : Nat) : b1 n = [BitVec.ofNat 8 n] := by simp [b1, beBytes]

section
variable {s : State} {line : Byte} {orders : List OrderFields}

theorem decidePost_length (outside : orders.length = 0 ∨ 4 < orders.length) :
    decidePost line orders s = s.refuse .badLength := if_pos (by simpa using outside)

section
variable (some : 1 ≤ orders.length) (few : orders.length ≤ 4)
include some few

theorem decidePost_unnamed (unnamed : numbered 6 line = none) : decidePost line orders s = s.refuse .badValue := by
  have inside : ¬(decide (orders.length = 0) || decide (4 < orders.length)) = true := by
    rw [Bool.or_eq_true, decide_eq_true_iff, decide_eq_true_iff]
    omega
  rw [decidePost, if_neg inside, unnamed]

theorem decidePost_named {l : Fin 6} (named : numbered 6 line = .some l) :
    decidePost line orders s =
      if s.burner.state = .lockout then s.refuse .notPermitted
      else
        (feedOrders s.lines[l].cfg orders).elim (s.refuse .badValue) fun posted =>
          if 16 - s.lines[l].queue.length < posted.length then s.refuse .full
          else (s.post l posted).settle.done (b1 (16 - s.lines[l].queue.length - posted.length)) := by
  have inside : ¬(decide (orders.length = 0) || decide (4 < orders.length)) = true := by
    rw [Bool.or_eq_true, decide_eq_true_iff, decide_eq_true_iff]
    omega
  rw [decidePost, if_neg inside, named]
  cases parsed : feedOrders s.lines[l].cfg orders with
  | none =>
    simp only [Fin.getElem_fin] at parsed
    simp only [Fin.getElem_fin, parsed, Option.elim_none]
  | some posted =>
    simp only [Fin.getElem_fin] at parsed
    simp only [Fin.getElem_fin, parsed, Option.elim_some]

end

end

end Sys2Proof.Machine

open Sys2Proof Sys2Proof.Machine

/-- Settles O34. -/
theorem ordersPosted : Obligations.OrdersPosted := by
  intro s tag line orders ready u answer inside order
  have ranges (c : LineSettings) (o : OrderFields) : inside c o ↔ orderInside c o := Iff.rfl
  have carries : order = carriedOrder := rfl
  refine ⟨fun outside => exec_refused rfl ready (decidePost_length outside), fun some few =>
    ⟨fun outside => ?_, fun l number => ?_⟩⟩
  · exact exec_refused rfl ready (decidePost_unnamed some few (numbered_none outside))
  · intro r
    have named := decidePost_named (s := u) some few (numbered_eq number)
    refine ⟨fun lockout => exec_refused rfl ready (named.trans (if_pos lockout)), fun running =>
      ⟨fun beyond => ?_, fun within =>
      ⟨fun full => ?_, fun room => ?_⟩⟩⟩
    · refine exec_refused rfl ready (named.trans ((if_neg running).trans ?_))
      rw [feedOrders_none beyond]
      rfl
    · refine exec_refused rfl ready (named.trans ((if_neg running).trans ?_))
      rw [feedOrders_some within, Option.elim_some, List.length_map]
      exact if_pos (by simp only [r] at full; omega)
    · have decided : decision (.postOrders tag line orders) s.taken =
          (u.post l (orders.map order)).settle.done (b1 (16 - r.queue.length - orders.length)) := by
        refine named.trans ((if_neg running).trans ?_)
        rw [feedOrders_some within, Option.elim_some, List.length_map]
        exact if_neg (by simp only [r] at room; omega)
      have content : b1 (16 - r.queue.length - orders.length) = [BitVec.ofNat 8 (16 - r.queue.length - orders.length)] :=
        b1_eq _
      rw [content] at decided
      have posted := exec_done rfl ready decided
      refine ⟨_, posted, ?_⟩
      clear posted decided
      clear_value u
      have falls := State.post_falls (s := u) (l := l) (orders.map order)
      have mine := u.posted_own (l := l) (orders.map order)
      have time : (u.posted l (orders.map order)).floorTime = u.floorTime := rfl
      refine ⟨?_, fun m other => ?_, fun waits => ?_, ?_, fun b batch empty opened o member kind => ?_,
        fun empty opened o alone kind ramp => ?_, fun empty o rest whole kind => ?_⟩
      · rw [Line.posted_of_base falls.base, mine, List.length_map]
      · have same : (u.posted l (orders.map order)).lines[m] = u.lines[m] := upd_get_ne _ _ _ _ (Ne.symm other)
        have core := falls.others m other
        rw [same] at core
        exact ⟨(Line.core_fields core).2, Line.posted_of_core core⟩
      · have orders' : u.posted l (orders.map order) = { u with
            lines := upd u.lines l fun r =>
              { r with queue := r.queue ++ orders.map order, posted := r.posted + orders.length } } := by
          rw [State.posted, List.length_map]
          rfl
        rw [← orders']
        obtain ⟨queued, closed⟩ | ⟨empty, shut, apart⟩ := waits
        · refine State.post_waits _ queued ?_
          rw [mine, Line.openEnded_append _ _ _ queued]
          exact closed
        · rw [State.post_empty _ empty, State.takeUp_head_waits (by rw [mine]; exact shut)]
          intro q member cv priority body
          rw [List.head?_map, Option.mem_map] at member
          obtain ⟨o, member, rfl⟩ := member
          exact apart o member ((carriedOrder_context o).1 ⟨cv, priority, body⟩)
      · have taken := State.post_lowWater (s := u) (l := l) (orders.map order)
        rwa [List.length_map] at taken
      · obtain ⟨rest, rfl⟩ : ∃ rest, orders = o :: rest := by
          cases orders with
          | nil => cases member
          | cons p rest => exact ⟨rest, by rw [Option.some.inj member]⟩
        have body : (order o).body = .batch (o.at4.toNat / 256) (o.at4.toNat % 256) o.at6.toNat := by
          simp [order, kind]
        have queue := State.posted_queue empty ((o :: rest).map order)
        have post := State.post_batch (rest := rest.map order) empty opened body
        rw [List.map_cons, post]
        refine ⟨(State.atBatch_activated batch).evaluate, ?_⟩
        rw [Fin.getElem_fin, State.evaluate_queue, ← Fin.getElem_fin, State.atBatch_queue]
        exact queue
      · subst alone
        have body : (order o).body = .rate o.at4.toNat 0 o.at8.toNat := by
          simp [order, kind, ramp]
        have post := State.post_rate empty opened body
        have queue := State.posted_queue empty [order o]
        obtain ⟨requested, active⟩ := (u.posted l [order o]).atRate_own (l := l) o.at4.toNat true
        rw [List.map_singleton, post, State.evaluate_line]
        refine ⟨requested, ?_, ?_⟩
        · exact (State.atRate_queue _ _).trans queue
        · rw [Option.isSome_map]
          exact active
      · subst whole
        have body : (order o).body = .context o.at4.toNat (o.at6.toNat / 256) := by
          simp [order, kind]
        obtain ⟨leaves, suffix, listed, once⟩ := State.post_context (rest := rest.map order) empty body
        rw [List.map_cons]
        refine ⟨leaves, suffix, listed, fun alone => ?_⟩
        intro ended z
        have apart : rest.map order = [] ∨ u.lines[l].state ≠ .opened ∧
            ∀ p ∈ (rest.map order).head?, ∀ cv priority, p.body ≠ .context cv priority := by
          refine alone.imp (fun none => by rw [none]; rfl) fun ⟨shut, other⟩ => ⟨shut, fun q member cv priority body => ?_⟩
          rw [List.head?_map, Option.mem_map] at member
          obtain ⟨p, member, rfl⟩ := member
          exact other p member ((carriedOrder_context p).1 ⟨cv, priority, body⟩)
        obtain ⟨sameCv, samePriority, queue, retired, records⟩ := once apart
        have added : u.lines[l].addRecords (if (order o).notify then [ended] else []) = z := by
          simp only [z]
          split <;> rfl
        rw [added] at records
        exact ⟨sameCv, samePriority, queue, retired, congrArg Prod.fst records, congrArg Prod.snd records⟩

end

section
/-! CONFIGURE LINE (R33, R60). -/

set_option Elab.async false

namespace Sys2Proof.Machine

open Sys2Proof

/-- The fields of CONFIGURE LINE are in range for a line (R33, Table 2-2). -/
def lineInside (l : Fin 6) (f : LineFields) : Prop :=
  (f.kind = 0 ∨ f.kind = 1 ∧ 4 ≤ l.val) ∧ f.maxRate.toNat ≤ 60000 ∧ f.minRate.toNat ≤ f.maxRate.toNat ∧
    1 ≤ f.gramsPerPulse.toNat ∧ 1 ≤ f.shutRamp.toNat ∧ f.shutRamp.toNat ≤ 60000 ∧ 1 ≤ f.deviationLimit.toNat ∧
    f.deviationLimit.toNat ≤ 50 ∧ 5 ≤ f.deviationTime.toNat ∧ f.deviationTime.toNat ≤ 600 ∧ f.lowWater.toNat ≤ 15 ∧
    1 ≤ f.gateDelay.toNat ∧ f.gateDelay.toNat ≤ 10

/-- The kind that CONFIGURE LINE carries. -/
def carriedKind (f : LineFields) : LineKind := if f.kind = 0 then .continuous else .batch

/-- The settings that CONFIGURE LINE carries (Table 2-2). -/
def carriedSettings (f : LineFields) : LineSettings :=
  { kind := carriedKind f, maxRate := f.maxRate.toNat, minRate := f.minRate.toNat, gramsPerPulse := f.gramsPerPulse.toNat,
    shutRamp := f.shutRamp.toNat, deviationLimit := f.deviationLimit.toNat, deviationTime := f.deviationTime.toNat,
    lowWater := f.lowWater.toNat, noticeDelay := f.noticeDelay.toNat, gateDelay := f.gateDelay.toNat }

theorem kindOfCode_eq (b : Byte) :
    kindOfCode b = if b = 0 then some .continuous else if b = 1 then some .batch else none := by
  have code (k : Nat) (small : k < 256) : b.toNat = k ↔ b = BitVec.ofNat 8 k := by
    rw [← BitVec.toNat_inj, BitVec.toNat_ofNat, Nat.mod_eq_of_lt small]
  unfold kindOfCode
  split
  case h_1 zero => exact (if_pos ((code 0 (by decide)).1 zero)).symm
  case h_2 one =>
    have one := (code 1 (by decide)).1 one
    subst one
    rfl
  case h_3 zero one =>
    exact ((if_neg fun is => zero ((code 0 (by decide)).2 is)).trans
      (if_neg fun is => one ((code 1 (by decide)).2 is))).symm

theorem batchOf_isSome (l : Fin 6) : (batchOf l).isSome = true ↔ 4 ≤ l.val := by
  revert l
  decide

theorem lineSettings_some {l : Fin 6} {f : LineFields} (inside : lineInside l f) :
    lineSettings l f = some (carriedSettings f) := by
  obtain ⟨kind, maxRate, minRate, grams, rampLow, rampHigh, limitLow, limitHigh, timeLow, timeHigh, water, gateLow,
    gateHigh⟩ :=
    inside
  have code : kindOfCode f.kind = some (carriedKind f) := by
    rw [kindOfCode_eq, carriedKind]
    obtain kind | ⟨kind, -⟩ := kind <;> simp [kind]
  have fits : (decide (carriedKind f = .continuous) || (batchOf l).isSome) = true := by
    rw [Bool.or_eq_true, decide_eq_true_iff, batchOf_isSome]
    exact kind.imp (fun zero => if_pos zero) (·.2)
  simp only [lineSettings, code]
  refine if_pos ?_
  simp only [Bool.and_eq_true, decide_eq_true_eq, inRange_iff]
  exact ⟨⟨⟨⟨⟨⟨⟨⟨maxRate, minRate⟩, grams⟩, rampLow, rampHigh⟩, limitLow, limitHigh⟩, timeLow, timeHigh⟩, water⟩, gateLow,
    gateHigh⟩, fits⟩

theorem lineSettings_none {l : Fin 6} {f : LineFields} (outside : ¬lineInside l f) : lineSettings l f = none := by
  unfold lineSettings
  rw [kindOfCode_eq]
  by_cases zero : f.kind = 0
  · rw [if_pos zero]
    refine if_neg fun inside => outside ?_
    simp only [Bool.and_eq_true, decide_eq_true_eq, inRange_iff, and_assoc] at inside
    obtain ⟨maxRate, minRate, grams, rampLow, rampHigh, limitLow, limitHigh, timeLow, timeHigh, water, gateLow, gateHigh,
      -⟩ :=
      inside
    exact ⟨.inl zero, maxRate, minRate, grams, rampLow, rampHigh, limitLow, limitHigh, timeLow, timeHigh, water, gateLow,
      gateHigh⟩
  · by_cases one : f.kind = 1
    · rw [if_neg zero, if_pos one]
      refine if_neg fun inside => outside ?_
      simp only [Bool.and_eq_true, decide_eq_true_eq, inRange_iff, and_assoc] at inside
      obtain ⟨maxRate, minRate, grams, rampLow, rampHigh, limitLow, limitHigh, timeLow, timeHigh, water, gateLow, gateHigh,
        fits⟩ := inside
      have batch : 4 ≤ l.val := (batchOf_isSome l).1 (by simpa using fits)
      exact ⟨.inr ⟨one, batch⟩, maxRate, minRate, grams, rampLow, rampHigh, limitLow, limitHigh, timeLow, timeHigh, water,
        gateLow, gateHigh⟩
    · rw [if_neg zero, if_neg one]

theorem rateAbove_iff (max : Nat) (o : Order) :
    rateAbove max o = true ↔ ∃ target ramp hold, o.body = .rate target ramp hold ∧ max < target := by
  unfold rateAbove
  cases o.body <;> simp

/-! ### The configuration takes effect -/

/-- The state with the new settings, before the evaluation (R33, R60). -/
def State.configured (s : State) (l : Fin 6) (c : LineSettings) : State :=
  let t := s.modLine l fun r =>
    { r with
      cfg := c, window := if c.kind = .batch then [] else r.window, measured := if c.kind = .batch then 0 else r.measured }
  match batchOf l with
  | some b => if c.kind = s.lines[l].cfg.kind then t else t.modBatch b fun _ => Batch.reset
  | none => t

section
variable (s : State) (l : Fin 6) (c : LineSettings)

theorem State.configure_eq : s.configure l c = (s.configured l c).evaluate := by
  unfold State.configure State.configured
  cases batchOf l with
  | none => rfl
  | some b =>
    by_cases same : c.kind = s.lines[l].cfg.kind
    · simp only [same, ne_eq, not_true_eq_false, decide_false, if_true, Bool.false_eq_true, if_false, Fin.getElem_fin]
    · have changed : c.kind ≠ s.lines[l.val].cfg.kind := same
      simp only [changed, same, ne_eq, not_false_eq_true, decide_true, if_true, if_false]

theorem State.configured_sameBut : SameBut [.lines, .batches] s (s.configured l c) := by
  have line := s.modLine_sameBut (bs := [.lines, .batches]) l (fun r =>
    { r with
      cfg := c, window := if c.kind = .batch then [] else r.window,
      measured := if c.kind = .batch then 0 else r.measured }) (by decide)
  unfold State.configured
  cases batchOf l with
  | none => exact line
  | some b =>
    simp only
    split
    · exact line
    · exact line.trans (State.modBatch_sameBut _ _ _ (by decide))

theorem State.configured_lines :
    (s.configured l c).lines =
      upd s.lines l fun r =>
        { r with
          cfg := c, window := if c.kind = .batch then [] else r.window,
          measured := if c.kind = .batch then 0 else r.measured } := by
  unfold State.configured
  cases batchOf l with
  | none => rfl
  | some b =>
    simp only
    split <;> rfl

theorem State.configured_batches_kept (same : c.kind = s.lines[l].cfg.kind) : (s.configured l c).batches = s.batches := by
  unfold State.configured
  cases batchOf l with
  | none => rfl
  | some b => simp only [same, if_true]; rfl

theorem batchOf_lineOfBatch (b : Fin 2) : batchOf (lineOfBatch b) = some b := by
  revert b
  decide

theorem State.configured_batch_reset (changed : c.kind ≠ s.lines[l].cfg.kind) (b : Fin 2) :
    (lineOfBatch b ≠ l → (s.configured l c).batches[b] = s.batches[b]) ∧
      (lineOfBatch b = l → (s.configured l c).batches[b] = Batch.reset) := by
  unfold State.configured
  cases named : batchOf l with
  | none => exact ⟨fun _ => rfl, fun own => by simp [← own, batchOf_lineOfBatch] at named⟩
  | some a =>
    simp only [if_neg changed]
    refine ⟨fun apart => ?_, fun own => ?_⟩
    · have other : a ≠ b := fun same => apart (same ▸ lineOfBatch_of named)
      exact upd_get_ne _ _ _ _ other
    · obtain rfl : a = b := by
        rw [← own, batchOf_lineOfBatch] at named
        exact (Option.some.inj named).symm
      exact State.modBatch_own _ _ _

end

/-! ### CONFIGURE LINE is decided in the order of R33 -/

section
variable {s : State} {line : Byte} {f : LineFields} {l : Fin 6}

theorem decideConfigure_unlocked (unlocked : s.locked .fuel = false) (named : numbered 6 line = some l)
    (inside : lineInside l f) :
    decideConfigure line f s =
      if s.lines[l].state ≠ .shut || (carriedKind f ≠ s.lines[l].cfg.kind && s.lines[l].queue ≠ []) then
        s.refuse .notPermitted
      else if s.lines[l].queue.any (rateAbove f.maxRate.toNat) then s.refuse .badValue
      else (s.configure l (carriedSettings f)).settle.done [] := by
  simp only [decideConfigure, unlocked, named, lineSettings_some inside]
  rfl

theorem decideConfigure_outside (unlocked : s.locked .fuel = false) (named : numbered 6 line = some l)
    (outside : ¬lineInside l f) : decideConfigure line f s = s.refuse .badValue := by
  simp only [decideConfigure, unlocked, named, lineSettings_none outside, Bool.false_eq_true, if_false]

theorem decideConfigure_unnumbered (unlocked : s.locked .fuel = false) (unnamed : line = 0 ∨ 6 < line.toNat) :
    decideConfigure line f s = s.refuse .badValue := by
  simp only [decideConfigure, unlocked, numbered_none unnamed, Bool.false_eq_true, if_false]

theorem configure_admitted {r : Line} {kind : LineKind} (shut : r.state = .shut)
    (free : kind = r.cfg.kind ∨ r.queue = []) :
    ¬(r.state ≠ .shut || (kind ≠ r.cfg.kind && r.queue ≠ []) : Bool) = true := by
  obtain same | none := free <;> simp_all

end

end Sys2Proof.Machine

open Sys2Proof Sys2Proof.Machine

/-- Settles O21. -/
theorem lineConfigured : Obligations.LineConfigured := by
  intro s tag line f ready lock
  have unlocked : s.taken.locked .fuel = false := by
    rw [State.locked, lock]
  intro u inside kind answer
  refine ⟨fun unnamed => ?_, fun l number => ?_⟩
  · exact exec_refused rfl ready (decideConfigure_unnumbered unlocked unnamed)
  have named := numbered_eq number
  refine ⟨fun outside => ?_, fun within => ?_⟩
  · exact exec_refused rfl ready (decideConfigure_outside unlocked named outside)
  have decided := decideConfigure_unlocked (f := f) unlocked named within
  refine ⟨fun blocked => ?_, fun shut free => ⟨fun above => ?_, fun below => ?_⟩⟩
  · refine exec_refused rfl ready (decided.trans (if_pos ?_))
    have blocked : s.taken.lines[l].state ≠ .shut ∨
        carriedKind f ≠ s.taken.lines[l].cfg.kind ∧ s.taken.lines[l].queue ≠ [] := blocked
    simpa using blocked
  all_goals have admitted : ¬(s.taken.lines[l].state ≠ .shut ||
      (carriedKind f ≠ s.taken.lines[l].cfg.kind && s.taken.lines[l].queue ≠ []) : Bool) = true :=
    configure_admitted shut free
  · refine exec_refused rfl ready ((decided.trans (if_neg admitted)).trans (if_pos ?_))
    obtain ⟨o, member, target, ramp, hold, body, above'⟩ := above
    exact List.any_eq_true.2 ⟨o, member, (rateAbove_iff _ _).2 ⟨target, ramp, hold, body, above'⟩⟩
  · refine ⟨s.taken.configured l (carriedSettings f), ?_, State.configured_sameBut _ _ _, State.configured_lines _ _ _,
      fun same => State.configured_batches_kept s.taken l (carriedSettings f) same, fun changed b => ?_⟩
    on_goal 2 => exact State.configured_batch_reset s.taken l (carriedSettings f) changed b
    rw [← State.configure_eq]
    refine exec_done rfl ready ((decided.trans (if_neg admitted)).trans (if_neg fun some => ?_))
    obtain ⟨o, member, exceeds⟩ := List.any_eq_true.1 some
    obtain ⟨target, ramp, hold, body, more⟩ := (rateAbove_iff _ _).1 exceeds
    exact absurd (below o member target ramp hold body) (by omega)

end

section
/-! Entry into LOCKOUT: every line is forced SHUT and its queue ended (R4, R5, R42). -/

set_option Elab.async false

namespace Sys2Proof.Machine

open Sys2Proof

/-! ### A queue that ends at a trip (R42, R54) -/

/-- An order that is discarded without its notice leaves the bell of the line. -/
theorem Line.discardAll_silent (r : Line) (l : Fin 6) (now : Nat) (q : List Order) :
    (r.discardAll l false now q).bell = r.bell := by
  induction q generalizing r with
  | nil => rfl
  | cons o q ih => exact (ih _).trans (Line.discard_bell _ _ _ _)

/-- A line whose queue has ended at a trip: its head retired with the record `c`, the others discarded, without a notice. -/
def Line.emptied (r : Line) (l : Fin 6) (now : Nat) (c : Order → Completion) : Line :=
  match r.queue with
  | [] => r
  | o :: rest => (r.retire o rest (c o)).discardAll l false now rest

section
variable (r : Line) (l : Fin 6) (now : Nat) (c : Order → Completion)

/-- What the end of a queue at a trip leaves of a line. -/
def Line.unqueued (r : Line) : Line :=
  { r with queue := [], progress := none, retired := 0, discarded := 0, completions := [], overrun := false, noticeAt :=
    none }

theorem Line.unqueued_of {r q : Line} (same : r.undiscarded = q.undiscarded) (flag : r.completionFlag = q.completionFlag) :
    r.unqueued = q.unqueued := by
  cases r
  cases q
  simp_all [Line.undiscarded, Line.unqueued]

theorem Line.emptied_unqueued : (r.emptied l now c).unqueued = r.unqueued := by
  unfold Line.emptied
  cases r.queue with
  | nil => rfl
  | cons o rest =>
    have bell := (r.retire o rest (c o)).discardAll_silent l now rest
    simp only [Line.bell, Prod.mk.injEq] at bell
    refine (Line.unqueued_of ((r.retire o rest (c o)).discardAll_undiscarded l false now rest) bell.2.1).trans ?_
    rw [Line.retire_eq]
    rfl

theorem Line.emptied_queue : (r.emptied l now c).queue = [] := by
  unfold Line.emptied
  cases queue : r.queue with
  | nil => exact queue
  | cons o rest => exact Line.discardAll_queue _ _ _ _ _ (Line.retire_queue _ _ _ _)

theorem Line.undiscarded_progress {r q : Line} (same : r.undiscarded = q.undiscarded) : r.progress = q.progress := by
  cases r
  cases q
  simp_all [Line.undiscarded]

theorem Line.emptied_progress (idle : r.queue ≠ [] ∨ r.progress = none) : (r.emptied l now c).progress = none := by
  unfold Line.emptied
  cases queue : r.queue with
  | nil => exact idle.resolve_left fun other => other queue
  | cons o rest =>
    refine (Line.undiscarded_progress (Line.discardAll_undiscarded _ _ _ _ _)).trans ?_
    rw [Line.retire_eq]

end

/-! ### The trip of one line (R42) -/

/-- The line of a trip before its queue ends: SHUT at once, its gate CLOSED and its valve commanded closed. -/
def State.forcedShut (s : State) (l : Fin 6) : State :=
  (((s.abortSlot l).modLine l fun r => { r.enter .shut with requested := 0, shutRamp := none }).closeGate l).commandValve
    (svOf l) false

/-- The line after its queue has ended at a trip, before its reasons. -/
def State.unfed (s : State) (l : Fin 6) : State :=
  (((s.endHead l .abortedTrip).discardQueue l false (s.endHead l .abortedTrip).lines[l.val].queue)).modLine l fun r =>
    { r with noticeAt := none }

theorem State.tripLine_eq (s : State) (l : Fin 6) :
    s.tripLine l =
      (let t := (s.forcedShut l).unfed l
       let u := if anyNotify s.lines[l.val].queue then t.setReason l .completion else t
       if s.lines[l.val].state ≠ .shut then (u.setReason l .state).addEvent (.lineShut l) else u) := rfl

section
variable (s : State) (l : Fin 6)

theorem State.unfed_lines :
    ∃ c : Order → Completion,
      (s.unfed l).lines = upd s.lines l fun r => { r.emptied l s.floorTime c with noticeAt := none } := by
  unfold State.unfed
  cases queue : s.lines[l.val].queue with
  | nil =>
    have waits : s.endHead l .abortedTrip = s := by simp only [State.endHead, queue]
    refine ⟨fun o => completionOf o .abortedTrip none 0 none, ?_⟩
    rw [waits, queue, State.discardQueue, State.modLine_lines]
    refine upd_congr ?_
    simp only [Line.emptied, queue]
  | cons o rest =>
    refine ⟨fun o => completionOf o .abortedTrip s.lines[l.val].progress s.floorTime (s.batchCounts l o), ?_⟩
    have lines := State.endHead_lines queue .abortedTrip
    have own : (s.endHead l .abortedTrip).lines[l.val] =
        s.lines[l.val].retire o rest
          (completionOf o .abortedTrip s.lines[l.val].progress s.floorTime (s.batchCounts l o)) := by
      rw [lines]
      exact upd_get_self _ _ _
    have idle : (s.endHead l .abortedTrip).lines[l.val].progress = none := by
      rw [own, Line.retire_eq]
    have left : (s.endHead l .abortedTrip).lines[l.val].queue = rest := by
      rw [own, Line.retire_queue]
    rw [left, State.modLine_lines, State.discardQueue_lines idle, lines, upd_upd, upd_upd]
    refine upd_congr ?_
    simp only [Line.emptied, queue, State.endHead_frame]

theorem State.unfed_batches :
    (s.unfed l).batches = s.batches ∨ (s.unfed l).batches = (s.closeGate l).batches := by
  have kept : (s.unfed l).batches = (s.endHead l .abortedTrip).batches := by
    simp [State.unfed, State.modLine]
  rw [kept]
  cases queue : s.lines[l.val].queue with
  | nil => exact .inl (by simp only [State.endHead, queue])
  | cons o rest =>
    rw [State.endHead_batches queue]
    split
    · exact .inr rfl
    · exact .inl rfl

end

/-- The record of a line that a trip has forced to SHUT, `lifetime` its mass with a charge that was dropped (R42). -/
structure Line.ForcedShut (r : Line) (lifetime : Nat) (f : Line) : Prop where
  shut : f.state = .shut
  requested : f.requested = 0
  queue : f.queue = []
  progress : r.queue ≠ [] ∨ r.progress = none → f.progress = none
  ramp : f.shutRamp = none
  noticeAt : f.noticeAt = none
  stateFlag : r.state ≠ .shut → f.stateFlag = true
  lowWaterFlag : f.lowWaterFlag = r.lowWaterFlag
  lifetime : f.lifetime = lifetime
  completionFlag : f.completionFlag = (r.completionFlag || r.queue.any fun o => o.notify)

theorem Line.unqueued_fields {r q : Line} (same : r.unqueued = q.unqueued) :
    r.state = q.state ∧ r.requested = q.requested ∧ r.shutRamp = q.shutRamp ∧ r.stateFlag = q.stateFlag ∧
      r.lowWaterFlag = q.lowWaterFlag ∧ r.lifetime = q.lifetime ∧ r.completionFlag = q.completionFlag := by
  cases r
  cases q
  simp_all [Line.unqueued]

section
variable (s : State) (l : Fin 6)

/-- The line's record at its trip before its queue ends. -/
def State.enteredShut (s : State) (l : Fin 6) : Line :=
  { (s.abortSlot l).lines[l.val].enter .shut with requested := 0, shutRamp := none }

theorem State.forcedShut_lines : (s.forcedShut l).lines = upd s.lines l fun _ => s.enteredShut l := by
  simp only [State.forcedShut, State.commandValve_frame, State.closeGate_frame, State.modLine_lines]
  exact State.abortSlot_upd _ _ _

theorem State.enteredShut_progress (idle : s.lines[l.val].progress = none) : (s.enteredShut l).progress = none := by
  obtain same | ⟨grams, same⟩ := s.abortSlot_lines l
  · simp [State.enteredShut, Line.enter, same, idle]
  · simp [State.enteredShut, Line.enter, same, State.deliver_lines, idle]

/-- The record at the trip, with the reasons that it gives (R42, R57). -/
def Line.tripReasons (f r : Line) : Line :=
  { f with
    completionFlag := f.completionFlag || anyNotify r.queue, stateFlag := f.stateFlag || decide (r.state ≠ .shut) }

theorem State.tripLine_lines :
    (s.tripLine l).lines =
      upd ((s.forcedShut l).unfed l).lines l fun f => f.tripReasons s.lines[l.val] := by
  rw [State.tripLine_eq]
  dsimp only
  by_cases notified : anyNotify s.lines[l.val].queue = true <;> by_cases shut : s.lines[l.val].state = .shut
  all_goals simp only [notified, shut, ne_eq, not_true_eq_false, not_false_eq_true, if_true, if_false, Bool.false_eq_true,
    State.addEvent_frame, State.setReason_lines, upd_upd]
  · exact upd_congr (by simp [Line.tripReasons, Line.flagged, notified, shut])
  · exact upd_congr (by simp [Line.tripReasons, Line.flagged, notified, shut])
  · exact (upd_same (by simp [Line.tripReasons, notified, shut])).symm
  · exact upd_congr (by simp [Line.tripReasons, Line.flagged, notified, shut])

theorem State.tripLine_forced :
    s.lines[l].ForcedShut (s.abortSlot l).lines[l].lifetime (s.tripLine l).lines[l] := by
  obtain ⟨c, lines⟩ := (s.forcedShut l).unfed_lines l
  have own : (s.tripLine l).lines[l] =
      Line.tripReasons { (s.enteredShut l).emptied l (s.forcedShut l).floorTime c with noticeAt := none } s.lines[l] := by
    rw [State.tripLine_lines, lines, State.forcedShut_lines, upd_upd, upd_upd]
    exact upd_get_self _ _ _
  obtain ⟨state, requested, ramp, flag, water, lifetime, completion⟩ :=
    Line.unqueued_fields ((s.enteredShut l).emptied_unqueued l (s.forcedShut l).floorTime c)
  have aborted := s.abortSlot_own l
  have queue : (s.enteredShut l).queue = s.lines[l].queue := s.abortSlot_queue l
  rw [own]
  refine ⟨state, requested, Line.emptied_queue _ _ _ _, fun idle => ?_, ramp, rfl, fun open' => ?_, ?_, lifetime, ?_⟩
  · exact Line.emptied_progress _ _ _ _ (idle.imp (fun some => queue ▸ some) (s.enteredShut_progress l))
  · exact Bool.or_eq_true_iff.2 (.inr (decide_eq_true open'))
  · exact water.trans (congrArg Line.lowWaterFlag aborted :)
  · exact congrArg (· || anyNotify s.lines[l].queue) (completion.trans (congrArg Line.completionFlag aborted :))

theorem State.tripLine_others (m : Fin 6) (other : m ≠ l) : (s.tripLine l).lines[m] = s.lines[m] := by
  obtain ⟨c, lines⟩ := (s.forcedShut l).unfed_lines l
  rw [State.tripLine_lines, lines, State.forcedShut_lines, upd_upd, upd_upd]
  exact upd_get_ne _ _ _ _ other.symm

/-! ### The batch record of a line that trips (R67, R68) -/

theorem lineOfBatch_iff (b : Fin 2) : batchOf l = some b ↔ lineOfBatch b = l :=
  ⟨lineOfBatch_of, fun same => same ▸ batchOf_lineOfBatch b⟩

theorem State.closeGate_get (b : Fin 2) :
    (s.closeGate l).batches[b] =
      if lineOfBatch b = l then { s.batches[b] with gateOpen := false, idle := 0 } else s.batches[b] := by
  unfold State.closeGate
  cases named : batchOf l with
  | none => exact (if_neg fun same => by simp [(lineOfBatch_iff l b).2 same] at named).symm
  | some a =>
    by_cases same : a = b
    · subst same
      rw [if_pos ((lineOfBatch_iff l a).1 named)]
      exact State.modBatch_own _ _ _
    · rw [if_neg fun own => same (Option.some.inj (named.symm.trans ((lineOfBatch_iff l b).2 own)))]
      exact upd_get_ne _ _ _ _ same

theorem State.abortSlot_other (b : Fin 2) (other : lineOfBatch b ≠ l) : (s.abortSlot l).batches[b] = s.batches[b] := by
  cases named : batchOf l with
  | none => rw [State.abortSlot_idle (by simp [named])]
  | some a =>
    cases inFlight : s.batches[a.val].slot with
    | none => rw [State.abortSlot_idle (by simp [named, inFlight])]
    | some w =>
      rw [State.abortSlot_batches named inFlight]
      exact upd_get_ne _ _ _ _ fun same => other (same ▸ (lineOfBatch_iff l a).1 named)

/-- What a trip makes of the batch records: that of the line has no slot and its gate CLOSED. -/
def Batch.tripped (x : Batch) : Batch := { x with gateOpen := false, idle := 0 }

theorem State.tripLine_batch (b : Fin 2) :
    (s.tripLine l).batches[b] = if lineOfBatch b = l then (s.abortSlot l).batches[b].tripped else s.batches[b] := by
  have kept : (s.tripLine l).batches = ((s.forcedShut l).unfed l).batches := by
    rw [State.tripLine_eq]
    dsimp only
    split <;> split <;> simp
  have shut : (s.forcedShut l).batches = ((s.abortSlot l).closeGate l).batches := by
    unfold State.forcedShut State.closeGate
    cases batchOf l <;> simp [State.modBatch, State.modLine]
  have forced : (s.forcedShut l).batches[b] =
      if lineOfBatch b = l then (s.abortSlot l).batches[b].tripped else s.batches[b] := by
    rw [shut, State.closeGate_get]
    split
    · rfl
    next other => exact s.abortSlot_other l b other
  rw [kept]
  obtain same | closed := (s.forcedShut l).unfed_batches l
  · rw [same, forced]
  · rw [closed, State.closeGate_get, forced]
    split <;> rfl

end

/-- A line that has delivered a mass in g (R62). -/
def Line.delivering (r : Line) (grams : Nat) : Line :=
  { r with
    lifetime := r.lifetime + grams
    progress := r.progress.map fun p => { p with delivered := add32 p.delivered grams } }

theorem State.deliver_own (s : State) (l : Fin 6) (grams : Nat) :
    (s.deliver l grams).lines[l] = s.lines[l].delivering grams :=
  (congrArg (fun lines : Vector Line 6 => lines[l.val]) (s.deliver_lines l grams)).trans (upd_get_self _ _ _)

theorem State.charged_line (s : State) (l : Fin 6) (w : Slot) :
    (s.charged l w).lines[l] =
      if w.phase != .gateDelay then s.lines[l].delivering (headCharge s.lines[l]).2 else s.lines[l] := by
  by_cases dropped : (w.phase != .gateDelay) = true
  · simp only [State.charged, if_pos dropped]
    exact s.deliver_own l _
  · simp only [State.charged, if_neg dropped]

/-- What an aborted slot makes of its line and of its batch record depends on these, the slot and the time only. -/
theorem State.abortSlot_congr {s t : State} {l : Fin 6} (line : t.lines[l] = s.lines[l])
    (batch : ∀ b, lineOfBatch b = l → t.batches[b] = s.batches[b]) (time : t.floorTime = s.floorTime) :
    (t.abortSlot l).lines[l] = (s.abortSlot l).lines[l] ∧
      ∀ b, lineOfBatch b = l → (t.abortSlot l).batches[b] = (s.abortSlot l).batches[b] := by
  cases named : batchOf l with
  | none =>
    rw [State.abortSlot_idle (by simp [named]), State.abortSlot_idle (by simp [named])]
    exact ⟨line, batch⟩
  | some a =>
    have own := batch a ((lineOfBatch_iff l a).1 named)
    have slots : t.batches[a.val].slot = s.batches[a.val].slot := congrArg Batch.slot own
    cases inFlight : s.batches[a.val].slot with
    | none =>
      rw [State.abortSlot_idle (by simp [named, inFlight, slots]), State.abortSlot_idle (by simp [named, inFlight])]
      exact ⟨line, batch⟩
    | some w =>
      have lines (u : State) (sr : SlotRecord) : ((u.modBatch a fun x => { x with slot := none }).recordSlot a sr).lines =
          u.lines := by simp [State.modBatch]
      refine ⟨?_, fun b mine => ?_⟩
      · rw [State.abortSlot_slot named inFlight, State.abortSlot_slot named (slots.trans inFlight), lines, lines,
          State.charged_line,
          State.charged_line, line]
      · have record : t.abortedSlot l w = s.abortedSlot l w := by
          have ended (u : State) : (u.charged l w).floorTime = u.floorTime := by
            unfold State.charged
            split <;> simp
          have line : t.lines[l.val] = s.lines[l.val] := line
          rw [State.abortedSlot, State.abortedSlot, ended, ended, time, line]
        rw [State.abortSlot_batches named inFlight, State.abortSlot_batches named (slots.trans inFlight), record]
        obtain rfl : a = b := Option.some.inj (named.symm.trans ((lineOfBatch_iff l b).2 mine))
        exact (upd_get_self _ _ _).trans
          ((congrArg (Batch.aborted · (s.abortedSlot l w)) own).trans
            (upd_get_self s.batches a (·.aborted (s.abortedSlot l w))).symm)

/-! ### The six lines (R42) -/

/-- The lines named, each forced to SHUT. -/
def State.tripLines (s : State) (ls : List (Fin 6)) : State := ls.foldl (fun s l => s.tripLine l) s

theorem State.tripLines_apart {ls : List (Fin 6)} (s : State) {l : Fin 6} (apart : l ∉ ls) :
    (s.tripLines ls).lines[l] = s.lines[l] ∧
      ∀ b, lineOfBatch b = l → (s.tripLines ls).batches[b] = s.batches[b] := by
  induction ls generalizing s with
  | nil => exact ⟨rfl, fun _ _ => rfl⟩
  | cons m ls ih =>
    obtain ⟨other, rest⟩ := not_or.1 (mt List.mem_cons.2 apart)
    obtain ⟨line, batch⟩ := ih (s.tripLine m) rest
    refine ⟨line.trans (s.tripLine_others m l other), fun b own => (batch b own).trans ?_⟩
    rw [State.tripLine_batch, if_neg (own.trans_ne other)]

theorem State.tripLines_forced {ls : List (Fin 6)} (s : State) {l : Fin 6} (member : l ∈ ls) (once : ls.Nodup) :
    s.lines[l].ForcedShut (s.abortSlot l).lines[l].lifetime (s.tripLines ls).lines[l] ∧
      ∀ b, lineOfBatch b = l → (s.tripLines ls).batches[b] = (s.abortSlot l).batches[b].tripped := by
  induction ls generalizing s with
  | nil => cases member
  | cons m ls ih =>
    obtain ⟨apart, once⟩ := List.nodup_cons.1 once
    by_cases same : l = m
    · subst same
      obtain ⟨line, batch⟩ := (s.tripLine l).tripLines_apart apart
      have line : (s.tripLines (l :: ls)).lines[l] = (s.tripLine l).lines[l] := line
      refine ⟨line ▸ s.tripLine_forced l, fun b own => (batch b own).trans ?_⟩
      rw [State.tripLine_batch, if_pos own]
    · obtain ⟨forced, batch⟩ := ih (s.tripLine m) (List.mem_of_ne_of_mem same member) once
      have line := s.tripLine_others m l same
      have batches (b : Fin 2) (own : lineOfBatch b = l) : (s.tripLine m).batches[b] = s.batches[b] := by
        rw [State.tripLine_batch, if_neg (own.trans_ne same)]
      obtain ⟨aborted, slots⟩ := State.abortSlot_congr line batches (by simp)
      rw [line, aborted] at forced
      exact ⟨forced, fun b own => (batch b own).trans (congrArg Batch.tripped (slots b own))⟩

/-- From `s` to `t` the trip count stays and the events of the shift are added to. -/
def Logs (s t : State) : Prop :=
  t.shift.current.totals.trips = s.shift.current.totals.trips ∧ s.shift.current.events <+: t.shift.current.events

namespace Logs

variable {s t u : State}

theorem trans (first : Logs s t) (second : Logs t u) : Logs s u :=
  ⟨second.1.trans first.1, first.2.trans second.2⟩

theorem of_shift (same : t.shift = s.shift) : Logs s t := ⟨by rw [same], by rw [same]⟩

theorem addEvent (s : State) (e : EventKind) : Logs s (s.addEvent e) :=
  ⟨by simp only [State.addEvent, State.modShift]; split <;> rfl, (Falls.addEvent 0 s e).events⟩

theorem modLineTotals (s : State) (l : Fin 6) (f : LineTotals → LineTotals) : Logs s (s.modLineTotals l f) :=
  ⟨rfl, List.prefix_refl _⟩

theorem endHead (s : State) (l : Fin 6) (outcome : OrderOutcome) : Logs s (s.endHead l outcome) := by
  cases queue : s.lines[l.val].queue with
  | nil => exact of_shift (by simp only [State.endHead, queue])
  | cons o rest =>
    rw [State.endHead_eq outcome queue]
    cases o.body <;> exact ⟨by simp only [State.closeGate_frame]; rfl, by simp only [State.closeGate_frame]; rfl⟩

/-- A slot that is aborted before its drop closes no shift (R68). -/
theorem abortSlot {l : Fin 6} (waits : ∀ (b : Fin 2) (w : Slot), s.batches[b].slot = some w → w.phase = .gateDelay) :
    Logs s (s.abortSlot l) := by
  cases named : batchOf l with
  | none => exact of_shift (by rw [State.abortSlot_idle (by simp [named])])
  | some b =>
    cases inFlight : s.batches[b.val].slot with
    | none => exact of_shift (by rw [State.abortSlot_idle (by simp [named, inFlight])])
    | some w =>
      have undropped : s.charged l w = s := if_neg (by simp [waits b w inFlight])
      rw [State.abortSlot_slot named inFlight, undropped]
      exact ⟨rfl, List.prefix_refl _⟩

theorem tripLine {l : Fin 6} (waits : ∀ (b : Fin 2) (w : Slot), s.batches[b].slot = some w → w.phase = .gateDelay) :
    Logs s (s.tripLine l) := by
  have shut : Logs s (s.forcedShut l) := (abortSlot (l := l) waits).trans
    (of_shift (by simp [State.forcedShut, State.modLine]))
  have unfed : Logs s ((s.forcedShut l).unfed l) :=
    (shut.trans (endHead _ l .abortedTrip)).trans (of_shift (by simp [State.unfed, State.modLine]))
  rw [State.tripLine_eq]
  dsimp only
  have told : Logs s (if anyNotify s.lines[l.val].queue then ((s.forcedShut l).unfed l).setReason l .completion
      else (s.forcedShut l).unfed l) := by
    split
    · exact unfed.trans (of_shift (by simp))
    · exact unfed
  split
  · exact (told.trans (of_shift (by simp))).trans (addEvent _ _)
  · exact told

theorem tripLines (ls : List (Fin 6))
    (waits : ∀ (b : Fin 2) (w : Slot), s.batches[b].slot = some w → w.phase = .gateDelay) : Logs s (s.tripLines ls) := by
  induction ls generalizing s with
  | nil => exact of_shift rfl
  | cons l ls ih =>
    refine (tripLine waits).trans (ih fun b w inFlight => ?_)
    rw [State.tripLine_batch] at inFlight
    split at inFlight
    next own =>
      have cleared : ((s.abortSlot l).batches[b]).slot = none := s.abortSlot_cleared l b ((lineOfBatch_iff l b).2 own)
      rw [Batch.tripped, cleared] at inFlight
      cases inFlight
    · exact waits b w inFlight

end Logs

end Sys2Proof.Machine
end

section
/-! LOCKOUT: what an entry into it leaves, and the four timers and the request that trip (R4 to R7, R13, R16, R19, R20). -/

set_option Elab.async false

namespace Sys2Proof.Machine

open Sys2Proof

/-! ### What an evaluation leaves of a trip -/

/-- What the record of a trip speaks of is left by an evaluation. -/
theorem Line.ForcedShut.of_core {r f g : Line} {lifetime : Nat} (forced : r.ForcedShut lifetime f) (same : g.core = f.core) :
    r.ForcedShut lifetime g := by
  cases f
  cases g
  simp only [Line.core, Line.mk.injEq] at same
  obtain ⟨-, state, -, -, requested, -, -, -, -, -, -, -, -, queue, progress, ramp, -, -, noticeAt, completion, water, -,
    flag,
    -, -, -, mass⟩ := same
  subst state requested queue ramp noticeAt completion water flag mass
  obtain ⟨shut, requested, queue, idle, ramp, noticeAt, state, water, mass, completion⟩ := forced
  exact ⟨shut, requested, queue, fun none => Option.map_eq_none_iff.1
    (progress.trans (Option.map_eq_none_iff.2 (idle none))), ramp, noticeAt, state, water, mass,
    completion⟩

/-! ### Entry into LOCKOUT in its parts (R5) -/

section
variable (s : State) (cause : Cause) (point : Option Nat)

/-- The burner record in LOCKOUT, before its actuators' work ends. -/
def State.lockedBurner (s : State) (cause : Cause) (point : Option Nat) : Burner :=
  { s.burner.rested .lockout with
    firstOut := some { cause := cause, point := point, stateAtTrip := s.burner.state, time := s.floorTime }, claims := 0 }

/-- The part with its burner in LOCKOUT, recorded, before the lines are shut. -/
def State.tripRecorded (s : State) (cause : Cause) (point : Option Nat) : State :=
  ((({ s with burner := s.lockedBurner cause point } : State).commandValve pv false).addEvent (.lockout cause point)).raise
    .trip |>.modTotals fun t => { t with trips := add32 t.trips 1 }

/-- The part with its lines shut, before the actuators' work ends and the evaluation. -/
def State.linesTripped (s : State) (cause : Cause) (point : Option Nat) : State :=
  ((s.tripRecorded cause point).tripLines allLines).raise .feed

theorem State.enterLockout_eq :
    s.enterLockout cause point = ((s.linesTripped cause point).abortWork.setOwners .sequence).evaluate := by
  have enters : (s.burnerTo .lockout).modBurner (fun b =>
      { b with
        firstOut := some { cause := cause, point := point, stateAtTrip := s.burner.state, time := s.floorTime },
        claims := 0 }) = ({ s with burner := s.lockedBurner cause point } : State).commandValve pv false := by
    simp only [State.burnerTo, State.modBurner, State.commandValve_burner_update]
    rfl
  unfold State.enterLockout
  dsimp only
  rw [enters]
  rfl

theorem State.tripRecorded_blocks :
    (s.tripRecorded cause point).lines = s.lines ∧ (s.tripRecorded cause point).batches = s.batches ∧
      (s.tripRecorded cause point).floorTime = s.floorTime ∧
      (s.tripRecorded cause point).burner = s.lockedBurner cause point := by
  simp [State.tripRecorded, State.commandValve_burner_update]

theorem State.tripLines_burner (t : State) (ls : List (Fin 6)) : (t.tripLines ls).burner = t.burner := by
  induction ls generalizing t with
  | nil => rfl
  | cons l ls ih => exact (ih _).trans (by simp)

theorem State.linesTripped_burner : (s.linesTripped cause point).burner = s.lockedBurner cause point := by
  have tripped := ((s.tripRecorded cause point).tripLines_burner allLines).trans
    (s.tripRecorded_blocks cause point).2.2.2
  rw [← tripped, State.linesTripped]
  simp

theorem State.enterLockout_burner :
    (s.enterLockout cause point).burner =
      { s.lockedBurner cause point with actuators := (s.enterLockout cause point).burner.actuators } := by
  have ends (t : State) : (t.abortWork.setOwners .sequence).evaluate.burner = (t.abortWork.setOwners .sequence).burner := by
    simp
  rw [State.enterLockout_eq, ends, State.abortWork_setOwners_burner, State.linesTripped_burner]

theorem State.enterLockout_actuator (a : Fin 2) :
    (s.enterLockout cause point).burner.actuators[a] = s.burner.actuators[a].aborted .sequence := by
  have ends (t : State) : (t.abortWork.setOwners .sequence).evaluate.burner = (t.abortWork.setOwners .sequence).burner := by
    simp
  rw [State.enterLockout_eq, ends, State.abortWork_setOwners_actuator, State.linesTripped_burner]
  rfl

theorem State.enterLockout_line (l : Fin 6) :
    s.lines[l].ForcedShut (s.abortSlot l).lines[l].lifetime (s.enterLockout cause point).lines[l] := by
  obtain ⟨lines, batches, time, -⟩ := s.tripRecorded_blocks cause point
  obtain ⟨forced, -⟩ := (s.tripRecorded cause point).tripLines_forced (mem_allLines l) (by decide)
  obtain ⟨aborted, -⟩ := State.abortSlot_congr (l := l) (s := s) (t := s.tripRecorded cause point) (by rw [lines])
    (fun b _ => by rw [batches]) time
  simp only [aborted, lines] at forced
  refine forced.of_core ?_
  rw [State.enterLockout_eq, State.evaluate_core]
  have kept : ((s.linesTripped cause point).abortWork.setOwners .sequence).lines =
      ((s.tripRecorded cause point).tripLines allLines).lines := by
    simp [State.linesTripped]
  simp only [kept]

theorem State.enterLockout_batch (b : Fin 2) :
    (s.enterLockout cause point).batches[b] = (s.abortSlot (lineOfBatch b)).batches[b].tripped := by
  obtain ⟨lines, batches, time, -⟩ := s.tripRecorded_blocks cause point
  obtain ⟨-, tripped⟩ := (s.tripRecorded cause point).tripLines_forced (mem_allLines (lineOfBatch b)) (by decide)
  obtain ⟨-, aborted⟩ := State.abortSlot_congr (l := lineOfBatch b) (s := s) (t := s.tripRecorded cause point)
    (by rw [lines])
    (fun b _ => by rw [batches]) time
  have kept : (s.enterLockout cause point).batches = ((s.tripRecorded cause point).tripLines allLines).batches := by
    rw [State.enterLockout_eq]
    simp [State.linesTripped]
  simp only [kept]
  exact (tripped b rfl).trans (congrArg Batch.tripped (aborted b rfl))

theorem State.enterLockout_valves :
    (∀ l, (s.enterLockout cause point).valveOpen (svOf l) = false) ∧ (s.enterLockout cause point).valveOpen pv = false := by
  have kept : (s.enterLockout cause point).valveOpen = ((s.tripRecorded cause point).tripLines allLines).valveOpen := by
    rw [State.enterLockout_eq]
    simp [State.linesTripped]
  obtain ⟨-, -, closed, pilot⟩ := (s.tripRecorded cause point).tripLines_control
  rw [kept]
  refine ⟨closed, pilot.trans ?_⟩
  simp [State.tripRecorded]

theorem State.modTotals_attention (t : State) (f : Totals → Totals) : (t.modTotals f).attention = t.attention := rfl

theorem State.enterLockout_requests :
    (s.enterLockout cause point).attention.request.getLsbD 0 = true ∧
      (s.enterLockout cause point).attention.request.getLsbD 3 = true := by
  have tripped : (s.tripRecorded cause point).attention.request.getLsbD AttentionClass.trip.ctorIdx = true := by
    rw [State.tripRecorded, (State.modTotals_attention _ _)]
    exact State.raise_sets _ .trip
  have lines : Requests (s.tripRecorded cause point) ((s.tripRecorded cause point).tripLines allLines) :=
    (Requests.refl _).foldl (fun _ l k => k.tripLine l) allLines
  have fed : (s.linesTripped cause point).attention.request.getLsbD AttentionClass.feed.ctorIdx = true :=
    State.raise_sets _ .feed
  have ends : Requests (s.linesTripped cause point) (s.enterLockout cause point) := by
    rw [State.enterLockout_eq]
    exact ((Requests.refl _).abortWork.of_same (by simp)).evaluate
  exact ⟨ends _ ((lines.raise .feed) _ tripped), ends _ fed⟩

theorem State.enterLockout_shift
    (waits : ∀ (b : Fin 2) (w : Slot), s.batches[b].slot = some w → w.phase = .gateDelay) :
    (s.enterLockout cause point).shift.current.totals.trips = min 4294967295 (s.shift.current.totals.trips + 1) ∧
      (s.shift.current.events.length < 48 →
        { time := s.floorTime, kind := .lockout cause point } ∈
          (s.enterLockout cause point).shift.current.events) := by
  obtain ⟨-, batches, -, -⟩ := s.tripRecorded_blocks cause point
  obtain ⟨trips, events⟩ := Logs.tripLines (s := s.tripRecorded cause point) allLines (by rw [batches]; exact waits)
  have kept : (s.enterLockout cause point).shift = ((s.tripRecorded cause point).tripLines allLines).shift := by
    rw [State.enterLockout_eq]
    simp [State.linesTripped]
  rw [kept]
  have logged (t : State) (same : t.shift = s.shift) (time : t.floorTime = s.floorTime) :
      ((t.addEvent (.lockout cause point)).raise .trip).shift.current.totals.trips = s.shift.current.totals.trips ∧
        (s.shift.current.events.length < 48 → ({ time := s.floorTime, kind := .lockout cause point } : ShiftEvent) ∈
          ((t.addEvent (.lockout cause point)).raise .trip).shift.current.events) := by
    simp only [State.raise_frame, State.addEvent, State.modShift, same, time]
    split
    · exact ⟨rfl, fun _ => List.mem_append_right _ List.mem_cons_self⟩
    next full => exact ⟨rfl, fun room => absurd room full⟩
  obtain ⟨count, listed⟩ := logged (({ s with burner := s.lockedBurner cause point } : State).commandValve pv false)
    (by simp) (by simp)
  exact ⟨trips.trans (congrArg (fun n => min 4294967295 (n + 1)) count), fun room => events.subset (listed room)⟩

theorem State.enterLockout_lockedOut : s.LockedOut cause point (s.enterLockout cause point) := by
  refine ⟨?_, s.enterLockout_burner cause point, s.enterLockout_actuator cause point, fun l => ?_,
    (s.enterLockout_valves cause point).2, fun b => ?_, (s.enterLockout_requests cause point).1,
    (s.enterLockout_requests cause point).2, s.enterLockout_shift cause point⟩
  · intro b other
    cases b <;> simp_all [Block.Same]
  · obtain ⟨shut, requested, queue, progress, ramp, noticeAt, flag, water, lifetime, completion⟩ :=
      s.enterLockout_line cause point l
    exact ⟨shut, requested, queue, progress, ramp, noticeAt, (s.enterLockout_valves cause point).1 l, flag, water, lifetime,
      completion⟩
  · have cleared := s.abortSlot_cleared (lineOfBatch b) b (batchOf_lineOfBatch b)
    rw [State.enterLockout_batch]
    exact ⟨cleared, rfl, rfl⟩

end

/-! ### The trip sources (R6, R7) -/

section
variable (s : State)

theorem State.emergency_lockedOut (cause : Cause) (other : s.burner.state ≠ .lockout) :
    s.LockedOut cause none (s.emergency cause) := by
  rw [State.emergency, if_neg other]
  exact s.enterLockout_lockedOut cause none

theorem State.emergency_counted (cause : Cause) (locked : s.burner.state = .lockout) :
    s.emergency cause = { s with burner := { s.burner with claims := min 65535 (s.burner.claims + 1) } } := if_pos locked

theorem State.tripClaim_taken (point : Nat) : s.TripTaken .alarmTrip (some point) (s.tripClaim point) := by
  refine ⟨fun locked => State.tripClaim_lockout locked point, fun idle => State.tripClaim_idle idle point,
    fun unlocked busy => ?_⟩
  have enters : s.tripClaim point = s.enterLockout .alarmTrip (some point) := by
    unfold State.tripClaim
    split
    · exact absurd ‹_› unlocked
    · exact absurd ‹_› busy
    all_goals rfl
  rw [enters]
  exact s.enterLockout_lockedOut _ _

theorem State.coolerStop_taken : s.TripTaken .coolerStopped none s.coolerStop := by
  refine ⟨fun locked => ?_, fun idle => ?_, fun unlocked busy => ?_⟩
  · rw [State.coolerStop, locked]
    rfl
  · rw [State.coolerStop, idle]
  have enters : s.coolerStop = s.enterLockout .coolerStopped none := by
    unfold State.coolerStop
    split
    · exact absurd ‹_› unlocked
    · exact absurd ‹_› busy
    all_goals rfl
  rw [enters]
  exact s.enterLockout_lockedOut _ _

theorem State.endMainTrial_failed (failed : (∀ l : Fin 6, s.lines[l].state ≠ .opened) ∨ s.burner.flame = false) :
    s.endMainTrial = s.enterLockout .ignitionFail none := by
  refine if_neg fun lit => ?_
  obtain ⟨fed, flame⟩ := (Bool.and_eq_true _ _).mp lit
  obtain closed | dark := failed
  · obtain ⟨l, state⟩ := (vector_any_iff _ _).1 fed
    exact closed l (of_decide_eq_true state)
  · rw [dark] at flame
    cases flame

end

end Sys2Proof.Machine

open Sys2Proof Sys2Proof.Machine

/-- Settles O28. -/
theorem lockoutEntered : Obligations.LockoutEntered := by
  intro s
  refine ⟨fun tag ready => ⟨fun other => ?_, fun locked => ?_⟩, fun t live past => ⟨fun ignition timer => ?_,
    fun state timer => ?_, fun state timer => ?_, fun trial timer failed => ?_⟩⟩
  · exact ⟨_, exec_done rfl ready rfl, s.taken.emergency_lockedOut .hostStop other⟩
  · rw [← s.taken.emergency_counted .hostStop locked]
    exact exec_done rfl ready rfl
  · exact ⟨_, next_settled live (Burner.due_of (by rw [ignition]; rfl) timer past) rfl, s.enterLockout_lockedOut _ _⟩
  · have supervised : s.burner.state.supervised = true := by
      simp only [List.mem_cons, List.not_mem_nil, or_false] at state
      obtain state | state | state | state := state <;> rw [state] <;> rfl
    exact ⟨_, next_settled live (Burner.due_of supervised timer past) rfl, s.enterLockout_lockedOut _ _⟩
  · exact ⟨_, next_settled live (Burner.due_of ((BurnerState.firing_iff _).2 state) timer past) rfl,
      s.enterLockout_lockedOut _ _⟩
  · exact ⟨_, next_settled live (Burner.due_of (by rw [trial]; rfl) timer past) (s.endMainTrial_failed failed),
      s.enterLockout_lockedOut _ _⟩

end

section
/-! The alarm unit's operations in their parts: a change of a point's state, a raise, the flood monitor (R131 to R135, R142,
R143, R145). -/

set_option Elab.async false

namespace Sys2Proof.Machine

open Sys2Proof

/-! ### The change list (R142, R143) -/

theorem PointClass.low_iff (c : PointClass) : c.low = decide (c = .routine ∨ c = .record) := by
  cases c <;> rfl

/-- The record that makes room in a full list: the oldest, or for a class that does not give way the oldest that does. -/
theorem roomFor_removes (c : PointClass) {l : List Change} (some : l ≠ []) :
    ∃ older gone newer, l = older ++ gone :: newer ∧ roomFor c l = older ++ newer ∧
      (c.low = true ∨ (∀ r ∈ l, r.cls.low = false) → older = []) ∧
      (c.low = false → (∃ r ∈ l, r.cls.low = true) → gone.cls.low = true ∧ ∀ r ∈ older, r.cls.low = false) := by
  obtain ⟨first, rest, rfl⟩ := List.exists_cons_of_ne_nil some
  unfold roomFor
  by_cases low : c.low = true
  · rw [if_pos low]
    exact ⟨[], first, rest, rfl, rfl, fun _ => rfl, fun high => by rw [low] at high; cases high⟩
  rw [if_neg low]
  by_cases yields : ((first :: rest).any fun r => r.cls.low) = true
  · rw [if_pos yields]
    obtain ⟨r, member, rlow⟩ := List.any_eq_true.1 yields
    obtain ⟨gone, older, newer, before, lows, split, erased⟩ :=
      List.exists_of_eraseP (p := fun r : Change => r.cls.low) member rlow
    refine ⟨older, gone, newer, split, erased, fun none => ?_, fun _ _ => ⟨lows, fun q old => ?_⟩⟩
    · obtain high | none := none
      · exact absurd high low
      · rw [none r member] at rlow
        cases rlow
    · simpa using before q old
  · rw [if_neg yields]
    refine ⟨[], first, rest, rfl, rfl, fun _ => rfl, fun _ ⟨r, member, rlow⟩ => ?_⟩
    exact absurd (List.any_eq_true.2 ⟨r, member, rlow⟩) yields

theorem floodHides_iff (c : PointClass) (old new : PointState) :
    floodHides c old new = true ↔
      c = .record ∧ ((old = .normal ∧ new = .raised) ∨ (old = .raised ∧ new = .normal)) := by
  simp [floodHides]

/-! ### Cut-back claims (R77, R134) -/

theorem mem_addClaim (point pct : Nat) (l : List (Nat × Nat)) (c : Nat × Nat) (other : c.1 ≠ point) :
    c ∈ addClaim point pct l ↔ c ∈ l := by
  have apart : c ≠ (point, pct) := fun same => other (by rw [same])
  induction l with
  | nil => simp [addClaim, apart]
  | cons d l ih =>
    unfold addClaim
    split
    · simp [ih]
    · split
      next same =>
        have gone : c ≠ d := fun eq => other (by rw [eq, same])
        simp [apart, gone]
      · simp [apart]

theorem addClaim_mem (point pct : Nat) (l : List (Nat × Nat)) : (point, pct) ∈ addClaim point pct l := by
  induction l with
  | nil => simp [addClaim]
  | cons d l ih =>
    unfold addClaim
    split
    · exact List.mem_cons_of_mem _ ih
    · split <;> exact List.mem_cons_self

theorem addClaim_sorted (point pct : Nat) {l : List (Nat × Nat)} (sorted : (l.map Prod.fst).Pairwise (· < ·)) :
    ((addClaim point pct l).map Prod.fst).Pairwise (· < ·) := by
  induction l with
  | nil => simp [addClaim]
  | cons d l ih =>
    rw [List.map_cons, List.pairwise_cons] at sorted
    obtain ⟨first, rest⟩ := sorted
    unfold addClaim
    split
    next below =>
      rw [List.map_cons, List.pairwise_cons]
      refine ⟨fun n member => ?_, ih rest⟩
      obtain ⟨c, claimed, rfl⟩ := List.mem_map.1 member
      by_cases same : c.1 = point
      · omega
      · exact first _ (List.mem_map.2 ⟨c, (mem_addClaim point pct l c same).1 claimed, rfl⟩)
    · split
      next same =>
        rw [List.map_cons, List.pairwise_cons]
        exact ⟨fun n member => same ▸ first n member, rest⟩
      next above other =>
        rw [List.map_cons, List.map_cons, List.pairwise_cons, List.pairwise_cons]
        refine ⟨fun n member => ?_, first, rest⟩
        have lower : point < d.1 := by omega
        obtain rfl | later := List.mem_cons.1 member
        · exact lower
        · exact lower.trans (first n later)

theorem withdrawClaim_sorted (point : Nat) {l : List (Nat × Nat)} (sorted : (l.map Prod.fst).Pairwise (· < ·)) :
    ((withdrawClaim point l).map Prod.fst).Pairwise (· < ·) :=
  sorted.sublist (List.filter_sublist.map _)

theorem mem_withdrawClaim (point : Nat) (l : List (Nat × Nat)) (c : Nat × Nat) :
    c ∈ withdrawClaim point l ↔ c ∈ l ∧ c.1 ≠ point := by
  simp [withdrawClaim]

theorem claims_iff (st : PointState) : claims st = true ↔ st = .raised ∨ st = .acked := by
  simp [claims]

/-! ### The record of a change of state (R142) -/

/-- The change record of point `i` as it enters a state. -/
def State.changeTo (s : State) (i : Fin 96) (new : PointState) : Change :=
  { sequence := s.alarm.nextSequence, time := s.floorTime, point := i.val + 1, cls := s.alarm.points[i.val].defn.cls,
    old := s.alarm.points[i.val].state, new := new, value := s.sourceValue s.alarm.points[i.val].defn.source }

/-- A flood keeps the change out of the list (R142). -/
def State.hides (s : State) (i : Fin 96) (new : PointState) : Bool :=
  s.alarm.flood && floodHides s.alarm.points[i.val].defn.cls s.alarm.points[i.val].state new

/-- The change raises no ALARM request (R142). -/
def State.unannounced (s : State) (i : Fin 96) (new : PointState) : Bool :=
  s.hides i new || decide (s.alarm.points[i.val].defn.cls = .record) ||
    decide (s.alarm.points[i.val].defn.cls = .trip ∧ new = .raised)

section
variable (s : State) (i : Fin 96) (new : PointState)

theorem State.listChange_alarm :
    (s.listChange i new).alarm = if s.hides i new then s.alarm else s.alarm.addChange (s.changeTo i new) := by
  unfold State.listChange State.hides
  dsimp only
  split
  · rfl
  · split <;> rfl

theorem State.listChange_attention :
    (s.listChange i new).attention = if s.unannounced i new then s.attention else (s.raise .alarm).attention := by
  unfold State.listChange State.unannounced State.hides
  dsimp only
  by_cases hidden : (s.alarm.flood && floodHides s.alarm.points[i.val].defn.cls s.alarm.points[i.val].state new) = true
  · simp only [hidden, if_true, Bool.true_or]
  · simp only [hidden, if_false, Bool.false_eq_true, Bool.false_or, Bool.or_eq_true, decide_eq_true_eq, Bool.decide_and,
      Bool.and_eq_true]
    split
    · rfl
    · exact State.raise_attention_congr rfl _

theorem Alarm.addChange_eq (a : Alarm) (c : Change) :
    a.addChange c =
      { a with
        nextSequence := (a.nextSequence + 1) % 65536,
        changes := if a.changes.length < 128 then a.changes ++ [c] else roomFor c.cls a.changes ++ [c],
        overrun := if a.changes.length < 128 then a.overrun else true } := by
  unfold Alarm.addChange
  dsimp only
  split <;> rfl

/-- A change of state leaves of the alarm unit all but these (R131, R135, R142). -/
theorem State.enterPoint_alarm_eq :
    (s.enterPoint i new).alarm =
      { s.alarm with
        points := upd s.alarm.points i fun p => { p with state := new, lastChange := some s.floorTime },
        changes := (s.enterPoint i new).alarm.changes, nextSequence := (s.enterPoint i new).alarm.nextSequence,
        overrun := (s.enterPoint i new).alarm.overrun, horn := (s.enterPoint i new).alarm.horn,
        standing := (s.enterPoint i new).alarm.standing } := by
  rw [State.enterPoint_alarm]
  simp only [State.modPoint, State.modAlarm, State.listChange_alarm]
  split
  · rfl
  · rw [Alarm.addChange_eq]

theorem State.enterPoint_list :
    ((s.enterPoint i new).alarm.changes, (s.enterPoint i new).alarm.nextSequence, (s.enterPoint i new).alarm.overrun) =
      ((s.listChange i new).alarm.changes, (s.listChange i new).alarm.nextSequence, (s.listChange i new).alarm.overrun) :=
    by
  rw [State.enterPoint_alarm]
  rfl

theorem State.enterPoint_attention :
    (s.enterPoint i new).attention = if s.unannounced i new then s.attention else (s.raise .alarm).attention := by
  rw [← State.listChange_attention]
  simp [State.enterPoint]

theorem State.enterPoint_shift :
    (s.enterPoint i new).shift =
      { s.shift with
        current :=
          { s.shift.current with
            totals :=
              { s.shift.current.totals with
                maxStanding := max s.shift.current.totals.maxStanding (s.enterPoint i new).alarm.standing } } } := by
  have formed (u : State) (same : u.shift = s.shift) :
      u.formHorn.shift =
        { s.shift with
          current :=
            { s.shift.current with
              totals :=
                { s.shift.current.totals with
                  maxStanding := max s.shift.current.totals.maxStanding u.formHorn.alarm.standing } } } := by
    rw [← same]
    rfl
  exact formed _ (by simp)

theorem State.enterPoint_sameBut : SameBut [.lines, .heat, .alarm, .attention, .shift] s (s.enterPoint i new) := by
  intro b other
  cases b <;> simp_all [Block.Same]

/-! ### The cut-back claim of a change (R134) -/

theorem SameBut.apart {s t : State} (same : SameBut [.alarm, .attention, .shift] s t) :
    t = { s with alarm := t.alarm, attention := t.attention, shift := t.shift } := by
  have time := same .time (by decide)
  have reset := same .reset (by decide)
  have link := same .link (by decide)
  have burner := same .burner (by decide)
  have lines := same .lines (by decide)
  have batches := same .batches (by decide)
  have envelope := same .envelope (by decide)
  have heat := same .heat (by decide)
  have cooler := same .cooler (by decide)
  have field := same .field (by decide)
  have queue := same .queue (by decide)
  cases s
  cases t
  simp_all [Block.Same]

/-- An evaluation follows neither the alarm unit nor the attention flags nor the recorder. -/
theorem State.evaluate_apart (t : State) (alarm : Alarm) (attention : Attention) (shift : Shift) :
    ({ t with alarm := alarm, attention := attention, shift := shift } : State).evaluate =
      { t.evaluate with alarm := alarm, attention := attention, shift := shift } := rfl

theorem State.evaluate_claims (t : State) : t.evaluate.heat.claims = t.heat.claims := rfl

/-- The cut-back claims after a point has entered a state (R134). -/
def State.claimsAfter (s : State) (i : Fin 96) (new : PointState) : List (Nat × Nat) :=
  if claims new then addClaim (i.val + 1) s.alarm.points[i.val].defn.cutBack s.heat.claims
  else withdrawClaim (i.val + 1) s.heat.claims

theorem State.enterPoint_unclaimed
    (same : s.alarm.points[i.val].defn.cutBack = 0 ∨ claims s.alarm.points[i.val].state = claims new) :
    (s.enterPoint i new).heat = s.heat ∧ (s.enterPoint i new).lines = s.lines := by
  simp [State.enterPoint, State.claimCutBack, same]

theorem State.enterPoint_claimed (cutBack : s.alarm.points[i.val].defn.cutBack ≠ 0)
    (changed : claims s.alarm.points[i.val].state ≠ claims new) :
    (s.enterPoint i new).heat =
        ({ s with heat := { s.heat with claims := s.claimsAfter i new } } : State).evaluate.heat ∧
      (s.enterPoint i new).lines =
        ({ s with heat := { s.heat with claims := s.claimsAfter i new } } : State).evaluate.lines := by
  have before : SameBut [.alarm, .attention, .shift] s ((s.listChange i new).modPoint i fun q =>
      { q with state := new, lastChange := some s.floorTime }) := by
    intro b other
    cases b <;> simp_all [Block.Same]
  unfold State.enterPoint State.claimsAfter
  dsimp only
  rw [before.apart]
  simp only [State.claimCutBack, cutBack, changed, decide_false, Bool.or_false, if_false, Bool.false_eq_true]
  split <;> exact ⟨rfl, rfl⟩

end

end Sys2Proof.Machine
end

section
/-! A raise, the flood monitor and the active state of a point (R130, R131, R133, R135, R145), and O51. -/

set_option Elab.async false

namespace Sys2Proof.Machine

open Sys2Proof

/-! ### The horn and the standing count (R135) -/

theorem vector_countP {α : Type} {n : Nat} (v : Vector α n) (p : α → Bool) :
    v.toList.countP p = (List.finRange n).countP fun j => p v[j] := by
  have listed : v.toList = (List.finRange n).map fun j => v[j] := by
    apply List.ext_getElem <;> simp
  rw [listed, List.countP_map]
  rfl

theorem hornOf_iff (points : Vector Point 96) :
    hornOf points = true ↔
      ∃ j : Fin 96, (points[j].defn.cls = .trip ∨ points[j].defn.cls = .urgent) ∧ points[j].state = .raised := by
  rw [hornOf, vector_any_iff]
  simp [sounds]

theorem standingOf_eq (points : Vector Point 96) :
    standingOf points =
      (List.finRange 96).countP fun j : Fin 96 =>
        decide (points[j].defn.cls ≠ .record ∧ points[j].state ∈ [.raised, .acked, .returned]) := by
  rw [standingOf, vector_countP]
  refine List.countP_congr fun j _ => ?_
  simp [stands, or_assoc]

/-! ### A raise (R131, R145) -/

/-- The shift's count of the raises of a class (R160). -/
def State.raiseCounted (s : State) (c : PointClass) : State :=
  s.modTotals fun t => { t with raises := upd t.raises ⟨c.ctorIdx, by cases c <;> decide⟩ fun n => add32 n 1 }

/-- The notifications of a raise (Table 7-8). -/
def State.raiseNotified (s : State) (i : Fin 96) (c : PointClass) : State :=
  if c = .trip then (s.raise .trip).addEvent (.tripRaise (i.val + 1)) else s

/-- The raise list of a raise, with the threshold in force (R145). -/
def State.raiseListed (s : State) : State :=
  s.modAlarm fun a =>
    { a with
      raiseThreshold := a.floodThreshold, raises := addRaise a.floodThreshold s.floorTime a.raises,
      reviewCount := if a.flood then a.reviewCount + 1 else a.reviewCount }

theorem State.raiseOnce_eq (s : State) (i : Fin 96) :
    s.raiseOnce i =
      (((s.enterPoint i .raised).raiseCounted s.alarm.points[i.val].defn.cls).raiseNotified i
        s.alarm.points[i.val].defn.cls).raiseListed := rfl

section
variable (s : State) (i : Fin 96) (c : PointClass)

theorem State.raiseNotified_alarm : (s.raiseNotified i c).alarm = s.alarm ∧ (s.raiseNotified i c).floorTime = s.floorTime
    := by
  unfold State.raiseNotified
  split <;> simp

theorem State.raiseNotified_totals : (s.raiseNotified i c).shift.current.totals = s.shift.current.totals := by
  unfold State.raiseNotified
  split
  · simp only [State.addEvent, State.modShift, State.raise_frame]
    split <;> rfl
  · rfl

theorem State.raiseOnce_alarm :
    (s.raiseOnce i).alarm =
      { (s.enterPoint i .raised).alarm with
        raiseThreshold := s.alarm.floodThreshold, raises := addRaise s.alarm.floodThreshold s.floorTime s.alarm.raises,
        reviewCount := if s.alarm.flood then s.alarm.reviewCount + 1 else s.alarm.reviewCount } := by
  have listed (t : State) (time : t.floorTime = s.floorTime) (raises : t.alarm.raises = s.alarm.raises)
      (threshold : t.alarm.floodThreshold = s.alarm.floodThreshold) (flood : t.alarm.flood = s.alarm.flood)
      (count : t.alarm.reviewCount = s.alarm.reviewCount) :
      t.raiseListed.alarm =
        { t.alarm with
          raiseThreshold := s.alarm.floodThreshold, raises := addRaise s.alarm.floodThreshold s.floorTime s.alarm.raises,
          reviewCount := if s.alarm.flood then s.alarm.reviewCount + 1 else s.alarm.reviewCount } := by
    rw [← time, ← raises, ← threshold, ← flood, ← count]
    rfl
  have alarm := s.enterPoint_alarm_eq i .raised
  obtain ⟨same, time⟩ := ((s.enterPoint i .raised).raiseCounted s.alarm.points[i.val].defn.cls).raiseNotified_alarm i
    s.alarm.points[i.val].defn.cls
  have counted (t : State) (c : PointClass) : (t.raiseCounted c).alarm = t.alarm := rfl
  rw [counted] at same
  rw [State.raiseOnce_eq, listed, same]
  · rw [time]
    simp [State.raiseCounted]
  all_goals rw [same, alarm]

theorem State.raiseOnce_sameBut : SameBut [.alarm, .attention, .shift] (s.enterPoint i .raised) (s.raiseOnce i) := by
  have counted (t : State) (c : PointClass) : SameBut [.alarm, .attention, .shift] t (t.raiseCounted c) := by
    intro b other
    cases b <;> simp_all [Block.Same, State.raiseCounted]
  have notified (t : State) (c : PointClass) : SameBut [.alarm, .attention, .shift] t (t.raiseNotified i c) := by
    unfold State.raiseNotified
    split
    · exact (State.raise_sameBut _ _ (by decide)).trans (State.addEvent_sameBut _ _ (by decide))
    · exact SameBut.refl _ _
  exact ((counted _ _).trans (notified _ _)).trans (State.modAlarm_sameBut _ _ (by decide))

theorem addRaise_length (f now : Nat) (l : List Nat) : (addRaise f now l).length = min f (l.length + 1) := by
  simp only [addRaise, List.length_drop, List.length_append, List.length_singleton]
  omega

theorem addRaise_suffix (f now : Nat) (l : List Nat) : addRaise f now l <:+ l ++ [now] := List.drop_suffix _ _

theorem State.raiseOnce_attention :
    (s.raiseOnce i).attention =
      if s.alarm.points[i.val].defn.cls = .trip then ((s.enterPoint i .raised).raise .trip).attention
      else (s.enterPoint i .raised).attention := by
  have notified (t : State) (c : PointClass) : ((t.raiseCounted c).raiseNotified i c).raiseListed.attention =
      if c = .trip then (t.raise .trip).attention else t.attention := by
    unfold State.raiseListed State.raiseNotified
    split
    · simp only [State.modAlarm, State.addEvent_frame]
      exact State.raise_attention_congr rfl _
    · rfl
  exact notified _ _

theorem State.raiseOnce_totals :
    (s.raiseOnce i).shift.current.totals.raises =
      upd s.shift.current.totals.raises ⟨s.alarm.points[i.val].defn.cls.ctorIdx,
        by cases s.alarm.points[i.val].defn.cls <;> decide⟩ fun n => add32 n 1 := by
  have listed (t : State) : t.raiseListed.shift = t.shift := rfl
  have counted (t : State) (c : PointClass) : (t.raiseCounted c).shift.current.totals.raises =
      upd t.shift.current.totals.raises ⟨c.ctorIdx, by cases c <;> decide⟩ fun n => add32 n 1 := rfl
  rw [State.raiseOnce_eq, listed, State.raiseNotified_totals, counted, State.enterPoint_shift]

/-- The recorder after a raise, in terms of the count of its class. -/
theorem State.raiseOnce_shift :
    (s.raiseOnce i).shift =
      (({ s.enterPoint i .raised with
        shift :=
          { (s.enterPoint i .raised).shift with
            current :=
              { (s.enterPoint i .raised).shift.current with
                totals :=
                  { (s.enterPoint i .raised).shift.current.totals with
                    raises := (s.raiseOnce i).shift.current.totals.raises } } } } : State).raiseNotified i
        s.alarm.points[i.val].defn.cls).shift := by
  have counted (t : State) (c : PointClass) : (t.raiseCounted c).raiseNotified i c =
      ({ t with
        shift :=
          { t.shift with
            current :=
              { t.shift.current with
                totals :=
                  { t.shift.current.totals with
                    raises := ((t.raiseCounted c).raiseNotified i c).shift.current.totals.raises } } } } :
        State).raiseNotified i c := by
    rw [State.raiseNotified_totals]
    rfl
  have listed (t : State) : t.raiseListed.shift = t.shift := rfl
  rw [State.raiseOnce_eq, listed]
  exact congrArg State.shift (counted _ _)

end

/-! ### The flood monitor (R145) -/

theorem floodBegins_iff (a : Alarm) :
    floodBegins a = true ↔
      a.raises ≠ [] ∧ a.raises.length = a.floodThreshold ∧
        a.raises.getLast?.getD 0 - a.raises.head?.getD 0 ≤ a.floodWindow * 1000 := by
  unfold floodBegins
  cases a.raises with
  | nil => simp
  | cons oldest rest => simp [List.getLastD_eq_getLast?]

/-- The part as a flood begins, before the raise of point 13 (R145). -/
def State.floodBegun (s : State) : State :=
  ({ s with
    alarm :=
      { s.alarm with
        flood := true, reviewAt := some (s.floorTime + s.alarm.floodWindow * 1000), reviewCount := 0 }
    shift :=
      { s.shift with
        current :=
          { s.shift.current with
            totals :=
              { s.shift.current.totals with
                floods := min 4294967295 (s.shift.current.totals.floods + 1) } } } } : State).addEvent .floodStart

/-- The part with point 13 active. -/
def State.floodActive (s : State) : State := s.modPoint 12 fun p => { p with condition := true, active := true }

section
variable {s : State}

theorem State.addEvent_modTotals (s : State) (e : EventKind) (f : Totals → Totals) :
    (s.addEvent e).modTotals f = (s.modTotals f).addEvent e := by
  by_cases room : s.shift.current.events.length < 48
  · simp only [State.addEvent, State.modTotals, State.modShift, room, if_true]
  · simp only [State.addEvent, State.modTotals, State.modShift, room, if_false]

theorem State.watchFlood_calm (calm : ¬(s.alarm.flood = false ∧ floodBegins s.alarm = true)) : s.watchFlood = s := by
  refine if_neg fun begins => calm ?_
  simpa using begins

theorem State.watchFlood_begins (calm : s.alarm.flood = false) (begins : floodBegins s.alarm = true) :
    s.watchFlood = s.floodBegun.raiseFlood := by
  have met : (!s.alarm.flood && floodBegins s.alarm) = true := by rw [calm, begins]; rfl
  rw [State.watchFlood, if_pos met]
  dsimp only
  rw [State.addEvent_modTotals]
  rfl

theorem State.raiseFlood_disabled (disabled : s.alarm.points[12].state = .disabled) : s.raiseFlood = s := if_pos disabled

theorem State.raiseFlood_raises (rests : s.alarm.points[12].state = .normal ∨ s.alarm.points[12].state = .returned) :
    s.raiseFlood = s.floodActive.raiseOnce 12 := by
  have enabled : s.alarm.points[12].state ≠ .disabled := by
    obtain state | state := rests <;> rw [state] <;> decide
  rw [State.raiseFlood, if_neg enabled]
  exact if_pos (by simpa using rests)

theorem State.raiseFlood_stands (enabled : s.alarm.points[12].state ≠ .disabled)
    (stands : ¬(s.alarm.points[12].state = .normal ∨ s.alarm.points[12].state = .returned)) :
    s.raiseFlood = s.floodActive := by
  rw [State.raiseFlood, if_neg enabled]
  exact if_neg (by simpa using stands)

theorem State.floodBegun_points (s : State) : s.floodBegun.alarm.points = s.alarm.points := by
  simp [State.floodBegun]

end

/-! ### The active state (R130, R131) -/

section
variable {s : State} {i : Fin 96}

theorem State.modPoint_self (s : State) (i : Fin 96) (f : Point → Point) :
    (s.modPoint i f).alarm.points[i.val] = f s.alarm.points[i.val] := upd_get_self _ _ _

/-- The part with the active state of a point turned and its delay timer stopped. -/
def State.turned (s : State) (i : Fin 96) (active : Bool) : State :=
  s.modPoint i fun p => { p with active := active, delayAt := none }

theorem State.becomeActive_raises (rests : s.alarm.points[i].state = .normal ∨ s.alarm.points[i].state = .returned) :
    s.becomeActive i = (s.turned i true).raisePoint i := if_pos (by simpa using rests)

theorem State.becomeActive_stays (normal : s.alarm.points[i].state ≠ .normal)
    (returned : s.alarm.points[i].state ≠ .returned) : s.becomeActive i = s.turned i true :=
  if_neg (by simpa using ⟨normal, returned⟩)

theorem State.becomeInactive_rests (rests : s.alarm.points[i].state = .acked ∨
      (s.alarm.points[i].state = .raised ∧ s.alarm.points[i].defn.cls = .record)) :
    s.becomeInactive i =
      (s.turned i false).enterPoint i (if s.groupHolds s.alarm.points[i].defn.group then .suppressed else .normal) := by
  have group : (s.turned i false).groupHolds (s.turned i false).alarm.points[i.val].defn.group =
      s.groupHolds s.alarm.points[i].defn.group := by
    rw [State.turned, State.modPoint_self]
    rfl
  refine (if_pos (by simpa using rests)).trans ?_
  exact congrArg (fun holds : Bool => (s.turned i false).enterPoint i (if holds then .suppressed else .normal)) group

theorem State.becomeInactive_returns (raised : s.alarm.points[i].state = .raised)
    (listed : s.alarm.points[i].defn.cls ≠ .record) :
    s.becomeInactive i = (s.turned i false).enterPoint i .returned := by
  have raised : s.alarm.points[i.val].state = .raised := raised
  have listed : s.alarm.points[i.val].defn.cls ≠ .record := listed
  simp only [State.becomeInactive, raised, listed, reduceCtorEq, decide_false, decide_true, Bool.false_or, Bool.and_false,
    Bool.false_eq_true, if_false, if_true]
  rfl

theorem State.becomeInactive_stays (raised : s.alarm.points[i].state ≠ .raised) (acked : s.alarm.points[i].state ≠ .acked) :
    s.becomeInactive i = s.turned i false := by
  have raised : s.alarm.points[i.val].state ≠ .raised := raised
  have acked : s.alarm.points[i.val].state ≠ .acked := acked
  simp only [State.becomeInactive, raised, acked, decide_false, Bool.false_or, Bool.false_and, Bool.false_eq_true, if_false]
  rfl

end

theorem Point.delayDue_of {p : Point} {active : Bool} {t now : Nat} (enabled : p.state ≠ .disabled)
    (stands : p.active = active) (timer : p.delayAt = some t) (past : t ≤ now) : p.delayDue active now = true := by
  simp [Point.delayDue, enabled, stands, isDue_of timer past]

/-! ### The record and the claim of a change of state (R134, R142) -/

section
variable {s : State} {i : Fin 96} {new : PointState}

theorem State.hides_iff :
    s.hides i new = true ↔
      s.alarm.flood = true ∧ s.alarm.points[i].defn.cls = .record ∧
        ((s.alarm.points[i].state = .normal ∧ new = .raised) ∨ (s.alarm.points[i].state = .raised ∧ new = .normal)) := by
  rw [State.hides, Bool.and_eq_true, floodHides_iff]
  rfl

theorem State.unannounced_iff :
    s.unannounced i new = true ↔
      s.hides i new = true ∨ s.alarm.points[i].defn.cls = .record ∨
        (s.alarm.points[i].defn.cls = .trip ∧ new = .raised) := by
  rw [State.unannounced, Bool.or_eq_true, Bool.or_eq_true, decide_eq_true_iff, decide_eq_true_iff, or_assoc]
  rfl

theorem State.enterPoint_unlisted (hidden : s.hides i new = true) :
    (s.enterPoint i new).alarm.changes = s.alarm.changes ∧
      (s.enterPoint i new).alarm.nextSequence = s.alarm.nextSequence ∧
        (s.enterPoint i new).alarm.overrun = s.alarm.overrun := by
  have list := s.enterPoint_list i new
  rw [State.listChange_alarm, if_pos hidden] at list
  simp only [Prod.mk.injEq] at list
  exact list

theorem State.enterPoint_listed (shown : ¬s.hides i new = true) :
    (s.enterPoint i new).alarm.nextSequence = (s.alarm.nextSequence + 1) % 65536 ∧
      (s.alarm.changes.length < 128 →
        (s.enterPoint i new).alarm.changes = s.alarm.changes ++ [s.changeTo i new] ∧
          (s.enterPoint i new).alarm.overrun = s.alarm.overrun) ∧
      (128 ≤ s.alarm.changes.length →
        (s.enterPoint i new).alarm.changes =
            roomFor s.alarm.points[i].defn.cls s.alarm.changes ++ [s.changeTo i new] ∧
          (s.enterPoint i new).alarm.overrun = true) := by
  have list := s.enterPoint_list i new
  rw [State.listChange_alarm, if_neg shown, Alarm.addChange_eq] at list
  simp only [Prod.mk.injEq] at list
  obtain ⟨changes, sequence, overrun⟩ := list
  refine ⟨sequence, fun room => ?_, fun full => ?_⟩
  · exact ⟨changes.trans (if_pos room), overrun.trans (if_pos room)⟩
  · exact ⟨changes.trans (if_neg (by omega)), overrun.trans (if_neg (by omega))⟩

theorem claims_same_iff (old new : PointState) :
    claims old = claims new ↔ ((old = .raised ∨ old = .acked) ↔ (new = .raised ∨ new = .acked)) := by
  rw [Bool.eq_iff_iff, claims_iff, claims_iff]

theorem State.claimsAfter_others (s : State) (i : Fin 96) (new : PointState) (c : Nat × Nat) (other : c.1 ≠ i.val + 1) :
    c ∈ s.claimsAfter i new ↔ c ∈ s.heat.claims := by
  unfold State.claimsAfter
  split
  · exact mem_addClaim _ _ _ _ other
  · rw [mem_withdrawClaim]
    exact and_iff_left other

theorem State.claimsAfter_claims (claiming : claims new = true) :
    (i.val + 1, s.alarm.points[i].defn.cutBack) ∈ s.claimsAfter i new := by
  rw [State.claimsAfter, if_pos claiming]
  exact addClaim_mem _ _ _

theorem State.claimsAfter_withdrawn (withdrawn : ¬claims new = true) (pct : Nat) :
    (i.val + 1, pct) ∉ s.claimsAfter i new := by
  rw [State.claimsAfter, if_neg withdrawn, mem_withdrawClaim]
  exact fun member => member.2 rfl

theorem State.claimsAfter_sorted (s : State) (i : Fin 96) (new : PointState)
    (sorted : (s.heat.claims.map Prod.fst).Pairwise (· < ·)) :
    ((s.claimsAfter i new).map Prod.fst).Pairwise (· < ·) := by
  unfold State.claimsAfter
  split
  · exact addClaim_sorted _ _ sorted
  · exact withdrawClaim_sorted _ sorted

end

end Sys2Proof.Machine

open Sys2Proof Sys2Proof.Machine

/-- Settles O51. -/
theorem pointStateChanges : Obligations.PointStateChanges := by
  intro s i p now low withPoint turned
  refine ⟨fun new => ?_, ?_, ?_, ?_, fun c changed apart atOnce => ?_, fun t live enabled timer past => ?_⟩
  · intro t a hidden silent change claiming
    refine ⟨s.enterPoint_sameBut i new, s.enterPoint_alarm_eq i new, fun hides => State.enterPoint_unlisted
      (State.hides_iff.2 hides), fun shown => ?_, fun quiet => ?_, fun loud => ?_, fun still => ?_,
      fun cutBack changed => ?_, ?_, ?_, s.enterPoint_shift i new⟩
    · obtain ⟨sequence, room, full⟩ := State.enterPoint_listed (mt State.hides_iff.1 shown)
      refine ⟨sequence, room, fun long => ?_⟩
      obtain ⟨changes, overrun⟩ := full long
      obtain ⟨older, gone, newer, split, removed, first, least⟩ :=
        roomFor_removes p.defn.cls (l := a.changes) (by rintro none; rw [none] at long; cases long)
      simp only [PointClass.low_iff] at first least
      exact ⟨overrun, older, gone, newer, split, by rw [← removed]; exact changes, first, least⟩
    · exact (s.enterPoint_attention i new).trans (if_pos (State.unannounced_iff.2 (quiet.imp_left State.hides_iff.2)))
    · refine (s.enterPoint_attention i new).trans (if_neg fun quiet => loud ?_)
      exact (State.unannounced_iff.1 quiet).imp_left State.hides_iff.1
    · exact s.enterPoint_unclaimed i new (still.imp_right (claims_same_iff _ _).2)
    · obtain ⟨heat, lines⟩ := s.enterPoint_claimed i new cutBack (mt (claims_same_iff _ _).1 changed)
      have after : t.heat.claims = s.claimsAfter i new := congrArg Heat.claims heat
      rw [after]
      exact ⟨heat, lines, s.claimsAfter_others i new, fun on => State.claimsAfter_claims ((claims_iff _).2 on),
        fun off => State.claimsAfter_withdrawn (mt (claims_iff _).1 off), s.claimsAfter_sorted i new⟩
    · rw [(s.enterPoint_rung i new).1]
      exact hornOf_iff _
    · exact (s.enterPoint_rung i new).2.trans (standingOf_eq _)
  · intro t u f counted
    have alarm := s.raiseOnce_alarm i
    have raises := congrArg Alarm.raises alarm
    refine ⟨s.raiseOnce_sameBut i, ?_, ?_, ?_, fun c => ?_, fun other => ?_, fun trip => ?_⟩
    · exact alarm.trans (by rw [raises])
    · exact (congrArg List.length raises).trans (addRaise_length _ _ _)
    · exact raises ▸ addRaise_suffix _ _ _
    · have counts := s.raiseOnce_totals i
      have count := congrArg (fun v : Vector Nat 4 => v[c.val]) counts
      refine count.trans ((upd_get _ _ c _).trans ?_)
      by_cases own : c.val = p.defn.cls.ctorIdx
      · rw [if_pos (Fin.ext own.symm), if_pos own]
        rfl
      · rw [if_neg (fun same => own (congrArg Fin.val same).symm), if_neg own]
        rfl
    · exact ⟨(s.raiseOnce_attention i).trans (if_neg other), (s.raiseOnce_shift i).trans
        (congrArg State.shift (if_neg other))⟩
    · refine ⟨(s.raiseOnce_attention i).trans (if_pos trip), ?_⟩
      refine (s.raiseOnce_shift i).trans ((congrArg State.shift (if_pos trip)).trans ?_)
      exact State.addEvent_shift_congr rfl rfl _
  · intro oldest newest begins
    have met (b : begins) : floodBegins s.alarm = true := (floodBegins_iff _).2 b.2
    refine ⟨fun calm => State.watchFlood_calm fun both => calm ⟨both.1, (floodBegins_iff _).1 both.2⟩, fun b => ?_⟩
    intro totals q begun active
    have points : s.floodBegun.alarm.points[12].state = q.state := by rw [s.floodBegun_points]; rfl
    have floods := State.watchFlood_begins b.1 (met b)
    refine ⟨fun disabled => ?_, fun rests => ?_, fun stands => ?_⟩
    · exact floods.trans (State.raiseFlood_disabled (points.trans disabled))
    · simp only [List.mem_cons, List.not_mem_nil, or_false] at rests
      exact floods.trans (State.raiseFlood_raises (points.symm ▸ rests))
    · simp only [List.mem_cons, List.not_mem_nil, or_false, not_or] at stands
      obtain ⟨enabled, normal, returned⟩ := stands
      exact floods.trans (State.raiseFlood_stands (points.symm ▸ enabled)
        (points.symm ▸ fun rests => rests.elim normal returned))
  · refine ⟨fun other => if_neg other, fun trip => ?_⟩
    have claims : s.raisePoint i = (s.raiseOnce i).watchFlood.tripClaim (i.val + 1) := if_pos trip
    rw [claims]
    exact State.tripClaim_taken _ _
  · have own := s.modPoint_self i fun q => { q with condition := c }
    have state : (s.modPoint i fun q => { q with condition := c }).alarm.points[i].state = p.state :=
      (congrArg Point.state own :)
    have defn : (s.modPoint i fun q => { q with condition := c }).alarm.points[i].defn = p.defn :=
      (congrArg Point.defn own :)
    have turns := State.setCondition_atOnce changed apart atOnce
    cases c with
    | true =>
      exact ⟨fun _ => ⟨fun rests => turns.trans (State.becomeActive_raises (state ▸ rests)), fun normal returned =>
        turns.trans (State.becomeActive_stays (state ▸ normal) (state ▸ returned))⟩, nofun⟩
    | false =>
      refine ⟨nofun, fun _ => ⟨fun rests => ?_, fun raised listed => ?_, fun raised acked => ?_⟩⟩
      · exact turns.trans ((State.becomeInactive_rests (by rw [state, defn]; exact rests)).trans (by rw [defn]; rfl))
      · exact turns.trans (State.becomeInactive_returns (state ▸ raised) (defn ▸ listed))
      · exact turns.trans (State.becomeInactive_stays (state ▸ raised) (state ▸ acked))
  · refine ⟨fun inactive => ⟨_, next_settled live (Point.delayDue_of enabled inactive timer past) rfl, fun _ => ⟨?_, ?_⟩,
      nofun⟩, fun active => ⟨_, next_settled live (Point.delayDue_of enabled active timer past) rfl, nofun, fun _ =>
      ⟨?_, ?_, ?_⟩⟩⟩
    · exact State.becomeActive_raises
    · exact State.becomeActive_stays
    · exact State.becomeInactive_rests
    · exact State.becomeInactive_returns
    · exact State.becomeInactive_stays

end

section
/-! What the alarm unit's operations make of each point and of the shelf (R130 to R140). -/

set_option Elab.async false

namespace Sys2Proof.Machine

open Sys2Proof

/-! ### A trip leaves the alarm unit but for the conditions handed -/

/-- From `s` to `t` the alarm unit changes in the conditions handed within the event alone. -/
def Hands (s t : State) : Prop := ∃ handed, t.alarm = { s.alarm with handed := handed }

namespace Hands

variable {s t u : State}

theorem of_same (same : t.alarm = s.alarm) : Hands s t := ⟨s.alarm.handed, same⟩

theorem trans (first : Hands s t) (second : Hands t u) : Hands s u := by
  obtain ⟨before, first⟩ := first
  obtain ⟨after, second⟩ := second
  exact ⟨after, by rw [second, first]⟩

theorem points (k : Hands s t) : t.alarm.points = s.alarm.points := by
  obtain ⟨handed, same⟩ := k
  rw [same]

theorem shelf (k : Hands s t) : t.alarm.shelf = s.alarm.shelf := by
  obtain ⟨handed, same⟩ := k
  rw [same]

theorem closeShift (s : State) (cause : CloseCause) (opens : OpenCause) (index : Nat) :
    Hands s (s.closeShift cause opens index) := ⟨_, s.closeShift_alarm cause opens index⟩

theorem deliver (s : State) (l : Fin 6) (grams : Nat) : Hands s (s.deliver l grams) := by
  have before : Hands s (s.beforeDelivery l grams) := by
    unfold State.beforeDelivery
    split
    · exact closeShift s _ _ _
    · exact of_same rfl
  exact before.trans (of_same rfl)

theorem abortSlot (s : State) (l : Fin 6) : Hands s (s.abortSlot l) := by
  cases named : batchOf l with
  | none => exact of_same (by rw [State.abortSlot_idle (by simp [named])])
  | some b =>
    cases inFlight : s.batches[b.val].slot with
    | none => exact of_same (by rw [State.abortSlot_idle (by simp [named, inFlight])])
    | some w =>
      have charged : Hands s (s.charged l w) := by
        unfold State.charged
        split
        · exact deliver s l _
        · exact of_same rfl
      rw [State.abortSlot_slot named inFlight]
      exact charged.trans (of_same (by simp [State.modBatch]))

theorem tripLine (s : State) (l : Fin 6) : Hands s (s.tripLine l) := by
  have shut : Hands s (s.forcedShut l) := (abortSlot s l).trans (of_same (by simp [State.forcedShut, State.modLine]))
  have unfed : Hands s ((s.forcedShut l).unfed l) := shut.trans (of_same (by simp [State.unfed, State.modLine]))
  rw [State.tripLine_eq]
  dsimp only
  split <;> split <;> exact unfed.trans (of_same (by simp))

theorem tripLines (s : State) (ls : List (Fin 6)) : Hands s (s.tripLines ls) := by
  induction ls generalizing s with
  | nil => exact of_same rfl
  | cons l ls ih => exact (tripLine s l).trans (ih _)

theorem enterLockout (s : State) (cause : Cause) (point : Option Nat) : Hands s (s.enterLockout cause point) := by
  have recorded : Hands s (s.tripRecorded cause point) := of_same (by simp [State.tripRecorded])
  rw [State.enterLockout_eq]
  exact (recorded.trans (tripLines _ allLines)).trans (of_same (by simp [State.linesTripped]))

theorem tripClaim (s : State) (point : Nat) : Hands s (s.tripClaim point) := by
  unfold State.tripClaim
  split
  · exact of_same rfl
  · exact of_same rfl
  all_goals exact enterLockout s _ _

end Hands

/-! ### A raise of a point -/

/-- A point as it enters a state at `now`. -/
def Point.entering (p : Point) (st : PointState) (now : Nat) : Point := { p with state := st, lastChange := some now }

section
variable (s : State) (i : Fin 96)

theorem State.enterPoint_own (new : PointState) :
    (s.enterPoint i new).alarm.points[i] = s.alarm.points[i].entering new s.floorTime := by
  rw [State.enterPoint_points]
  exact upd_get_self _ _ _

theorem State.enterPoint_other (new : PointState) {j : Fin 96} (other : j ≠ i) :
    (s.enterPoint i new).alarm.points[j] = s.alarm.points[j] := by
  rw [State.enterPoint_points]
  exact upd_get_ne _ _ _ _ other.symm

theorem State.raiseOnce_points : (s.raiseOnce i).alarm.points = (s.enterPoint i .raised).alarm.points := by
  rw [State.raiseOnce_alarm]

theorem State.raiseOnce_shelf : (s.raiseOnce i).alarm.shelf = s.alarm.shelf := by
  rw [State.raiseOnce_alarm]
  exact s.enterPoint_shelf i .raised

theorem State.raiseFlood_other {j : Fin 96} (other : j ≠ 12) : s.raiseFlood.alarm.points[j] = s.alarm.points[j] := by
  have active : s.floodActive.alarm.points[j] = s.alarm.points[j] := upd_get_ne _ _ _ _ other.symm
  by_cases disabled : s.alarm.points[12].state = .disabled
  · rw [State.raiseFlood_disabled disabled]
  by_cases rests : s.alarm.points[12].state = .normal ∨ s.alarm.points[12].state = .returned
  · rw [State.raiseFlood_raises rests, State.raiseOnce_points]
    exact (s.floodActive.enterPoint_other 12 .raised other).trans active
  · rw [State.raiseFlood_stands disabled rests]
    exact active

theorem State.raiseFlood_shelf : s.raiseFlood.alarm.shelf = s.alarm.shelf := by
  by_cases disabled : s.alarm.points[12].state = .disabled
  · rw [State.raiseFlood_disabled disabled]
  by_cases rests : s.alarm.points[12].state = .normal ∨ s.alarm.points[12].state = .returned
  · rw [State.raiseFlood_raises rests, State.raiseOnce_shelf]
    rfl
  · rw [State.raiseFlood_stands disabled rests]
    rfl

theorem State.floodBegun_shelf : s.floodBegun.alarm.shelf = s.alarm.shelf := by
  simp [State.floodBegun]

theorem State.watchFlood_eq :
    s.watchFlood = if s.alarm.flood = false ∧ floodBegins s.alarm = true then s.floodBegun.raiseFlood else s := by
  split
  next begins => exact State.watchFlood_begins begins.1 begins.2
  next calm => exact State.watchFlood_calm calm

theorem State.watchFlood_other {j : Fin 96} (other : j ≠ 12) : s.watchFlood.alarm.points[j] = s.alarm.points[j] := by
  rw [State.watchFlood_eq]
  split
  · exact (s.floodBegun.raiseFlood_other other).trans (by rw [s.floodBegun_points])
  · rfl

theorem State.watchFlood_shelf : s.watchFlood.alarm.shelf = s.alarm.shelf := by
  rw [State.watchFlood_eq]
  split
  · rw [State.raiseFlood_shelf, State.floodBegun_shelf]
  · rfl

/-- A point that is raised: a flood that begins within the event may make it active, where it is point 13. -/
theorem State.watchFlood_raised {i : Fin 96} (raised : s.alarm.points[i].state = .raised) :
    s.watchFlood.alarm.points[i] = s.alarm.points[i] ∨
      s.watchFlood.alarm.points[i] = { s.alarm.points[i] with condition := true, active := true } := by
  by_cases flood : i = 12
  · subst flood
    rw [State.watchFlood_eq]
    split
    · have raised : s.floodBegun.alarm.points[12].state = .raised := by rw [s.floodBegun_points]; exact raised
      rw [State.raiseFlood_stands (by rw [raised]; decide) (by rw [raised]; decide), State.floodActive]
      refine .inr ((s.floodBegun.modPoint_self 12 _).trans ?_)
      rw [s.floodBegun_points]
      rfl
    · exact .inl rfl
  · exact .inl (s.watchFlood_other flood)

theorem State.raisePoint_hands : Hands (s.raiseOnce i).watchFlood (s.raisePoint i) := by
  by_cases trip : s.alarm.points[i.val].defn.cls = .trip
  · have claims : s.raisePoint i = (s.raiseOnce i).watchFlood.tripClaim (i.val + 1) := if_pos trip
    rw [claims]
    exact Hands.tripClaim _ _
  · exact Hands.of_same (congrArg State.alarm (if_neg trip))

theorem State.raisePoint_other {j : Fin 96} (other : j ≠ i) (calm : j ≠ 12) :
    (s.raisePoint i).alarm.points[j] = s.alarm.points[j] := by
  rw [(s.raisePoint_hands i).points, State.watchFlood_other _ calm, State.raiseOnce_points]
  exact s.enterPoint_other i .raised other

theorem State.raisePoint_shelf : (s.raisePoint i).alarm.shelf = s.alarm.shelf := by
  rw [(s.raisePoint_hands i).shelf, State.watchFlood_shelf, State.raiseOnce_shelf]

theorem State.raisePoint_own :
    (s.raisePoint i).alarm.points[i] = s.alarm.points[i].entering .raised s.floorTime ∨
      (s.raisePoint i).alarm.points[i] =
        { s.alarm.points[i].entering .raised s.floorTime with condition := true, active := true } := by
  have once : (s.raiseOnce i).alarm.points[i] = s.alarm.points[i].entering .raised s.floorTime := by
    rw [State.raiseOnce_points]
    exact s.enterPoint_own i .raised
  rw [(s.raisePoint_hands i).points, ← once]
  exact (s.raiseOnce i).watchFlood_raised (by rw [once]; rfl)

end

end Sys2Proof.Machine
end

section
/-! ACKNOWLEDGE, SHELVE, UNSHELVE, DISABLE and ENABLE (R132, R137 to R140), and O49. -/

set_option Elab.async false

namespace Sys2Proof.Machine

open Sys2Proof

/-! ### Acknowledgement (R132) -/

/-- A suppression group follows the burner, the lines, the cooler and the monitor: not the points. -/
theorem State.enterPoint_groupHolds (s : State) (i : Fin 96) (new : PointState) (g : Group) :
    (s.enterPoint i new).groupHolds g = s.groupHolds g := by
  cases g with
  | none => rfl
  | kilnStopped => simp [State.groupHolds]
  | coolerAtRest => simp [State.groupHolds]
  | burnerNotFiring => simp [State.groupHolds]
  | lineShut l =>
    have state : (s.enterPoint i new).lineState l = s.lineState l := by simp
    exact congrArg (fun st => decide (st = LineState.shut)) state

/-- An acknowledgement changes the point (R132). -/
def Point.acknowledges (p : Point) : Bool :=
  decide (p.defn.cls ≠ .record) && (decide (p.state = .raised) || decide (p.state = .returned))

/-- The state that an acknowledgement takes a point to (R132, R136). -/
def State.acknowledgedState (s : State) (p : Point) : PointState :=
  if p.state = .raised then .acked else if s.groupHolds p.defn.group then .suppressed else .normal

theorem Point.acknowledges_eq_false {p : Point}
    (stays : p.defn.cls = .record ∨ (p.state ≠ .raised ∧ p.state ≠ .returned)) : p.acknowledges = false := by
  unfold Point.acknowledges
  obtain record | ⟨raised, returned⟩ := stays
  · simp [record]
  · simp [raised, returned]

section
variable {s : State} {i : Fin 96}

theorem State.acknowledge_stays (stays : s.alarm.points[i].acknowledges = false) : s.acknowledge i = (s, false) := by
  have stays : s.alarm.points[i.val].acknowledges = false := stays
  unfold State.acknowledge
  unfold Point.acknowledges at stays
  by_cases record : s.alarm.points[i.val].defn.cls = .record
  · simp only [record, if_true]
  · simp only [record, ne_eq, not_false_eq_true, decide_true, Bool.true_and, Bool.or_eq_false_iff,
      decide_eq_false_iff_not] at stays
    simp only [record, stays, if_false]

theorem State.acknowledge_changes (changes : s.alarm.points[i].acknowledges = true) :
    s.acknowledge i = (s.enterPoint i (s.acknowledgedState s.alarm.points[i]), true) := by
  have changes : s.alarm.points[i.val].acknowledges = true := changes
  unfold State.acknowledge State.acknowledgedState
  simp only [Point.acknowledges, Bool.and_eq_true, Bool.or_eq_true, decide_eq_true_eq] at changes
  obtain ⟨listed, raised | returned⟩ := changes
  · simp only [Fin.getElem_fin, listed, raised, if_true, if_false]
  · simp only [Fin.getElem_fin, listed, returned, if_true, if_false, reduceCtorEq]
    rfl

end

/-- The points named of a class are acknowledged in turn, and the changes counted (R132). -/
def State.acknowledgeAll (s : State) (c : PointClass) (n : Nat) (is : List (Fin 96)) : State × Nat :=
  is.foldl
    (fun acc i =>
      if acc.1.alarm.points[i.val].defn.cls = c then
        let r := acc.1.acknowledge i
        (r.1, acc.2 + r.2.toNat)
      else acc)
    (s, n)

/-- An acknowledgement of class `c` changes the point. -/
def Point.acknowledgesIn (c : PointClass) (p : Point) : Bool := decide (p.defn.cls = c) && p.acknowledges

theorem State.acknowledgeAll_cons (s : State) (c : PointClass) (n : Nat) (i : Fin 96) (is : List (Fin 96)) :
    s.acknowledgeAll c n (i :: is) =
      if s.alarm.points[i].acknowledgesIn c then
        (s.enterPoint i (s.acknowledgedState s.alarm.points[i])).acknowledgeAll c (n + 1) is
      else s.acknowledgeAll c n is := by
  unfold State.acknowledgeAll
  rw [List.foldl_cons]
  by_cases named : s.alarm.points[i].defn.cls = c
  · have named' : s.alarm.points[i.val].defn.cls = c := named
    cases changes : s.alarm.points[i].acknowledges with
    | true => simp only [named', if_true, Point.acknowledgesIn, named, changes, State.acknowledge_changes changes,
        decide_true, Bool.and_self, Bool.toNat_true]
    | false => simp only [named', if_true, Point.acknowledgesIn, changes, State.acknowledge_stays changes, Bool.and_false,
        Bool.false_eq_true, if_false, Bool.toNat_false, Nat.add_zero]
  · have named' : ¬s.alarm.points[i.val].defn.cls = c := named
    simp only [named', if_false, Point.acknowledgesIn, named, decide_false, Bool.false_and, Bool.false_eq_true]

theorem State.acknowledgeAll_spec (s : State) (c : PointClass) (n : Nat) {is : List (Fin 96)} (once : is.Nodup) :
    (s.acknowledgeAll c n is).2 = n + is.countP (fun i => s.alarm.points[i].acknowledgesIn c) ∧
      ∀ i : Fin 96,
        (s.acknowledgeAll c n is).1.alarm.points[i] =
          if i ∈ is ∧ s.alarm.points[i].acknowledgesIn c = true then
            s.alarm.points[i].entering (s.acknowledgedState s.alarm.points[i]) s.floorTime
          else s.alarm.points[i] := by
  induction is generalizing s n with
  | nil => simp [State.acknowledgeAll]
  | cons i is ih =>
    obtain ⟨apart, once⟩ := List.nodup_cons.1 once
    rw [State.acknowledgeAll_cons]
    cases changes : s.alarm.points[i].acknowledgesIn c with
    | false =>
      rw [if_neg Bool.false_ne_true, List.countP_cons, changes, if_neg Bool.false_ne_true, Nat.add_zero]
      obtain ⟨count, points⟩ := ih s n once
      refine ⟨count, fun j => (points j).trans ?_⟩
      by_cases same : j = i
      · subst same
        rw [if_neg fun both => apart both.1, if_neg fun both => by rw [changes] at both; exact Bool.false_ne_true both.2]
      · simp only [List.mem_cons, same, false_or]
    | true =>
      rw [if_pos rfl, List.countP_cons, changes, if_pos rfl]
      obtain ⟨count, points⟩ := ih (s.enterPoint i (s.acknowledgedState s.alarm.points[i])) (n + 1) once
      have other {j : Fin 96} (member : j ∈ is) :=
        s.enterPoint_other i (s.acknowledgedState s.alarm.points[i]) (j := j) fun same => apart (same ▸ member)
      refine ⟨count.trans ?_, fun j => (points j).trans ?_⟩
      · rw [List.countP_congr fun j member => by rw [other member]]
        omega
      · have keeps (p : Point) : (s.enterPoint i (s.acknowledgedState s.alarm.points[i])).acknowledgedState p =
            s.acknowledgedState p := by
          simp only [State.acknowledgedState, State.enterPoint_groupHolds]
        by_cases same : j = i
        · subst same
          rw [if_neg fun both => apart both.1, if_pos ⟨List.mem_cons_self, changes⟩]
          exact s.enterPoint_own _ _
        · rw [s.enterPoint_other i _ same, keeps]
          simp only [List.mem_cons, same, false_or, State.enterPoint_frame]

/-! ### The state that a request brings a point to (R137 to R140) -/

/-- `v` is `u` with a point in a new state; the others are left, but for point 13 of a flood (R131, R145). -/
def State.Entered (u : State) (i : Fin 96) (st : PointState) (v : State) : Prop :=
  v.alarm.points[i].state = st ∧ v.alarm.points[i].lastChange = some u.floorTime ∧
    v.alarm.points[i].defn = u.alarm.points[i].defn ∧
    ∀ j : Fin 96, j ≠ i → j ≠ 12 → v.alarm.points[j] = u.alarm.points[j]

section
variable {s t : State} {i : Fin 96} {st : PointState}

theorem State.enterPoint_entered (s : State) (i : Fin 96) (st : PointState) : s.Entered i st (s.enterPoint i st) := by
  refine ⟨?_, ?_, ?_, fun j other _ => s.enterPoint_other i st other⟩ <;> rw [State.enterPoint_own] <;> rfl

theorem State.raisePoint_entered (s : State) (i : Fin 96) : s.Entered i .raised (s.raisePoint i) := by
  refine ⟨?_, ?_, ?_, fun j other calm => s.raisePoint_other i other calm⟩ <;>
    obtain own | own := s.raisePoint_own i <;> rw [own] <;> rfl

/-- A change of the point's timers, expiry or condition before it enters a state. -/
theorem State.Entered.of_before {v : State} (entered : t.Entered i st v) (time : t.floorTime = s.floorTime)
    (defn : t.alarm.points[i].defn = s.alarm.points[i].defn)
    (others : ∀ j : Fin 96, j ≠ i → t.alarm.points[j] = s.alarm.points[j]) : s.Entered i st v := by
  obtain ⟨state, change, same, kept⟩ := entered
  exact ⟨state, change.trans (by rw [time]), same.trans defn, fun j other calm => (kept j other calm).trans (others j other)⟩

theorem State.modPoint_other (s : State) (f : Point → Point) {j : Fin 96} (other : j ≠ i) :
    (s.modPoint i f).alarm.points[j] = s.alarm.points[j] := upd_get_ne _ _ _ _ other.symm

/-! ### SHELVE (R137) -/

theorem mem_offShelf_iff (i j : Fin 96) (e : Nat) (l : List (Fin 96 × Nat)) :
    (j, e) ∈ offShelf i l ↔ j ≠ i ∧ (j, e) ∈ l := by
  rw [offShelf, List.mem_filter, and_comm]
  exact and_congr_left fun _ => bne_iff_ne

theorem mem_placeOnShelf_iff (i j : Fin 96) (expiry e : Nat) (l : List (Fin 96 × Nat)) :
    (j, e) ∈ placeOnShelf i expiry (offShelf i l) ↔ (j ≠ i ∧ (j, e) ∈ l) ∨ (j = i ∧ e = expiry) := by
  rw [(placeOnShelf_perm i expiry _).mem_iff, List.mem_cons, mem_offShelf_iff, Prod.mk.injEq, or_comm]

/-- A point that is shelved (R137). -/
theorem State.shelvePoint_spec (s : State) (i : Fin 96) (expiry : Nat) :
    (s.shelvePoint i expiry).alarm.points[i].state = .shelved ∧
      (s.shelvePoint i expiry).alarm.points[i].expiry = some expiry ∧
      (s.shelvePoint i expiry).alarm.shelf = placeOnShelf i expiry (offShelf i s.alarm.shelf) ∧
      (s.shelvePoint i expiry).shift.current.totals.shelves =
        min 4294967295 (s.shift.current.totals.shelves + 1) ∧
      ∀ j : Fin 96, j ≠ i → (s.shelvePoint i expiry).alarm.points[j] = s.alarm.points[j] := by
  have entered : (s.enterShelved i).alarm.shelf = s.alarm.shelf ∧ (s.enterShelved i).alarm.points[i].state = .shelved ∧
      (s.enterShelved i).shift.current.totals.shelves = s.shift.current.totals.shelves ∧
      ∀ j : Fin 96, j ≠ i → (s.enterShelved i).alarm.points[j] = s.alarm.points[j] := by
    unfold State.enterShelved
    split
    next shelved => exact ⟨rfl, shelved, rfl, fun _ _ => rfl⟩
    · exact ⟨s.enterPoint_shelf i .shelved, s.enterPoint_state_self i .shelved, by rw [s.enterPoint_shift i .shelved],
        fun j other => s.enterPoint_other i .shelved other⟩
  obtain ⟨shelf, state, count, others⟩ := entered
  have own := (s.enterShelved i).modPoint_self i fun q => { q with expiry := some expiry }
  rw [State.shelvePoint_eq]
  refine ⟨?_, (congrArg Point.expiry own :), ?_, ?_, fun j other => ?_⟩
  · exact (congrArg Point.state own :).trans state
  · exact congrArg (fun l => placeOnShelf i expiry (offShelf i l)) shelf
  · exact congrArg (fun n => min 4294967295 (n + 1)) count
  · exact ((s.enterShelved i).modPoint_other (fun q => { q with expiry := some expiry }) other).trans (others j other)

/-! ### UNSHELVE (R138) -/

/-- The part with a point off the shelf and its expiry gone. -/
def State.offShelved (s : State) (i : Fin 96) : State :=
  (s.modAlarm fun a => { a with shelf := offShelf i a.shelf }).modPoint i fun q => { q with expiry := none }

theorem State.offShelved_own (s : State) (i : Fin 96) :
    (s.offShelved i).alarm.points[i] = { s.alarm.points[i] with expiry := none } :=
  (s.modAlarm fun a => { a with shelf := offShelf i a.shelf }).modPoint_self i _

theorem State.unshelvePoint_eq (s : State) (i : Fin 96) :
    s.unshelvePoint i =
      if s.groupHolds s.alarm.points[i].defn.group then (s.offShelved i).enterPoint i .suppressed
      else if s.alarm.points[i].active then (s.offShelved i).raisePoint i else (s.offShelved i).enterPoint i .normal := rfl

theorem State.Entered.of_offShelved {v : State} (entered : (s.offShelved i).Entered i st v) : s.Entered i st v :=
  entered.of_before rfl (congrArg Point.defn (s.offShelved_own i) :) fun _ other =>
    (s.modAlarm fun a => { a with shelf := offShelf i a.shelf }).modPoint_other _ other

/-- A point that leaves the shelf (R138). -/
theorem State.unshelvePoint_spec (s : State) (i : Fin 96) :
    (s.unshelvePoint i).alarm.points[i].expiry = none ∧ (s.unshelvePoint i).alarm.shelf = offShelf i s.alarm.shelf ∧
      s.Entered i (if s.groupHolds s.alarm.points[i].defn.group then .suppressed
        else if s.alarm.points[i].active then .raised else .normal) (s.unshelvePoint i) := by
  have own := s.offShelved_own i
  have entering (st : PointState) :
      ((s.offShelved i).enterPoint i st).alarm.points[i].expiry = none ∧
        ((s.offShelved i).enterPoint i st).alarm.shelf = offShelf i s.alarm.shelf ∧
        s.Entered i st ((s.offShelved i).enterPoint i st) := by
    refine ⟨?_, (s.offShelved i).enterPoint_shelf i st, ((s.offShelved i).enterPoint_entered i st).of_offShelved⟩
    rw [State.enterPoint_own, own]
    rfl
  rw [State.unshelvePoint_eq]
  split
  · exact entering .suppressed
  · split
    · refine ⟨?_, (s.offShelved i).raisePoint_shelf i, ((s.offShelved i).raisePoint_entered i).of_offShelved⟩
      obtain raised | raised := (s.offShelved i).raisePoint_own i <;> rw [raised, own] <;> rfl
    · exact entering .normal

/-! ### DISABLE (R139) -/

theorem State.disablePoint_spec (s : State) (i : Fin 96) :
    s.Entered i .disabled (s.disablePoint i) ∧ (s.disablePoint i).alarm.points[i].condition = false ∧
      (s.disablePoint i).alarm.points[i].active = false ∧ (s.disablePoint i).alarm.points[i].delayAt = none ∧
      (s.disablePoint i).alarm.points[i].expiry = none ∧
      (s.disablePoint i).alarm.shelf = offShelf i s.alarm.shelf := by
  have own : (s.disablePoint i).alarm.points[i] =
      { (s.enterPoint i .disabled).alarm.points[i] with
        condition := false, active := false, delayAt := none, expiry := none } :=
    ((s.enterPoint i .disabled).modAlarm fun a => { a with shelf := offShelf i a.shelf }).modPoint_self i _
  have shelf : (s.disablePoint i).alarm.shelf = offShelf i s.alarm.shelf :=
    congrArg (offShelf i) (s.enterPoint_shelf i .disabled)
  obtain ⟨state, change, defn, -⟩ := s.enterPoint_entered i .disabled
  refine ⟨⟨?_, ?_, ?_, fun j other _ => ?_⟩, ?_, ?_, ?_, ?_, shelf⟩
  · rw [own, state]
  · rw [own, change]
  · rw [own, defn]
  · exact (((s.enterPoint i .disabled).modAlarm fun a => { a with shelf := offShelf i a.shelf }).modPoint_other _
      other).trans
      (s.enterPoint_other i .disabled other)
  all_goals rw [own]

end

/-! ### ENABLE (R140) -/

/-- The condition of a point follows the units that own the conditions, the flood flag, and the point's own definition and
condition (R128, R129). -/
theorem State.conditionOf_congr {s t : State} {p q : Point} (i : Fin 96) (defn : q.defn = p.defn)
    (condition : q.condition = p.condition) (flood : t.alarm.flood = s.alarm.flood)
    (same : SameBut [.alarm, .attention, .shift] s t) : t.conditionOf i q = s.conditionOf i p := by
  have fixed (n : Nat) : t.fixedCondition n = s.fixedCondition n := by
    rw [same.apart]
    unfold State.fixedCondition
    split
    case h_11 => exact flood
    all_goals rfl
  have di (n : Fin 24) : t.di n = s.di n := by rw [same.apart]; rfl
  have ai (n : Fin 32) : t.ai n = s.ai n := by rw [same.apart]; rfl
  simp only [State.conditionOf, defn, condition, fixed, di, ai]

section
variable {s : State} {i : Fin 96}

/-- A point at rest and inactive that is handed a condition: with delay 0 it is raised at once, and with a delay its timer
starts (R130). -/
theorem State.setCondition_idle (c : Bool) (idle : s.alarm.points[i].condition = false)
    (inactive : s.alarm.points[i].active = false) :
    (∀ j : Fin 96, j ≠ i → j ≠ 12 → (s.setCondition i c).alarm.points[j] = s.alarm.points[j]) ∧
      (s.alarm.points[i].state ≠ .normal → s.alarm.points[i].state ≠ .returned →
        (s.setCondition i c).alarm.points[i].state = s.alarm.points[i].state) ∧
      (c = false → s.setCondition i c = s) ∧
      (c = true → s.alarm.points[i].defn.onDelay ≠ 0 →
        (s.setCondition i c).alarm.points[i] =
          { s.alarm.points[i] with
            condition := true, delayAt := some (s.floorTime + s.alarm.points[i].defn.onDelay * 1000) }) ∧
      (c = true → s.alarm.points[i].defn.onDelay = 0 → s.alarm.points[i].state = .normal →
        (s.setCondition i c).alarm.points[i].state = .raised ∧ (s.setCondition i c).alarm.points[i].condition = true ∧
          (s.setCondition i c).alarm.points[i].active = true) := by
  cases c with
  | false =>
    rw [State.setCondition_same idle]
    exact ⟨fun _ _ _ => rfl, fun _ _ => rfl, fun _ => rfl, nofun, nofun⟩
  | true =>
    have changed : s.alarm.points[i.val].condition ≠ true := by
      rw [show s.alarm.points[i.val].condition = false from idle]
      decide
    have apart : s.alarm.points[i.val].active ≠ true := by
      rw [show s.alarm.points[i.val].active = false from inactive]
      decide
    by_cases atOnce : s.alarm.points[i].defn.onDelay = 0
    · rw [State.setCondition_atOnce changed apart atOnce]
      have own := s.modPoint_self i fun q => { q with condition := true }
      have turned := (s.modPoint i fun q => { q with condition := true }).modPoint_self i fun p =>
        { p with active := true, delayAt := none }
      rw [own] at turned
      have others {j : Fin 96} (other : j ≠ i) :
          ((s.modPoint i fun q => { q with condition := true }).turned i true).alarm.points[j] = s.alarm.points[j] :=
        ((s.modPoint i fun q => { q with condition := true }).modPoint_other _ other).trans (s.modPoint_other _ other)
      have before : (s.modPoint i fun q => { q with condition := true }).alarm.points[i].state = s.alarm.points[i].state :=
        (congrArg Point.state own :)
      by_cases rests : s.alarm.points[i].state = .normal ∨ s.alarm.points[i].state = .returned
      · have raises := State.becomeActive_raises (before ▸ rests)
        simp only [if_true, raises]
        refine ⟨fun j other calm => ?_, fun normal returned => absurd rests (not_or.2 ⟨normal, returned⟩), nofun,
          fun _ delayed => absurd atOnce delayed, fun _ _ _ => ?_⟩
        · exact (State.raisePoint_other _ i other calm).trans (others other)
        · obtain raised | raised := ((s.modPoint i fun q => { q with condition := true }).turned i true).raisePoint_own i
          · rw [raised]
            exact ⟨rfl, (congrArg Point.condition turned :), (congrArg Point.active turned :)⟩
          · rw [raised]
            exact ⟨rfl, rfl, rfl⟩
      · have stays := State.becomeActive_stays (before ▸ (not_or.1 rests).1) (before ▸ (not_or.1 rests).2)
        simp only [if_true, stays]
        exact ⟨fun j other _ => others other, fun _ _ => (congrArg Point.state turned :), nofun,
          fun _ delayed => absurd atOnce delayed, fun _ _ normal => absurd (.inl normal) rests⟩
    · rw [State.setCondition_delayed changed apart atOnce]
      have own := s.modPoint_self i fun q =>
        { q with
          condition := true
          delayAt := some (s.floorTime + (if true then q.defn.onDelay else q.defn.offDelay) * 1000) }
      exact ⟨fun j other _ => s.modPoint_other _ other, fun _ _ => (congrArg Point.state own :), nofun, fun _ _ => own,
        fun _ now => absurd now atOnce⟩

/-- The part with a point back in NORMAL, before its group and its condition (R140). -/
def State.restored (s : State) (i : Fin 96) : State :=
  (s.modPoint i fun q => { q with condition := false, active := false, delayAt := none, expiry := none }).enterPoint i
    .normal

theorem State.restored_own (s : State) (i : Fin 96) :
    (s.restored i).alarm.points[i] =
      ({ s.alarm.points[i] with condition := false, active := false, delayAt := none, expiry := none } : Point).entering
        .normal s.floorTime := by
  rw [State.restored, State.enterPoint_own]
  exact congrArg (Point.entering · .normal s.floorTime) (s.modPoint_self i _)

theorem State.restored_time (s : State) (i : Fin 96) : (s.restored i).floorTime = s.floorTime := by
  simp [State.restored, State.modPoint]

theorem State.restored_other (s : State) {i j : Fin 96} (other : j ≠ i) :
    (s.restored i).alarm.points[j] = s.alarm.points[j] :=
  (State.enterPoint_other _ i .normal other).trans (s.modPoint_other _ other)

theorem State.restored_sameBut (disabled : s.alarm.points[i].state = .disabled) :
    SameBut [.alarm, .attention, .shift] s (s.restored i) := by
  have own := s.modPoint_self i fun q => { q with condition := false, active := false, delayAt := none, expiry := none }
  have state := (congrArg Point.state own :)
  obtain ⟨heat, lines⟩ := State.enterPoint_unclaimed (s.modPoint i fun q =>
    { q with condition := false, active := false, delayAt := none, expiry := none }) i .normal
    (.inr (by rw [state, show s.alarm.points[i.val].state = .disabled from disabled]; rfl))
  have heat : (s.restored i).heat = s.heat := heat
  have lines : (s.restored i).lines = s.lines := lines
  intro b other
  cases b <;> simp_all [Block.Same, State.restored]

theorem State.enablePoint_eq (s : State) (i : Fin 96) :
    s.enablePoint i =
      (let t := (s.restored i).syncGroup i ((s.restored i).groupHolds s.alarm.points[i].defn.group)
       t.setCondition i ((if i = 12 then t else s.restored i).conditionOf i t.alarm.points[i])) := by
  have own := s.restored_own i
  have enabled : (s.restored i).alarm.points[i.val].state ≠ .disabled := by
    rw [show (s.restored i).alarm.points[i.val] = _ from own]
    exact (by decide : PointState.normal ≠ .disabled)
  have defn : (s.restored i).alarm.points[i.val].defn = s.alarm.points[i].defn := (congrArg Point.defn own :)
  have synced := State.syncPoint_enabled (before := s.restored i) enabled
  rw [defn] at synced
  exact synced

theorem State.restored_groupHolds (s : State) (i : Fin 96) (g : Group) : (s.restored i).groupHolds g = s.groupHolds g :=
  State.enterPoint_groupHolds _ _ _ _

theorem State.enablePoint_suppressed (suppressed : s.groupHolds s.alarm.points[i].defn.group = true) :
    (s.enablePoint i).alarm.points[i].state = .suppressed ∧
      ∀ j : Fin 96, j ≠ i → j ≠ 12 → (s.enablePoint i).alarm.points[j] = s.alarm.points[j] := by
  have own := (s.restored i).enterPoint_own i .suppressed
  rw [s.restored_own i] at own
  have normal : (s.restored i).alarm.points[i.val].state = .normal := (congrArg Point.state (s.restored_own i) :)
  rw [State.enablePoint_eq, State.restored_groupHolds, suppressed, State.syncGroup_begins normal]
  obtain ⟨others, stays, -⟩ := State.setCondition_idle (s := (s.restored i).enterPoint i .suppressed) (i := i)
    ((if i = 12 then (s.restored i).enterPoint i .suppressed else s.restored i).conditionOf i
      ((s.restored i).enterPoint i .suppressed).alarm.points[i]) (congrArg Point.condition own :)
        (congrArg Point.active own :)
  have state : ((s.restored i).enterPoint i .suppressed).alarm.points[i].state = .suppressed := (congrArg Point.state own :)
  refine ⟨(stays (by rw [state]; decide) (by rw [state]; decide)).trans state, fun j other calm => ?_⟩
  exact (others j other calm).trans (((s.restored i).enterPoint_other i .suppressed other).trans (s.restored_other other))

/-- Where its group does not hold, a point that is enabled is handed its condition as it stands (R140). -/
theorem State.enablePoint_handed (disabled : s.alarm.points[i].state = .disabled)
    (free : ¬s.groupHolds s.alarm.points[i].defn.group = true) :
    s.enablePoint i =
      (s.restored i).setCondition i (s.conditionOf i { s.alarm.points[i] with condition := false }) := by
  have normal : (s.restored i).alarm.points[i.val].state = .normal := (congrArg Point.state (s.restored_own i) :)
  have group : (s.restored i).syncGroup i false = s.restored i :=
    State.syncGroup_else (fun _ => rfl) fun other => by rw [normal] at other; cases other
  have condition : (s.restored i).conditionOf i (s.restored i).alarm.points[i] =
      s.conditionOf i { s.alarm.points[i] with condition := false } := by
    refine State.conditionOf_congr i ?_ ?_ ?_ (s.restored_sameBut disabled)
    · rw [s.restored_own i]
      rfl
    · rw [s.restored_own i]
      rfl
    · rw [State.restored, State.enterPoint_alarm_eq]
      rfl
  rw [State.enablePoint_eq, State.restored_groupHolds, Bool.eq_false_iff.2 free, group]
  simp only [ite_self]
  rw [condition]

end

/-! ### The requests are decided -/

section
variable {s : State} {point : Byte} {i : Fin 96} (named : numbered 96 point = some i)
include named

theorem decideAcknowledge_named :
    decideAcknowledge 0 point s = (s.acknowledge i).1.settle.done (flag (s.acknowledge i).2) := by
  simp only [decideAcknowledge, ne_eq, not_true_eq_false, if_false, named]

theorem decideShelve_range {minutes : Nat} (outside : inRange 1 480 minutes = false) :
    decideShelve point minutes s = s.refuse .badValue := by
  simp only [decideShelve, named, outside, Bool.not_false, if_true]

/-- SHELVE within its range, in the order of R137. -/
theorem decideShelve_named {minutes : Nat} (inside : inRange 1 480 minutes = true) :
    decideShelve point minutes s =
      if s.alarm.points[i].state = .disabled ∨ s.alarm.points[i].state = .suppressed then s.refuse .notPermitted
      else if s.alarm.points[i].defn.cls = .trip ∧ s.burner.state.atRest = false then s.refuse .notPermitted
      else if s.alarm.points[i].state ≠ .shelved ∧ 16 ≤ s.alarm.shelf.length then s.refuse .full
      else (s.shelvePoint i (s.floorTime + minutes * 60000)).settle.done [] := by
  simp only [decideShelve, named, inside, Bool.not_true, Bool.false_eq_true, if_false, Bool.or_eq_true, Bool.and_eq_true,
    decide_eq_true_eq, Bool.not_eq_true', Fin.getElem_fin]

theorem decideUnshelve_named :
    decideUnshelve point s =
      if s.alarm.points[i].state = .shelved then (s.unshelvePoint i).settle.done [] else s.done [] := by
  simp only [decideUnshelve, named, Fin.getElem_fin]

theorem decideDisable_named :
    decideDisable point s =
      if s.alarm.points[i].state = .disabled then s.done []
      else if s.alarm.points[i].defn.cls = .trip ∧ s.burner.state.atRest = false then s.refuse .notPermitted
      else (s.disablePoint i).settle.done [] := by
  simp only [decideDisable, named, Bool.and_eq_true, decide_eq_true_eq, Bool.not_eq_true', Fin.getElem_fin]

theorem decideEnable_named :
    decideEnable point s =
      if s.alarm.points[i].state = .disabled then (s.enablePoint i).settle.done [] else s.done [] := by
  simp only [decideEnable, named, Fin.getElem_fin]

end

theorem BurnerState.busy_iff (b : BurnerState) : b.atRest = false ↔ ¬(b = .lockout ∨ b = .idle) := by
  cases b <;> simp [BurnerState.atRest]

theorem Point.acknowledgesIn_eq (p : Point) (c : PointClass) :
    p.acknowledgesIn c =
      decide (p.defn.cls.ctorIdx = c.ctorIdx ∧ c.ctorIdx < 3 ∧ (p.state = .raised ∨ p.state = .returned)) := by
  unfold Point.acknowledgesIn Point.acknowledges
  cases p.defn.cls <;> cases c <;> simp [PointClass.ctorIdx]

/-- No point of class RECORD is acknowledged (R132). -/
theorem State.acknowledgeAll_record (s : State) (n : Nat) (is : List (Fin 96)) : s.acknowledgeAll .record n is = (s, n) := by
  have never (p : Point) : p.acknowledgesIn .record = false := by
    rw [Point.acknowledgesIn_eq]
    exact decide_eq_false fun both => absurd both.2.1 (by decide)
  induction is with
  | nil => rfl
  | cons i is ih => rw [State.acknowledgeAll_cons, never, if_neg Bool.false_ne_true, ih]

end Sys2Proof.Machine

open Sys2Proof Sys2Proof.Machine

/-- Settles O49. -/
theorem alarmsAnswered : Obligations.AlarmsAnswered := by
  intro s tag ready u answer atRest othersKept
  refine ⟨fun target point outside => ?_, fun cls => ⟨fun high => ?_, fun record => ?_, fun low => ?_⟩,
    fun point outside => ⟨fun minutes => ?_, ?_, ?_, ?_⟩, fun point i number => ?_⟩
  · refine exec_refused rfl ready ?_
    by_cases zero : target = 0
    · simp only [decision, decideAcknowledge, zero, ne_eq, not_true_eq_false, if_false,
        numbered_none (outside.resolve_left fun other => other zero)]
    · exact if_pos zero
  · have unnamed : classOfCode cls = none := by
      refine Option.eq_none_iff_forall_not_mem.2 fun c member => ?_
      have := classOfCode_iff.1 member
      have := c.place_le
      omega
    refine exec_refused rfl ready ?_
    simp only [decision, decideAcknowledgeClass, unnamed]
  · subst record
    have none : u.acknowledgeClass .record = (u, 0) := u.acknowledgeAll_record 0 allPoints
    refine exec_done rfl ready ?_
    calc
      _ = (u.acknowledgeClass .record).1.settle.done (b1 (u.acknowledgeClass .record).2) := rfl
      _ = u.settle.done [0x00#8] := by rw [none, b1_eq]
  · obtain ⟨c, named⟩ := classOfCode_some (b := cls) (by omega)
    have code := classOfCode_iff.1 named
    obtain ⟨count, points⟩ := u.acknowledgeAll_spec c 0 (is := allPoints) (List.nodup_finRange 96)
    refine ⟨(u.acknowledgeAll c 0 allPoints).1, (u.acknowledgeAll c 0 allPoints).2, exec_done rfl ready ?_, ?_⟩
    · simp only [decision, decideAcknowledgeClass, named]
      rfl
    intro changes
    have same (i : Fin 96) : changes i = u.alarm.points[i].acknowledgesIn c := by
      rw [Point.acknowledgesIn_eq, code]
    refine ⟨?_, fun i => ?_⟩
    · rw [count, Nat.zero_add]
      exact List.countP_congr fun i _ => by rw [same]
    · intro p
      rw [points i, same]
      simp only [allPoints, List.mem_finRange, true_and]
      split <;> rfl
  · exact exec_refused rfl ready (by simp only [decision, decideShelve, numbered_none outside])
  · exact exec_refused rfl ready (by simp only [decision, decideUnshelve, numbered_none outside])
  · exact exec_refused rfl ready (by simp only [decision, decideDisable, numbered_none outside])
  · exact exec_refused rfl ready (by simp only [decision, decideEnable, numbered_none outside])
  · have named := numbered_eq number
    have rest : u.burner.state.atRest = false ↔ ¬atRest := BurnerState.busy_iff _
    intro p suppressed entered barred
    refine ⟨fun stays => ?_, fun listed changes => ?_, fun minutes => ⟨fun outside => ?_, fun low high =>
      ⟨fun kept => ?_, fun enabled free unbarred => ⟨fun off full => ?_, fun room => ?_⟩⟩⟩, fun off => ?_, fun shelved => ?_,
      fun disabled => ?_, fun enabled bars => ?_, fun enabled unbarred => ?_, fun enabled => ?_, fun disabled => ?_⟩
    · have still : u.alarm.points[i].acknowledges = false := Point.acknowledges_eq_false stays
      refine exec_done rfl ready ?_
      calc
        _ = (u.acknowledge i).1.settle.done (flag (u.acknowledge i).2) := decideAcknowledge_named named
        _ = u.settle.done [0x00#8] := by rw [State.acknowledge_stays still]; rfl
    · have takes : u.alarm.points[i].acknowledges = true := by
        simp only [Point.acknowledges, Bool.and_eq_true, Bool.or_eq_true, decide_eq_true_eq]
        exact ⟨listed, changes⟩
      refine ⟨u.enterPoint i (u.acknowledgedState p), exec_done rfl ready ?_, fun raised => ?_, fun returned holds => ?_,
        fun returned calm => ?_⟩
      · calc
          _ = (u.acknowledge i).1.settle.done (flag (u.acknowledge i).2) := decideAcknowledge_named named
          _ = (u.enterPoint i (u.acknowledgedState p)).settle.done [0x01#8] := by rw [State.acknowledge_changes takes]; rfl
      · rw [show u.acknowledgedState p = .acked from if_pos raised]
        exact u.enterPoint_entered i .acked
      · have other : p.state ≠ .raised := by rw [returned]; decide
        rw [show u.acknowledgedState p = .suppressed from (if_neg other).trans (if_pos holds)]
        exact u.enterPoint_entered i .suppressed
      · have other : p.state ≠ .raised := by rw [returned]; decide
        rw [show u.acknowledgedState p = .normal from (if_neg other).trans (if_neg calm)]
        exact u.enterPoint_entered i .normal
    · refine exec_refused rfl ready (decideShelve_range named ?_)
      rw [← Bool.not_eq_true, inRange_iff]
      rintro ⟨low, high⟩
      obtain rfl | high' := outside
      · cases low
      · omega
    · have decided := decideShelve_named (s := u) named (inRange_iff.2 ⟨low, high⟩)
      refine exec_refused rfl ready (decided.trans ?_)
      obtain off | off | ⟨trip, busy⟩ := kept
      · exact if_pos (.inl off)
      · exact if_pos (.inr off)
      · split
        · rfl
        · exact if_pos ⟨trip, rest.2 busy⟩
    · have decided := decideShelve_named (s := u) named (inRange_iff.2 ⟨low, high⟩)
      refine exec_refused rfl ready (decided.trans ?_)
      rw [if_neg (not_or.2 ⟨enabled, free⟩), if_neg fun bars => unbarred ⟨bars.1, rest.1 bars.2⟩]
      exact if_pos ⟨off, full⟩
    · have decided := decideShelve_named (s := u) named (inRange_iff.2 ⟨low, high⟩)
      obtain ⟨state, expiry, shelf, count, others⟩ := u.shelvePoint_spec i (u.floorTime + minutes.toNat * 60000)
      refine ⟨_, exec_done rfl ready (decided.trans ?_), state, expiry, fun j e => ?_, count, fun j other _ => others j
        other⟩
      · rw [if_neg (not_or.2 ⟨enabled, free⟩), if_neg fun bars => unbarred ⟨bars.1, rest.1 bars.2⟩]
        refine if_neg fun ⟨off, full⟩ => ?_
        obtain shelved | space := room
        · exact off shelved
        · omega
      · rw [shelf, mem_placeOnShelf_iff]
    · exact exec_done rfl ready ((decideUnshelve_named named).trans (if_neg off))
    · obtain ⟨expiry, shelf, enters⟩ := u.unshelvePoint_spec i
      refine ⟨_, exec_done rfl ready ((decideUnshelve_named named).trans (if_pos shelved)), expiry, fun e => ?_,
        fun holds => ?_, fun calm active => ?_, fun calm inactive => ?_⟩
      · rw [shelf, mem_offShelf_iff]
        exact fun member => member.1 rfl
      · rwa [if_pos holds] at enters
      · rwa [if_neg calm, if_pos active] at enters
      · rwa [if_neg calm, if_neg (ne_true_of_eq_false inactive)] at enters
    · exact exec_done rfl ready ((decideDisable_named named).trans (if_pos disabled))
    · refine exec_refused rfl ready ((decideDisable_named named).trans ((if_neg enabled).trans (if_pos ?_)))
      exact ⟨bars.1, rest.2 bars.2⟩
    · obtain ⟨enters, condition, active, delay, expiry, shelf⟩ := u.disablePoint_spec i
      refine ⟨_, exec_done rfl ready ((decideDisable_named named).trans ((if_neg enabled).trans (if_neg ?_))), enters,
        condition, active, delay, expiry, fun e => ?_⟩
      · exact fun bars => unbarred ⟨bars.1, rest.1 bars.2⟩
      · rw [shelf, mem_offShelf_iff]
        exact fun member => member.1 rfl
    · exact exec_done rfl ready ((decideEnable_named named).trans (if_neg enabled))
    · have decided := (decideEnable_named (s := u) named).trans (if_pos disabled)
      by_cases holds : suppressed
      · obtain ⟨state, others⟩ := State.enablePoint_suppressed holds
        exact ⟨_, exec_done rfl ready decided, others, fun _ => state, fun calm => absurd holds calm,
          fun calm => absurd holds calm⟩
      have handed := State.enablePoint_handed disabled holds
      have own := u.restored_own i
      obtain ⟨others, -, stays, delayed, raised⟩ := State.setCondition_idle (s := u.restored i) (i := i)
        (u.conditionOf i { p with condition := false }) (congrArg Point.condition own :) (congrArg Point.active own :)
      rw [own] at delayed raised
      refine ⟨_, exec_done rfl ready (decided.trans (congrArg (fun v : State => v.settle.done []) handed)),
        fun j other calm => (others j other calm).trans (u.restored_other other), fun on => absurd on holds,
        fun _ away => ?_, fun _ met => ?_⟩
      · rw [stays away]
        exact (congrArg Point.state own :)
      · by_cases atOnce : p.defn.onDelay = 0
        · obtain ⟨state, condition, active⟩ := raised met atOnce rfl
          exact ⟨condition, fun _ => ⟨state, active⟩, fun later => absurd atOnce later⟩
        · have waits := delayed met atOnce
          rw [State.restored_time] at waits
          exact ⟨(congrArg Point.condition waits :), fun now => absurd now atOnce, fun _ =>
            ⟨(congrArg Point.state waits :), (congrArg Point.active waits :), (congrArg Point.delayAt waits :)⟩⟩

end

section
/-! The conditions of the points, their delays, and the timers of the alarm unit (R126 to R130, R136, R138, R145, R173), and
O50. -/

set_option Elab.async false

namespace Sys2Proof.Machine

open Sys2Proof

/-! ### The fixed points (Table 7-7) -/

theorem vector_drop_any_iff {α : Type} {n : Nat} (v : Vector α n) (k : Nat) (p : α → Bool) :
    (v.toList.drop k).any p = true ↔ ∃ r : Fin n, k ≤ r.val ∧ p v[r] = true := by
  simp only [List.any_eq_true, List.mem_drop_iff_getElem]
  constructor
  · rintro ⟨_, ⟨i, within, rfl⟩, holds⟩
    rw [Vector.length_toList] at within
    exact ⟨⟨k + i, by omega⟩, Nat.le_add_right _ _, by simpa using holds⟩
  · rintro ⟨r, above, holds⟩
    refine ⟨_, ⟨r.val - k, by rw [Vector.length_toList]; omega, rfl⟩, ?_⟩
    simpa [Nat.add_sub_cancel' above] using holds

theorem vector_take_any_iff {α : Type} {n : Nat} (v : Vector α n) (k : Nat) (p : α → Bool) :
    (v.toList.take k).any p = true ↔ ∃ r : Fin n, r.val < k ∧ p v[r] = true := by
  simp only [List.any_eq_true, List.mem_take_iff_getElem]
  constructor
  · rintro ⟨_, ⟨i, within, rfl⟩, holds⟩
    rw [Vector.length_toList] at within
    exact ⟨⟨i, by omega⟩, by simp only; omega, by simpa using holds⟩
  · rintro ⟨r, below, holds⟩
    exact ⟨_, ⟨r.val, by rw [Vector.length_toList]; omega, rfl⟩, by simpa using holds⟩

theorem DiagState.isFault_iff (d : DiagState) : d.isFault = true ↔ ∃ ks, d = .fault ks := by
  cases d <;> simp [DiagState.isFault]

theorem Cause.isTrip_iff (c : Cause) : c.isTrip = true ↔ c ≠ .powerRestored ∧ c ≠ .restarted := by
  cases c <;> simp [Cause.isTrip]

section
variable (s : State)

theorem State.fixedCondition_lockout : s.fixedCondition 3 = true ↔ s.burner.state = .lockout ∧
    ∃ f, s.burner.firstOut = some f ∧ f.cause ≠ .powerRestored ∧ f.cause ≠ .restarted := by
  cases first : s.burner.firstOut <;> simp [State.fixedCondition, first, Cause.isTrip_iff]

theorem State.fixedCondition_purge : s.fixedCondition 4 = true ↔
    s.burner.state = .purge ∧ s.burner.purgeStarted = true ∧ s.burner.purgeSince = none := by
  simp [State.fixedCondition, and_assoc]

theorem State.fixedCondition_drives :
    s.fixedCondition 8 = true ↔ ∃ r : Fin 23, 7 ≤ r.val ∧ ∃ ks, s.record r = .fault ks := by
  rw [State.fixedCondition, vector_drop_any_iff]
  simp only [DiagState.isFault_iff]
  rfl

theorem State.fixedCondition_actuators : s.fixedCondition 9 = true ↔
    ∃ a : Fin 2,
      s.burner.actuators[a].homeFault = true ∨ s.burner.actuators[a].verify = .mismatch ∨
        s.burner.actuators[a].mismatchHeld = true := by
  rw [State.fixedCondition, vector_any_iff]
  simp [or_assoc]

theorem State.fixedCondition_valves : s.fixedCondition 10 = true ↔ ∃ r : Fin 23, r.val < 7 ∧ s.record r ≠ .ok := by
  rw [State.fixedCondition, vector_take_any_iff]
  simp only [ne_eq, ← DiagState.unsound_iff, Bool.not_eq_false]
  rfl

theorem State.fixedCondition_deviation : s.fixedCondition 11 = true ↔ ∃ l : Fin 6, s.lines[l].deviation = true := by
  rw [State.fixedCondition, vector_any_iff]

theorem State.fixedCondition_missed : s.fixedCondition 12 = true ↔ ∃ b : Fin 2, s.batches[b].batchMissed = true := by
  rw [State.fixedCondition, vector_any_iff]

theorem State.fixedCondition_fault : s.fixedCondition 16 = true ↔ ∃ l : Fin 6, s.lines[l].state = .fault := by
  rw [State.fixedCondition, vector_any_iff]
  simp only [decide_eq_true_eq]

theorem State.groupHolds_firing : s.groupHolds .burnerNotFiring = true ↔
    s.burner.state ∉ [.ignition, .pilot, .mainTrial, .mainFiring, .stopping] := by
  rw [← BurnerState.firing_iff]
  simp [State.groupHolds]

end

/-! ### The requests that an alarm raises stay set -/

namespace Requests

variable {s t : State} (k : Requests s t)
include k

theorem enterPoint (i : Fin 96) (new : PointState) : Requests s (t.enterPoint i new) := by
  have attention := t.enterPoint_attention i new
  split at attention
  · exact k.of_same attention
  · exact (k.raise .alarm).of_same attention

theorem raiseOnce (i : Fin 96) : Requests s (t.raiseOnce i) := by
  have attention := t.raiseOnce_attention i
  split at attention
  · exact ((k.enterPoint i .raised).raise .trip).of_same attention
  · exact (k.enterPoint i .raised).of_same attention

theorem watchFlood : Requests s t.watchFlood := by
  have begun : Requests s t.floodBegun := k.of_same (by simp [State.floodBegun])
  have active : Requests s t.floodBegun.floodActive := begun
  rw [State.watchFlood_eq]
  split
  · by_cases disabled : t.floodBegun.alarm.points[12].state = .disabled
    · rwa [State.raiseFlood_disabled disabled]
    by_cases rests : t.floodBegun.alarm.points[12].state = .normal ∨ t.floodBegun.alarm.points[12].state = .returned
    · rw [State.raiseFlood_raises rests]
      exact active.raiseOnce 12
    · rwa [State.raiseFlood_stands disabled rests]
  · exact k

theorem tripLines (ls : List (Fin 6)) : Requests s (t.tripLines ls) := k.foldl (fun _ l k => k.tripLine l) ls

theorem enterLockout (cause : Cause) (point : Option Nat) : Requests s (t.enterLockout cause point) := by
  have recorded : Requests s (t.tripRecorded cause point) := by
    have locked : Requests s (({ t with burner := t.lockedBurner cause point } : State).commandValve pv false) :=
      k.of_same (by simp)
    exact ((locked.addEvent _).raise .trip).of_same rfl
  rw [State.enterLockout_eq]
  have shut : Requests s (t.linesTripped cause point) := (recorded.tripLines allLines).raise .feed
  exact (shut.abortWork.of_same (by simp)).evaluate

theorem tripClaim (point : Nat) : Requests s (t.tripClaim point) := by
  unfold State.tripClaim
  split
  · exact k.of_same rfl
  · exact k
  all_goals exact k.enterLockout _ _

end Requests

/-- A TRIP point that is raised raises TRIP and takes the burner to LOCKOUT, but from IDLE (R6, R131, R133). -/
theorem State.raisePoint_trips {s : State} {i : Fin 96} (trip : s.alarm.points[i].defn.cls = .trip) :
    (s.raisePoint i).attention.request.getLsbD 0 = true ∧
      (s.burner.state ≠ .idle → (s.raisePoint i).burner.state = .lockout) := by
  have trip : s.alarm.points[i.val].defn.cls = .trip := trip
  have claims : s.raisePoint i = (s.raiseOnce i).watchFlood.tripClaim (i.val + 1) := if_pos trip
  have set : (s.raiseOnce i).attention.request.getLsbD AttentionClass.trip.ctorIdx = true := by
    rw [State.raiseOnce_attention, if_pos trip]
    exact State.raise_sets _ .trip
  have state : (s.raiseOnce i).watchFlood.burner = s.burner := by simp
  obtain ⟨counted, -, locks⟩ := (s.raiseOnce i).watchFlood.tripClaim_taken (i.val + 1)
  rw [claims]
  refine ⟨((Requests.refl (s.raiseOnce i)).watchFlood.tripClaim _) _ set, fun busy => ?_⟩
  by_cases locked : (s.raiseOnce i).watchFlood.burner.state = .lockout
  · rw [counted locked]
    exact locked
  · obtain ⟨-, burner, -⟩ := locks locked (by rw [state]; exact busy)
    rw [burner]
    rfl

/-! ### A point whose active state turns (R130, R131) -/

section
variable (s : State) (i : Fin 96)

theorem State.turned_own (active : Bool) :
    (s.turned i active).alarm.points[i] = { s.alarm.points[i] with active := active, delayAt := none } :=
  s.modPoint_self i _

theorem State.modPoint_congr {f g : Point → Point} (same : f s.alarm.points[i.val] = g s.alarm.points[i.val]) :
    s.modPoint i f = s.modPoint i g := by
  simp only [State.modPoint, State.modAlarm, upd_congr same]

theorem State.becomeActive_own :
    (s.becomeActive i).alarm.points[i].active = true ∧ (s.becomeActive i).alarm.points[i].delayAt = none ∧
      (s.alarm.points[i].condition = true → (s.becomeActive i).alarm.points[i].condition = true) ∧
      (s.becomeActive i).alarm.points[i].state =
        if s.alarm.points[i].state = .normal ∨ s.alarm.points[i].state = .returned then .raised
        else s.alarm.points[i].state := by
  have own := s.turned_own i true
  by_cases rests : s.alarm.points[i].state = .normal ∨ s.alarm.points[i].state = .returned
  · rw [State.becomeActive_raises rests, if_pos rests]
    obtain raised | raised := (s.turned i true).raisePoint_own i
    · rw [raised, own]
      exact ⟨rfl, rfl, id, rfl⟩
    · rw [raised, own]
      exact ⟨rfl, rfl, fun _ => rfl, rfl⟩
  · rw [State.becomeActive_stays (not_or.1 rests).1 (not_or.1 rests).2, if_neg rests, own]
    exact ⟨rfl, rfl, id, rfl⟩

/-- The state of a point that becomes inactive (R131, R132, R136). -/
def State.inactiveState (s : State) (p : Point) : PointState :=
  if p.state = .acked ∨ (p.state = .raised ∧ p.defn.cls = .record) then
    (if s.groupHolds p.defn.group then .suppressed else .normal)
  else if p.state = .raised then .returned else p.state

theorem State.becomeInactive_own :
    (s.becomeInactive i).alarm.points[i].active = false ∧ (s.becomeInactive i).alarm.points[i].delayAt = none ∧
      (s.becomeInactive i).alarm.points[i].condition = s.alarm.points[i].condition ∧
      (s.becomeInactive i).alarm.points[i].state = s.inactiveState s.alarm.points[i] := by
  have own := s.turned_own i false
  have entering (st : PointState) := (s.turned i false).enterPoint_own i st
  unfold State.inactiveState
  by_cases rests : s.alarm.points[i].state = .acked ∨
      (s.alarm.points[i].state = .raised ∧ s.alarm.points[i].defn.cls = .record)
  · rw [State.becomeInactive_rests rests, if_pos rests, entering, own]
    exact ⟨rfl, rfl, rfl, rfl⟩
  rw [if_neg rests]
  obtain ⟨acked, listed⟩ := not_or.1 rests
  by_cases raised : s.alarm.points[i].state = .raised
  · rw [State.becomeInactive_returns raised fun record => listed ⟨raised, record⟩, if_pos raised, entering, own]
    exact ⟨rfl, rfl, rfl, rfl⟩
  · rw [State.becomeInactive_stays raised acked, if_neg raised, own]
    exact ⟨rfl, rfl, rfl, rfl⟩

/-- A point that becomes inactive leaves the flood and the events of the shift (R131). -/
theorem State.becomeInactive_quiet :
    (s.becomeInactive i).alarm.flood = s.alarm.flood ∧ (s.becomeInactive i).alarm.reviewAt = s.alarm.reviewAt ∧
      (s.becomeInactive i).shift.current.events = s.shift.current.events := by
  have entering (st : PointState) :
      ((s.turned i false).enterPoint i st).alarm.flood = s.alarm.flood ∧
        ((s.turned i false).enterPoint i st).alarm.reviewAt = s.alarm.reviewAt ∧
        ((s.turned i false).enterPoint i st).shift.current.events = s.shift.current.events := by
    rw [State.enterPoint_alarm_eq, State.enterPoint_shift]
    exact ⟨rfl, rfl, rfl⟩
  by_cases rests : s.alarm.points[i].state = .acked ∨
      (s.alarm.points[i].state = .raised ∧ s.alarm.points[i].defn.cls = .record)
  · rw [State.becomeInactive_rests rests]
    exact entering _
  obtain ⟨acked, listed⟩ := not_or.1 rests
  by_cases raised : s.alarm.points[i].state = .raised
  · rw [State.becomeInactive_returns raised fun record => listed ⟨raised, record⟩]
    exact entering _
  · rw [State.becomeInactive_stays raised acked]
    exact ⟨rfl, rfl, rfl⟩

theorem State.setCondition_false_quiet :
    (s.setCondition i false).alarm.flood = s.alarm.flood ∧ (s.setCondition i false).alarm.reviewAt = s.alarm.reviewAt ∧
      (s.setCondition i false).shift.current.events = s.shift.current.events := by
  by_cases same : s.alarm.points[i.val].condition = false
  · rw [State.setCondition_same same]
    exact ⟨rfl, rfl, rfl⟩
  by_cases back : s.alarm.points[i.val].active = false
  · rw [State.setCondition_back same back]
    exact ⟨rfl, rfl, rfl⟩
  by_cases atOnce : (if false then s.alarm.points[i.val].defn.onDelay else s.alarm.points[i.val].defn.offDelay) = 0
  · rw [State.setCondition_atOnce same back atOnce]
    exact (s.modPoint i fun q => { q with condition := false }).becomeInactive_quiet i
  · rw [State.setCondition_delayed same back atOnce]
    exact ⟨rfl, rfl, rfl⟩

/-- The end of a flood's review (R145). -/
def State.floodOver (s : State) : State := s.modAlarm fun a => { a with flood := false, reviewAt := none }

theorem State.reviewFlood_ends {s : State} (few : s.alarm.reviewCount < s.alarm.raiseThreshold / 2) :
    s.reviewFlood.alarm.flood = false ∧ s.reviewFlood.alarm.reviewAt = none ∧
      (s.shift.current.events.length < 48 →
        { time := s.floorTime, kind := .floodEnd } ∈ s.reviewFlood.shift.current.events) := by
  have ended (t : State) (quiet : t.alarm.flood = false ∧ t.alarm.reviewAt = none ∧
      t.shift.current.events = s.shift.current.events) (time : t.floorTime = s.floorTime) :
      (t.addEvent .floodEnd).alarm.flood = false ∧ (t.addEvent .floodEnd).alarm.reviewAt = none ∧
        (s.shift.current.events.length < 48 →
          { time := s.floorTime, kind := .floodEnd } ∈ (t.addEvent .floodEnd).shift.current.events) := by
    obtain ⟨flood, review, events⟩ := quiet
    refine ⟨flood, review, fun room => ?_⟩
    simp only [State.addEvent, State.modShift, events, time, room, if_true]
    exact List.mem_append_right _ List.mem_cons_self
  have takes : s.reviewFlood =
      (if s.floodOver.alarm.points[12].state = .disabled then s.floodOver
        else s.floodOver.setCondition 12 false).addEvent .floodEnd := if_pos few
  rw [takes]
  by_cases disabled : s.floodOver.alarm.points[12].state = .disabled
  · refine ended _ ?_ ?_ <;> rw [if_pos disabled]
    · exact ⟨rfl, rfl, rfl⟩
    · rfl
  · have quiet := s.floodOver.setCondition_false_quiet 12
    refine ended _ ?_ ?_ <;> rw [if_neg disabled]
    · exact quiet
    · simp [State.floodOver, State.modAlarm]

theorem State.shelfExpiry_leaves {s : State} {e : Nat} {rest : List (Fin 96 × Nat)} (live : s.resetRun = none)
    (first : s.alarm.shelf = (i, e) :: rest) (past : e ≤ s.floorTime) :
    exec .shelfExpiry s = .next (s.unshelvePoint i).settle.pump := by
  have due : s.alarm.shelfDue s.floorTime = some i := by
    simp only [Alarm.shelfDue, first, past, if_true]
  have runs : exec .shelfExpiry s = .next (s.event fun s => (s.unshelvePoint i).settle) := by
    simp only [exec.eq_def, execShelfExpiry, due]
  rw [runs]
  exact next_event_settled live rfl

end

end Sys2Proof.Machine

open Sys2Proof Sys2Proof.Machine

/-- Settles O50. -/
theorem alarmTimersExpire : Obligations.AlarmTimersExpire := by
  refine ⟨fun s => ⟨s.fixedCondition_lockout, s.fixedCondition_purge, Iff.rfl, Iff.rfl, decide_eq_true_iff,
    s.fixedCondition_drives, s.fixedCondition_actuators, s.fixedCondition_valves, s.fixedCondition_deviation,
    s.fixedCondition_missed, Iff.rfl, Iff.rfl, s.fixedCondition_fault, rfl, by simp [State.groupHolds],
    decide_eq_true_iff, s.groupHolds_firing, fun l => decide_eq_true_iff, rfl, s.evaluate_cutChanges, fun i c => ?_⟩,
    fun s live => ⟨fun i t timer past => ?_, fun i e rest first past => ?_, fun t timer past => ?_,
    fun t timer past => next_settled live (isDue_of timer past) rfl⟩⟩
  · intro p withPoint delay t
    refine ⟨fun n level => State.conditionOf_discrete, fun k limit high deadband source => ?_, fun source => ?_,
      State.setCondition_same, State.setCondition_back, fun changed apart later => ?_, fun changed apart atOnce => ?_,
      fun normal => ⟨?_, ?_⟩, fun suppressed => ⟨?_, ?_⟩, fun normal suppressed => ?_, ?_, fun before => ⟨?_, ?_⟩⟩
    · intro ch beyond back
      rw [State.conditionOf_analog source]
      refine ⟨fun bad => if_pos bad, fun good => ?_⟩
      rw [if_neg (not_not.2 good)]
      cases high with
      | true => exact ⟨fun out => if_pos out, fun inside away => (if_neg inside).trans (if_pos away),
          fun inside near => (if_neg inside).trans (if_neg near)⟩
      | false => exact ⟨fun out => if_pos out, fun inside away => (if_neg inside).trans (if_pos away),
          fun inside near => (if_neg inside).trans (if_neg near)⟩
    · simp only [State.conditionOf, source]
    · exact (State.setCondition_delayed changed apart later).trans (s.modPoint_congr i rfl)
    · have own := s.modPoint_self i fun q => { q with condition := c }
      have turns := State.setCondition_atOnce changed apart atOnce
      cases c with
      | true =>
        obtain ⟨active, delayAt, condition, state⟩ := (s.modPoint i fun q => { q with condition := true }).becomeActive_own i
        rw [show t = _ from turns]
        refine ⟨condition (congrArg Point.condition own :), active, delayAt, state.trans ?_⟩
        rw [show ((s.modPoint i fun q => { q with condition := true }).alarm.points[i]).state = p.state from
          (congrArg Point.state own :)]
        rfl
      | false =>
        obtain ⟨active, delayAt, condition, state⟩ :=
          (s.modPoint i fun q => { q with condition := false }).becomeInactive_own i
        rw [show t = _ from turns]
        refine ⟨condition.trans (congrArg Point.condition own :), active, delayAt, state.trans ?_⟩
        rw [show (s.modPoint i fun q => { q with condition := false }).alarm.points[i] = _ from own]
        rfl
    · rw [State.syncGroup_begins normal]
      exact s.enterPoint_own i .suppressed
    · exact State.syncGroup_else (fun _ => rfl) fun other => by
        rw [show s.alarm.points[i.val].state = .normal from normal] at other
        cases other
    · rw [State.syncGroup_ends suppressed]
      by_cases active : s.alarm.points[i].active = true
      · rw [show (s.alarm.points[i.val].active) = true from active, if_pos rfl, if_pos active]
        exact (s.raisePoint_entered i).1
      · rw [show (s.alarm.points[i.val].active) = false from Bool.eq_false_iff.2 active, if_neg Bool.false_ne_true,
          if_neg active]
        exact (s.enterPoint_entered i .normal).1
    · exact State.syncGroup_else (fun other => by
        rw [show s.alarm.points[i.val].state = .suppressed from suppressed] at other
        cases other) fun _ => rfl
    · exact State.syncGroup_else (fun is => absurd is normal) fun is => absurd is suppressed
    · split
      next disabled => exact State.handPoint_disabled c disabled
      next enabled => exact State.handPoint_enabled c enabled
    · exact State.syncPoint_disabled
    · intro enabled apart
      exact (State.syncPoint_enabled enabled).trans (by simp only [if_neg apart]; rfl)
  · intro p
    refine ⟨fun inactive enabled => ?_, fun active enabled => ?_⟩
    · obtain ⟨active, delay, -, state⟩ := s.becomeActive_own i
      refine ⟨_, next_settled live (Point.delayDue_of enabled inactive timer past) rfl, active, delay, fun rests =>
        ⟨state.trans (if_pos rests), fun trip => ?_⟩, fun normal returned =>
        state.trans (if_neg (not_or.2 ⟨normal, returned⟩))⟩
      rw [State.becomeActive_raises rests]
      exact State.raisePoint_trips ((congrArg (fun q : Point => q.defn.cls) (s.turned_own i true)).trans trip)
    · obtain ⟨inactive, delay, -, state⟩ := s.becomeInactive_own i
      refine ⟨_, next_settled live (Point.delayDue_of enabled active timer past) rfl, inactive, delay,
        fun raised listed => state.trans ?_, fun rests => state.trans (if_pos rests), fun raised acked =>
        state.trans ((if_neg fun rests => rests.elim acked fun both => raised both.1).trans (if_neg raised))⟩
      exact (if_neg fun rests => rests.elim (fun acked => by rw [raised] at acked; cases acked) fun both =>
        listed both.2).trans (if_pos raised)
  · intro p
    obtain ⟨expiry, shelf, state, -⟩ := s.unshelvePoint_spec i
    refine ⟨_, State.shelfExpiry_leaves i live first past, expiry, fun e => ?_, state⟩
    rw [shelf, mem_offShelf_iff]
    exact fun member => member.1 rfl
  · refine ⟨_, next_settled live (isDue_of timer past) rfl, State.reviewFlood_ends, fun many => ?_⟩
    exact if_neg (by omega)

end

section
/-! The ceiling table and the heats of the lines (R62, R73 to R78, R82 to R84), and O60. -/

set_option Elab.async false

namespace Sys2Proof.Machine

open Sys2Proof

/-! ### The ceiling table (R74 to R78) -/

theorem leastClaim_min (l : List (Nat × Nat)) : (leastClaim l).map Prod.snd = (l.map Prod.snd).min? := by
  induction l with
  | nil => rfl
  | cons c rest ih =>
    rw [List.map_cons, List.min?_cons, ← ih, leastClaim]
    cases leastClaim rest with
    | none => rfl
    | some d =>
      simp only [Option.map_some, Option.elim_some]
      split
      next below => exact congrArg some (Nat.min_eq_right below.le).symm
      next above => exact congrArg some (Nat.min_eq_left (not_lt.1 above)).symm

/-- The bound is the least value, and of the first source among equals. -/
theorem leastCeiling_spec (max : Nat) {ps : List (CeilingSource × Nat)}
    (ordered : ps.Pairwise fun p q => p.1.ctorIdx < q.1.ctorIdx) (below : ∀ p ∈ ps, p.1.ctorIdx < 4) :
    (leastCeiling max ps = (.max, max) ∨ leastCeiling max ps ∈ ps) ∧ (leastCeiling max ps).2 ≤ max ∧
      ∀ p ∈ ps, (leastCeiling max ps).2 ≤ p.2 ∧
        (p.2 = (leastCeiling max ps).2 → (leastCeiling max ps).1.ctorIdx ≤ p.1.ctorIdx) := by
  induction ps with
  | nil => exact ⟨.inl rfl, le_rfl, nofun⟩
  | cons p ps ih =>
    obtain ⟨first, ordered⟩ := List.pairwise_cons.1 ordered
    obtain ⟨one, within, least⟩ := ih ordered fun q member => below q (List.mem_cons_of_mem _ member)
    have step : leastCeiling max (p :: ps) = if p.2 ≤ (leastCeiling max ps).2 then p else leastCeiling max ps := rfl
    rw [step]
    split
    next lower =>
      refine ⟨.inr List.mem_cons_self, lower.trans within, fun q member => ?_⟩
      obtain rfl | later := List.mem_cons.1 member
      · exact ⟨le_rfl, fun _ => le_rfl⟩
      · exact ⟨lower.trans (least q later).1, fun _ => (first q later).le⟩
    next higher =>
      refine ⟨one.imp_right (List.mem_cons_of_mem _), within, fun q member => ?_⟩
      obtain rfl | later := List.mem_cons.1 member
      · exact ⟨(not_le.1 higher).le, fun same => absurd same.le higher⟩
      · exact least q later

theorem State.mem_presentCeilings (s : State) (c : CeilingSource) (v : Nat) :
    (c, v) ∈ s.presentCeilings ↔ c ≠ .max ∧ s.ceiling c = some v := by
  have listed : c ∈ [CeilingSource.operator, .cooler, .alarm, .burner] ↔ c ≠ .max := by
    cases c <;> decide
  rw [State.presentCeilings, List.mem_filterMap]
  constructor
  · rintro ⟨d, member, value⟩
    obtain ⟨w, present, same⟩ := Option.map_eq_some_iff.1 value
    obtain ⟨rfl, rfl⟩ := Prod.mk.injEq _ _ _ _ ▸ same
    exact ⟨listed.1 member, present⟩
  · rintro ⟨other, present⟩
    exact ⟨c, listed.2 other, by rw [present]; rfl⟩

theorem State.presentCeilings_ordered (s : State) :
    s.presentCeilings.Pairwise fun p q => p.1.ctorIdx < q.1.ctorIdx := by
  refine List.Pairwise.filterMap _ ?_ (by decide : [CeilingSource.operator, .cooler, .alarm, .burner].Pairwise fun c d =>
    c.ctorIdx < d.ctorIdx)
  intro c d before p first q second
  obtain ⟨v, -, rfl⟩ := Option.map_eq_some_iff.1 first
  obtain ⟨w, -, rfl⟩ := Option.map_eq_some_iff.1 second
  exact before

theorem CeilingSource.place_lt (c : CeilingSource) : c ≠ .max ↔ c.ctorIdx < 4 := by
  cases c <;> decide

section
variable (s : State) (period : Nat → Option Nat)

theorem State.evaluateAt_bound :
    ((s.evaluateAt period).heat.binding, (s.evaluateAt period).heat.effective) =
      leastCeiling s.envelope.maxHeat s.presentCeilings := rfl

/-- The effective ceiling is the least of the table, and its binding source the first that has it (R74). -/
theorem State.evaluateAt_ceiling :
    s.ceiling (s.evaluateAt period).heat.binding = some (s.evaluateAt period).heat.effective ∧
      (∀ c v, s.ceiling c = some v → (s.evaluateAt period).heat.effective ≤ v) ∧
      ∀ c : CeilingSource, c.ctorIdx < (s.evaluateAt period).heat.binding.ctorIdx →
        s.ceiling c ≠ some (s.evaluateAt period).heat.effective := by
  have places : ∀ p ∈ s.presentCeilings, p.1.ctorIdx < 4 := fun p member =>
    (CeilingSource.place_lt p.1).1 ((s.mem_presentCeilings p.1 p.2).1 member).1
  have bound := s.evaluateAt_bound period
  obtain ⟨one, within, least⟩ := leastCeiling_spec s.envelope.maxHeat s.presentCeilings_ordered places
  rw [← bound] at one within least
  have last (c : CeilingSource) : c.ctorIdx ≤ 4 := by cases c <;> decide
  have maxValue {v : Nat} (value : s.ceiling .max = some v) : v = s.envelope.maxHeat := (Option.some.inj value).symm
  refine ⟨?_, fun c v value => ?_, fun c before value => ?_⟩
  · obtain max | present := one
    · rw [Prod.mk.injEq] at max
      rw [max.1, max.2]
      rfl
    · exact ((s.mem_presentCeilings _ _).1 present).2
  · by_cases max : c = .max
    · subst max
      rw [maxValue value]
      exact within
    · exact (least (c, v) ((s.mem_presentCeilings c v).2 ⟨max, value⟩)).1
  · have other : c ≠ .max := (CeilingSource.place_lt c).2 (before.trans_le (last _))
    have later := (least (c, _) ((s.mem_presentCeilings c _).2 ⟨other, value⟩)).2 rfl
    exact absurd later (not_le.2 before)

end

/-! ### The heats of a line (R62, R73, R82) -/

section
variable (r : Line) (now requested allowed : Nat)

theorem Line.handed_allowed : (r.handed now requested allowed).allowed = allowedRate r requested allowed := by
  unfold Line.handed
  dsimp only
  split
  · rfl
  · rw [compareRates_eq]

theorem Line.handed_commanded :
    (r.handed now requested allowed).commanded = commandedRate { r with allowed := allowedRate r requested allowed } := by
  unfold Line.handed
  dsimp only
  split
  · rfl
  · rw [compareRates_eq]
    rfl

theorem commandedRate_running (continuous : r.cfg.kind = .continuous) (running : r.state = .opened ∨ r.state = .shutting) :
    commandedRate r = min r.requested r.allowed := by
  unfold commandedRate
  obtain state | state := running <;> rw [continuous, state]

theorem commandedRate_still (still : r.cfg.kind = .batch ∨ ¬(r.state = .opened ∨ r.state = .shutting)) :
    commandedRate r = 0 := by
  unfold commandedRate
  cases kind : r.cfg.kind <;> cases state : r.state <;> simp_all

end

section
variable (s : State) (period : Nat → Option Nat) (l : Fin 6)

theorem State.evaluateAt_commandedHeat :
    (s.evaluateAt period).heat.entries[l].commanded =
      commandedHeat (s.evaluateAt period).lines[l] (s.evaluateAt period).heat.entries[l].allowed := by
  simp [State.evaluateAt]

theorem State.evaluateAt_commanded :
    (s.evaluateAt period).lines[l].commanded =
      commandedRate { s.lines[l] with allowed := (s.evaluateAt period).lines[l].allowed } := by
  rw [State.evaluateAt_line, Line.handed_commanded, Line.handed_allowed]

theorem State.evaluateAt_kept :
    (s.evaluateAt period).lines[l].cfg = s.lines[l].cfg ∧ (s.evaluateAt period).lines[l].state = s.lines[l].state ∧
      (s.evaluateAt period).lines[l].requested = s.lines[l].requested ∧
      (s.evaluateAt period).lines[l].cv = s.lines[l].cv ∧
      (s.evaluateAt period).lines[l].activeBatch = s.lines[l].activeBatch := by
  rw [State.evaluateAt_line, Line.handed_eq]
  refine ⟨rfl, rfl, rfl, rfl, ?_⟩
  simp [Line.activeBatch]

theorem State.requestedHeats_get : (s.requestedHeats period)[l.val] = requestedHeat s.lines[l] (period l) :=
  mapAt_get _ _ _ l.isLt

theorem State.floorHeats_get : s.floorHeats[l.val] = floorHeat s.lines[l] := mapAt_get _ _ _ l.isLt

theorem State.evaluateAt_ratesChanged :
    (s.evaluateAt period).heat.ratesChanged = true ↔
      s.heat.ratesChanged = true ∨ ∃ l : Fin 6, (s.evaluateAt period).lines[l].commanded ≠ s.lines[l].commanded := by
  have formed : (s.evaluateAt period).heat.ratesChanged =
      (s.heat.ratesChanged || (mapAt (s.evaluateAt period).lines fun _ r => r.commanded) !=
        mapAt s.lines fun _ r => r.commanded) := rfl
  rw [formed, Bool.or_eq_true, bne_iff_ne]
  refine or_congr_right ⟨fun other => ?_, fun ⟨l, other⟩ same => other ?_⟩
  · refine Classical.byContradiction fun none => other (Vector.ext fun i inside => ?_)
    have same := not_exists.1 none ⟨i, inside⟩
    rw [mapAt_get, mapAt_get]
    exact not_not.1 same
  · have here := congrArg (fun v : Vector Nat 6 => v[l.val]) same
    simpa using here

/-- The heats of a CONTINUOUS line (R73, R82). -/
theorem State.evaluateAt_continuous (continuous : s.lines[l].cfg.kind = .continuous) :
    (s.evaluateAt period).heat.entries[l].requested =
        (if s.lines[l].state.live then s.lines[l].requested * s.lines[l].cv / 3600 else 0) ∧
      (s.evaluateAt period).heat.entries[l].floor = s.lines[l].cfg.minRate * s.lines[l].cv / 3600 ∧
      (s.evaluateAt period).heat.entries[l].commanded =
        (if s.lines[l].state = .opened ∨ s.lines[l].state = .shutting then
          min s.lines[l].requested (s.evaluateAt period).lines[l].allowed * s.lines[l].cv / 3600 else 0) := by
  obtain ⟨requested, floor, -⟩ := s.evaluateAt_entry period l
  obtain ⟨cfg, state, rate, cv, -⟩ := s.evaluateAt_kept period l
  refine ⟨requested.trans ((s.requestedHeats_get period l).trans ?_), floor.trans ((s.floorHeats_get l).trans ?_), ?_⟩
  · simp only [requestedHeat, continuous]
    rfl
  · simp only [floorHeat, continuous]
    rfl
  · rw [State.evaluateAt_commandedHeat]
    simp only [commandedHeat, cfg, continuous, state, rate, cv, Bool.or_eq_true, decide_eq_true_eq]
    rfl

/-- The heats of a BATCH line (R62, R73, R82). -/
theorem State.evaluateAt_batch (batch : s.lines[l].cfg.kind = .batch) :
    (s.evaluateAt period).heat.entries[l].requested = batchHeat s.lines[l] (period l) ∧
      (s.evaluateAt period).heat.entries[l].floor = 0 ∧
      (s.evaluateAt period).heat.entries[l].commanded =
        (if s.lines[l].activeBatch.isSome then (s.evaluateAt period).heat.entries[l].allowed else 0) := by
  obtain ⟨requested, floor, -⟩ := s.evaluateAt_entry period l
  obtain ⟨cfg, -, -, -, active⟩ := s.evaluateAt_kept period l
  refine ⟨requested.trans ((s.requestedHeats_get period l).trans ?_), floor.trans ((s.floorHeats_get l).trans ?_), ?_⟩
  · simp only [requestedHeat, batch]
  · simp only [floorHeat, batch]
  · rw [State.evaluateAt_commandedHeat]
    simp only [commandedHeat, cfg, batch, active]

end

section
variable {r : Line}

theorem Line.activeBatch_some {o : Order} {rest : List Order} {slots revs mass : Nat} (opened : r.state = .opened)
    (active : r.progress ≠ none) (head : r.queue = o :: rest) (body : o.body = .batch slots revs mass) :
    r.activeBatch = some (slots, revs, mass) := by
  obtain ⟨p, progress⟩ := Option.ne_none_iff_exists'.1 active
  obtain ⟨tag, notify, delay, kind⟩ := o
  cases body
  simp only [Line.activeBatch, opened, progress, head, decide_true, Option.isSome_some, Bool.and_self, if_true]

theorem Line.activeBatch_none (idle : r.state ≠ .opened ∨ r.progress = none ∨
    ∀ o rest slots revs mass, r.queue = o :: rest → o.body ≠ .batch slots revs mass) : r.activeBatch = none := by
  unfold Line.activeBatch
  split
  next runs =>
    obtain ⟨opened, active⟩ := (Bool.and_eq_true _ _).mp runs
    split
    next queue =>
      obtain shut | none | other := idle
      · exact absurd (of_decide_eq_true opened) shut
      · rw [none] at active
        cases active
      · exact absurd rfl (other _ _ _ _ _ queue)
    · rfl
  · rfl

theorem batchHeat_some {slots revs mass : Nat} (order : r.activeBatch = some (slots, revs, mass)) (period : Nat) :
    batchHeat r (some period) = min 666666 (mass * r.cv * 1000 / (period * revs)) := by
  simp only [batchHeat, order]
  rfl

theorem batchHeat_stopped (r : Line) : batchHeat r none = 0 := by
  unfold batchHeat
  cases r.activeBatch <;> rfl

theorem batchHeat_idle (idle : r.activeBatch = none) (period : Option Nat) : batchHeat r period = 0 := by
  simp only [batchHeat, idle]

theorem LineState.flows_iff (st : LineState) : st.live = true ↔ st = .admitting ∨ st = .opened ∨ st = .shutting := by
  cases st <;> decide

theorem State.evaluateAt_totalCommanded (s : State) (period : Nat → Option Nat) :
    (s.evaluateAt period).heat.totalCommanded =
      (s.evaluateAt period).heat.entries[(0 : Fin 6)].commanded + (s.evaluateAt period).heat.entries[(1 : Fin 6)].commanded +
        (s.evaluateAt period).heat.entries[(2 : Fin 6)].commanded +
        (s.evaluateAt period).heat.entries[(3 : Fin 6)].commanded +
        (s.evaluateAt period).heat.entries[(4 : Fin 6)].commanded +
        (s.evaluateAt period).heat.entries[(5 : Fin 6)].commanded := by
  simp [State.evaluateAt, sum6]

theorem sum6_of (v : Vector Nat 6) (f : Fin 6 → Nat) (same : ∀ l : Fin 6, v[l.val] = f l) :
    sum6 v = f 0 + f 1 + f 2 + f 3 + f 4 + f 5 := by
  rw [← same 0, ← same 1, ← same 2, ← same 3, ← same 4, ← same 5]
  rfl

end

end Sys2Proof.Machine

open Sys2Proof Sys2Proof.Machine

/-- Settles O60. -/
theorem heatsAndCeilingFormed : Obligations.HeatsAndCeilingFormed := by
  intro s periods t e sum sat source
  have table (c : CeilingSource) : source c = s.ceiling c := by
    cases c with
    | alarm =>
      simp only [source, State.ceiling, ← leastClaim_min, Option.map_map]
      rfl
    | cooler =>
      simp only [source, State.ceiling, sat, State.satValue]
      cases s.heat.surge <;> cases s.cooler.satLow <;> rfl
    | _ => rfl
  have total (v : Vector Nat 6) (f : Fin 6 → Nat) (same : ∀ l : Fin 6, v[l.val] = f l) : sum6 v = sum f := sum6_of v f same
  refine ⟨?_, fun l => ?_, ?_, rfl, ?_, ?_, ?_, s.evaluateAt_ratesChanged periods, rfl⟩
  · obtain ⟨binds, least, first⟩ := s.evaluateAt_ceiling periods
    exact ⟨(table _).trans binds, fun c v value => least c v ((table c).symm.trans value), fun c before value =>
      first c before ((table c).symm.trans value)⟩
  · intro r live running
    refine ⟨fun continuous => ?_, fun batch => ?_⟩
    · obtain ⟨requested, floor, commanded⟩ := s.evaluateAt_continuous periods l continuous
      have rate := s.evaluateAt_commanded periods l
      refine ⟨fun flows => requested.trans (if_pos ?_), fun shut => requested.trans (if_neg ?_), floor, fun runs =>
        ⟨rate.trans (commandedRate_running _ continuous runs), commanded.trans (if_pos runs)⟩, fun still =>
        ⟨rate.trans (commandedRate_still _ (.inr still)), commanded.trans (if_neg still)⟩⟩
      · exact (LineState.flows_iff _).2 flows
      · exact mt (LineState.flows_iff _).1 shut
    · obtain ⟨requested, floor, commanded⟩ := s.evaluateAt_batch periods l batch
      refine ⟨floor, (s.evaluateAt_commanded periods l).trans (commandedRate_still _ (.inl batch)),
        fun o rest slots revs mass opened active head body => ?_, fun idle => ?_⟩
      · have order := Line.activeBatch_some opened active head body
        refine ⟨commanded.trans (if_pos (by rw [order]; rfl)), fun period runs => requested.trans ?_, fun stopped =>
          requested.trans ?_⟩
        · exact (congrArg (batchHeat s.lines[l]) runs).trans (batchHeat_some order period)
        · exact (congrArg (batchHeat s.lines[l]) stopped).trans (batchHeat_stopped _)
      · have none := Line.activeBatch_none idle
        refine ⟨requested.trans ?_, commanded.trans (if_neg (by rw [none]; decide))⟩
        exact batchHeat_idle none _
  · rw [show t.heat.heatCut = t.lines.toList.any fun r => r.cut from rfl, vector_any_iff]
  · exact total _ _ fun l => ((s.evaluateAt_entry periods l).1).symm
  · exact total _ _ fun l => ((s.evaluateAt_entry periods l).2.2).symm
  · exact s.evaluateAt_totalCommanded periods

end

section
/-! The air blasters (R103, R104), and O43. -/

set_option Elab.async false

namespace Sys2Proof.Machine

open Sys2Proof

section
variable {s : State}

theorem State.modTotals_sameBut {bs : List Block} (s : State) (f : Totals → Totals) (named : .shift ∈ bs) :
    SameBut bs s (s.modTotals f) := s.modShift_sameBut _ named

theorem State.endBlasting_idle (idle : s.cooler.cycle = none) :
    s.endBlasting = s.modCooler fun c => { c with pulseCount := 0 } := by
  rw [State.endBlasting, State.abandonCycle, idle]

/-- A cycle that is abandoned: its blasters that are not yet due are counted skipped (R104). -/
theorem State.endBlasting_cycle {next due : Nat} (cycle : s.cooler.cycle = some (next, due)) :
    s.endBlasting =
      ((s.modCooler fun c => { c with cycle := none, blasterOut := none }).countSkipped (9 - next)).modCooler fun c =>
        { c with pulseCount := 0 } := by
  rw [State.endBlasting, State.abandonCycle, cycle]

theorem State.decideBlaster_sameBut (next due : Nat) : SameBut [.cooler, .shift] s (s.decideBlaster next due) := by
  have decided (f : Cooler → Cooler) : SameBut [.cooler, .shift] s (s.modCooler f) := s.modCooler_sameBut _ (by decide)
  unfold State.decideBlaster
  dsimp only
  split
  · exact (decided _).trans (State.modTotals_sameBut _ _ (by decide))
  · exact (decided _).trans (State.modTotals_sameBut _ _ (by decide))

theorem State.decideBlaster_cycle (next due : Nat) :
    (s.decideBlaster next due).cooler.cycle =
      if next < 8 then some (next + 1, due + s.cooler.cfg.blasterInterval * 1000) else none := by
  unfold State.decideBlaster
  dsimp only
  split <;> rfl

theorem State.decideBlaster_fires (next due : Nat) (pressure : s.di 21 = true) :
    (s.decideBlaster next due).cooler.blasterOut = some (next, s.floorTime + 500) ∧
      (s.decideBlaster next due).shift.current.totals =
        { s.shift.current.totals with
          blastersFired := min 4294967295 (s.shift.current.totals.blastersFired + 1) } := by
  simp only [State.decideBlaster, pressure, if_true]
  exact ⟨rfl, rfl⟩

theorem State.decideBlaster_skips (next due : Nat) (low : s.di 21 = false) :
    (s.decideBlaster next due).cooler.blasterOut = s.cooler.blasterOut ∧
      (s.decideBlaster next due).shift.current.totals =
        { s.shift.current.totals with
          blastersSkipped := min 4294967295 (s.shift.current.totals.blastersSkipped + 1) } := by
  simp only [State.decideBlaster, low, Bool.false_eq_true, if_false]
  exact ⟨rfl, rfl⟩

theorem State.blasterDue_leaves {next due : Nat} (live : s.resetRun = none) (cycle : s.cooler.cycle = some (next, due))
    (past : due ≤ s.floorTime) : exec .blasterDue s = .next (s.decideBlaster next due).pump := by
  have reached : s.cooler.blasterDue s.floorTime = some (next, due) := by
    simp only [Cooler.blasterDue, cycle, past, if_true]
  have runs : exec .blasterDue s = .next (s.event fun s => s.decideBlaster next due) := by
    simp only [exec.eq_def, execBlasterDue, reached]
  rw [runs, State.event_after live, State.after_some]

end

end Sys2Proof.Machine

open Sys2Proof Sys2Proof.Machine

/-- Settles O43. -/
theorem blastersFire : Obligations.BlastersFire := by
  intro s
  refine ⟨fun tag ready => ⟨?_, fun idle => ?_, fun next due cycle => ?_⟩, fun live => ⟨fun next due cycle past => ?_,
    fun n t out past => ?_⟩⟩
  · exact exec_done rfl ready rfl
  · refine exec_done rfl ready (t := s.taken.endBlasting.modCooler fun c => { c with blasters := false }) rfl |>.trans ?_
    rw [State.endBlasting_idle idle]
    rfl
  · have ends := State.endBlasting_cycle cycle
    refine ⟨s.taken.endBlasting.modCooler fun c => { c with blasters := false }, exec_done rfl ready rfl, ?_, ?_, ?_⟩
    · rw [ends]
      exact (((s.taken.modCooler_sameBut _ (by decide)).trans (State.modTotals_sameBut _ _ (by decide))).trans
        (State.modCooler_sameBut _ _ (by decide))).trans (State.modCooler_sameBut _ _ (by decide))
    · rw [ends]
      rfl
    · rw [ends]
      rfl
  · exact ⟨_, State.blasterDue_leaves live cycle past, State.decideBlaster_sameBut next due,
      State.decideBlaster_cycle next due, State.decideBlaster_fires next due, State.decideBlaster_skips next due⟩
  · have due : isDue (s.cooler.blasterOut.map Prod.snd) s.floorTime = true := isDue_of (by rw [out]; rfl) past
    exact congrArg Host.Outcome.next (State.eventIf_live live due _)

end

section
/-! START COOLER, STOP COOLER and the sequence timer of the cooler (R89 to R92, R98), and O41. -/

set_option Elab.async false

namespace Sys2Proof.Machine

open Sys2Proof

/-! ### Start (R89, R90) -/

/-- The cooler's record in another state, with its request and its event (Table 5-4). -/
def State.coolerChanged (s : State) (st : CoolerState) (c : Cooler) : State :=
  (({ s with cooler := c } : State).raise .cooler).addEvent (.coolerState st)

theorem turn_eq (n : Nat) : turn n = if n = 0 then 3 else if n = 1 then 2 else if n = 2 then 1 else 0 := by
  match n with
  | 0 | 1 | 2 => rfl
  | n + 3 => exact Fin.ext (Nat.sub_eq_zero_of_le (Nat.le_add_left 3 n))

theorem State.beginStart_eq (s : State) :
    s.beginStart =
      s.coolerChanged .starting
        { s.cooler with
          state := .starting, sequence := some (.fanStart, s.floorTime + s.cooler.cfg.fanStartDelay * 1000), started := 0,
          bedAt := some (s.floorTime + 2000),
          bed := match s.cooler.bedMean with
            | some m => bedValue s.cooler.cfg m
            | none => clamp s.cooler.cfg.bedMin s.cooler.cfg.bedMax s.cooler.cfg.bedBase } := by
  rfl

/-- The grates with the next at its turn started, unless it stands in FAULT (R90). -/
def Cooler.turned (c : Cooler) : Vector Grate 4 :=
  upd c.grates (turn c.started) fun g => { g with state := if g.state = .fault then .fault else .running }

theorem State.startNext_more {s : State} (more : s.cooler.started < 3) :
    s.startNext =
      s.modCooler fun c =>
        { c with
          grates := c.turned, started := c.started + 1,
          sequence := some (.stagger, s.floorTime + 5000) } := by
  rw [State.startNext]
  exact if_pos (by omega)

theorem State.startNext_last {s : State} (last : s.cooler.started = 3) :
    s.startNext =
      s.coolerChanged .running
        { s.cooler with
          grates := s.cooler.turned, started := 0, sequence := none, history := [], state := .running } := by
  rw [State.startNext]
  exact if_neg (by omega)

theorem Cooler.sequenceDue_of {c : Cooler} {kind : SequenceTimer} {t now : Nat} (timer : c.sequence = some (kind, t))
    (past : t ≤ now) : c.sequenceDue kind now = true := by
  simp [Cooler.sequenceDue, timer, past]

/-! ### Stop (R91, R92) -/

theorem mem_allGrates (g : Fin 4) : g ∈ allGrates := by
  revert g
  decide

/-- The grates that run, from G1 to G4 (R91). -/
def Cooler.runningGrates (c : Cooler) : List (Fin 4) := allGrates.filter fun g => c.grates[g.val].state = .running

theorem Cooler.mem_runningGrates (c : Cooler) (g : Fin 4) : g ∈ c.runningGrates ↔ c.grates[g].state = .running := by
  rw [Cooler.runningGrates, List.mem_filter]
  simp [mem_allGrates]

theorem Cooler.runningGrates_sorted (c : Cooler) : c.runningGrates.Pairwise (· < ·) :=
  List.Pairwise.filter _ (by decide : allGrates.Pairwise (· < ·))

theorem Cooler.runningGrates_none {c : Cooler} (still : ∀ g : Fin 4, c.grates[g].state ≠ .running) :
    c.runningGrates = [] :=
  List.eq_nil_iff_forall_not_mem.2 fun g member => still g ((c.mem_runningGrates g).1 member)

/-- The first grate of the stop list is the least that runs. -/
theorem Cooler.runningGrates_first {c : Cooler} {g : Fin 4} (running : c.grates[g].state = .running)
    (least : ∀ h : Fin 4, h < g → c.grates[h].state ≠ .running) :
    ∃ rest, c.runningGrates = g :: rest ∧ rest.Pairwise (· < ·) ∧
      ∀ h, h ∈ rest ↔ g < h ∧ c.grates[h].state = .running := by
  have member := (c.mem_runningGrates g).2 running
  have sorted := c.runningGrates_sorted
  cases split : c.runningGrates with
  | nil =>
    rw [split] at member
    cases member
  | cons first rest =>
    rw [split] at member sorted
    obtain ⟨before, ordered⟩ := List.pairwise_cons.1 sorted
    have here : first ∈ c.runningGrates := by
      rw [split]
      exact List.mem_cons_self
    obtain rfl : g = first := by
      obtain same | later := List.mem_cons.1 member
      · exact same
      · exact absurd ((c.mem_runningGrates first).1 here) (least first (before g later))
    refine ⟨rest, rfl, ordered, fun h => ?_⟩
    rw [← c.mem_runningGrates, split]
    refine ⟨fun later => ⟨before h later, List.mem_cons_of_mem _ later⟩, fun ⟨above, listed⟩ => ?_⟩
    exact (List.mem_cons.1 listed).resolve_left above.ne'

section
variable (s : State)

/-- The part at an entry into STOPPING, its cycle and its surge ended, before the stop list (R91, R98, R103). -/
def State.stopReady (s : State) : State := if s.endBlasting.cooler.state = .surge then s.endBlasting.endSurge else
  s.endBlasting

/-- The part in STOPPING with its stop list, before the first grate of it stops (R91). -/
def State.stopListed (s : State) : State :=
  (s.coolerTo .stopping).modCooler fun c => { c with started := 0, stopList := c.runningGrates }

theorem State.beginStop_eq : s.beginStop = s.stopReady.stopListed.stopNext.coolerStop := rfl

theorem State.stopNext_nil {s : State} (none : s.cooler.stopList = []) :
    s.stopNext =
      s.modCooler fun c => { c with sequence := some (.runOn, s.floorTime + c.cfg.fanRunOn * 1000) } := by
  rw [State.stopNext, none]
  simp only [State.modCooler, none, if_true]

theorem State.stopNext_cons {s : State} {g : Fin 4} {rest : List (Fin 4)} (stops : s.cooler.stopList = g :: rest) :
    s.stopNext =
      s.modCooler fun c =>
        { c with
          grates := upd c.grates g Grate.stop, stopList := rest,
          sequence :=
            if rest = [] then some (.runOn, s.floorTime + c.cfg.fanRunOn * 1000)
            else some (.stagger, s.floorTime + 5000) } := by
  rw [State.stopNext, stops]
  rfl

theorem State.endBlasting_cooler :
    s.endBlasting.cooler =
      { s.cooler with cycle := none, blasterOut := s.endBlasting.cooler.blasterOut, pulseCount := 0 } := by
  cases cycle : s.cooler.cycle with
  | none =>
    rw [State.endBlasting_idle cycle, ← cycle]
    rfl
  | some c =>
    rw [State.endBlasting_cycle (next := c.1) (due := c.2) cycle]
    rfl

theorem State.endBlasting_sameBut : SameBut [.cooler, .shift] s s.endBlasting := by
  intro b other
  cases b <;> simp_all [Block.Same]

theorem Cooler.formBed_eq (c : Cooler) : c.formBed = { c with bed := c.formBed.bed } := by
  unfold Cooler.formBed
  split <;> rfl

theorem State.endSurge_cooler : s.endSurge.cooler = { s.cooler with bed := s.cooler.formBed.bed, releaseAt := none } := by
  have formed : s.endSurge.cooler = { s.cooler.formBed with releaseAt := none } := by
    simp [State.endSurge, State.modHeat, State.modCooler]
  rw [formed, Cooler.formBed_eq]

theorem State.endSurge_surge : s.endSurge.heat.surge = none := rfl

theorem State.endSurge_sameBut : SameBut [.lines, .heat, .cooler, .shift] s s.endSurge := by
  intro b other
  cases b <;> simp_all [Block.Same]

theorem State.stopReady_sameBut : SameBut [.lines, .heat, .cooler, .shift] s s.stopReady := by
  have ended := s.endBlasting_sameBut.mono (cs := [.lines, .heat, .cooler, .shift]) (by decide)
  unfold State.stopReady
  split
  · exact ended.trans (State.endSurge_sameBut _)
  · exact ended

theorem State.stopReady_cooler :
    s.stopReady.cooler =
      { s.cooler with
        cycle := none, blasterOut := s.endBlasting.cooler.blasterOut, pulseCount := 0,
        bed := s.stopReady.cooler.bed, releaseAt := s.stopReady.cooler.releaseAt } := by
  unfold State.stopReady
  split
  · rw [State.endSurge_cooler, State.endBlasting_cooler]
  · rw [State.endBlasting_cooler]

theorem State.stopReady_surge (surge : s.cooler.state = .surge) :
    s.stopReady.heat.surge = none ∧ s.stopReady.cooler.releaseAt = none := by
  have ready : s.stopReady = s.endBlasting.endSurge := by
    refine if_pos ?_
    rw [State.endBlasting_cooler]
    exact surge
  rw [ready]
  exact ⟨rfl, congrArg Cooler.releaseAt (State.endSurge_cooler _)⟩

theorem State.stopReady_calm (calm : s.cooler.state ≠ .surge) : s.stopReady = s.endBlasting := by
  refine if_neg ?_
  rw [State.endBlasting_cooler]
  exact calm

/-- An entry of the cooler into STOPPING, before the burner takes it. -/
def State.stopEntered (s : State) : State := s.stopReady.stopListed.stopNext

theorem State.stopListed_stopNext_sameBut :
    SameBut [.cooler, .attention, .shift] s s.stopListed.stopNext := by
  intro b other
  cases b <;> simp_all [Block.Same, State.stopListed, State.modCooler]

theorem State.stopListed_stopNext_attention : s.stopListed.stopNext.attention = (s.raise .cooler).attention := by
  have requested : s.stopListed.stopNext.attention = ((s.modCooler fun c => { c with state := .stopping }).raise
      .cooler).attention := by
    simp [State.stopListed, State.coolerTo, State.modCooler]
  exact requested.trans (State.raise_attention_congr rfl _)

theorem State.stopListed_cooler :
    s.stopListed.cooler =
      { s.cooler with state := .stopping, started := 0, stopList := s.cooler.runningGrates } := rfl

theorem State.stopListed_stopNext_record :
    s.stopListed.stopNext.cooler =
      { s.cooler with
        state := .stopping, started := 0, stopList := s.stopListed.stopNext.cooler.stopList,
        grates := s.stopListed.stopNext.cooler.grates, sequence := s.stopListed.stopNext.cooler.sequence } := by
  cases stops : s.stopListed.cooler.stopList with
  | nil =>
    rw [State.stopNext_nil stops]
    rfl
  | cons g rest =>
    rw [State.stopNext_cons stops]
    rfl

/-- With no grate running the fans run on at once (R91). -/
theorem State.stopNext_still (still : ∀ g : Fin 4, s.cooler.grates[g].state ≠ .running) :
    s.stopListed.stopNext.cooler =
      { s.cooler with
        state := .stopping, started := 0, stopList := [],
        sequence := some (.runOn, s.floorTime + s.cooler.cfg.fanRunOn * 1000) } := by
  have none : s.stopListed.cooler.stopList = [] := Cooler.runningGrates_none still
  have listed : { s.stopListed.cooler with sequence := some (SequenceTimer.runOn,
      s.stopListed.floorTime + s.stopListed.cooler.cfg.fanRunOn * 1000) } =
      { s.cooler with
        state := .stopping, started := 0, stopList := s.cooler.runningGrates,
        sequence := some (.runOn, s.floorTime + s.cooler.cfg.fanRunOn * 1000) } := rfl
  rw [State.stopNext_nil none]
  refine listed.trans ?_
  rw [Cooler.runningGrates_none still]

/-- The least grate that runs stops first (R91). -/
theorem State.stopNext_first {g : Fin 4} (running : s.cooler.grates[g].state = .running)
    (least : ∀ h : Fin 4, h < g → s.cooler.grates[h].state ≠ .running) :
    ∃ rest, s.stopListed.stopNext.cooler =
        { s.cooler with
          state := .stopping, started := 0, stopList := rest,
          grates := upd s.cooler.grates g fun r => { r with state := .still },
          sequence :=
            if rest = [] then some (.runOn, s.floorTime + s.cooler.cfg.fanRunOn * 1000)
            else some (.stagger, s.floorTime + 5000) } ∧
      rest.Pairwise (· < ·) ∧ ∀ h, h ∈ rest ↔ g < h ∧ s.cooler.grates[h].state = .running := by
  obtain ⟨rest, split, sorted, members⟩ := Cooler.runningGrates_first running least
  have first : s.stopListed.cooler.stopList = g :: rest := split
  have stops : Grate.stop s.cooler.grates[g.val] = { s.cooler.grates[g.val] with state := .still } := if_pos running
  have grates : upd s.cooler.grates g Grate.stop = upd s.cooler.grates g fun r => { r with state := .still } :=
    upd_congr stops
  refine ⟨rest, ?_, sorted, members⟩
  rw [State.stopNext_cons first, ← grates]
  rfl

/-- What an entry of the cooler into STOPPING leaves for the burner (R91, R92, R98, R103). -/
theorem State.stopEntered_stopping : s.CoolerStopping s.stopEntered := by
  have ready := s.stopReady_cooler
  have same := s.stopReady_sameBut
  have after := s.stopReady.stopListed_stopNext_sameBut
  have time : s.stopReady.floorTime = s.floorTime := same .time (by decide)
  have attention : s.stopReady.attention = s.attention := same .attention (by decide)
  have grates : s.stopReady.cooler.grates = s.cooler.grates := (congrArg Cooler.grates ready :)
  have cfg : s.stopReady.cooler.cfg = s.cooler.cfg := (congrArg Cooler.cfg ready :)
  have record := s.stopReady.stopListed_stopNext_record
  refine ⟨(same.mono (by decide)).trans (after.mono (by decide)), (congrArg Cooler.state record :),
    (congrArg Cooler.started record :), ?_, ?_, ?_, fun surge => ?_, fun calm => ?_, fun still => ?_,
    fun g running least => ?_⟩
  · exact (congrArg Cooler.cycle record :).trans (congrArg Cooler.cycle ready :)
  · exact (congrArg Cooler.pulseCount record :).trans (congrArg Cooler.pulseCount ready :)
  · exact s.stopReady.stopListed_stopNext_attention.trans (State.raise_attention_congr attention _)
  · obtain ⟨heat, release⟩ := s.stopReady_surge surge
    have kept : s.stopEntered.heat = s.stopReady.heat := after .heat (by decide)
    exact ⟨(congrArg Heat.surge kept).trans heat, (congrArg Cooler.releaseAt record :).trans release⟩
  · have ended := s.stopReady_calm calm
    have heat : s.stopEntered.heat = s.stopReady.heat := after .heat (by decide)
    have lines : s.stopEntered.lines = s.stopReady.lines := after .lines (by decide)
    have bed : s.stopEntered.cooler.bed = s.stopReady.cooler.bed := (congrArg Cooler.bed record :)
    rw [heat, lines, bed, ended]
    exact ⟨s.endBlasting_sameBut .heat (by decide), s.endBlasting_sameBut .lines (by decide),
      (congrArg Cooler.bed s.endBlasting_cooler :)⟩
  · have stops := s.stopReady.stopNext_still (by rw [grates]; exact still)
    rw [time, cfg] at stops
    exact ⟨(congrArg Cooler.grates stops :).trans grates, (congrArg Cooler.stopList stops :),
      (congrArg Cooler.sequence stops :)⟩
  · obtain ⟨rest, stops, sorted, members⟩ := s.stopReady.stopNext_first (g := g) (by rw [grates]; exact running)
      (by rw [grates]; exact least)
    rw [time, cfg, grates] at stops
    have list : s.stopEntered.cooler.stopList = rest := (congrArg Cooler.stopList stops :)
    rw [list]
    refine ⟨(congrArg Cooler.grates stops :), fun h => ?_, sorted, (congrArg Cooler.sequence stops :)⟩
    rw [members, grates]

theorem State.beginStop_stops : s.CoolerStopping s.stopEntered ∧ s.stopEntered.TripTaken .coolerStopped none s.beginStop :=
  ⟨s.stopEntered_stopping, s.stopEntered.coolerStop_taken⟩

end

/-! ### The requests are decided, and the stagger by the cooler state -/

section
variable {s : State}

theorem State.stagger_starts (starting : s.cooler.state = .starting) : s.stagger = s.startNext := by
  rw [State.stagger, starting]

theorem State.stagger_stops (stopping : s.cooler.state = .stopping) : s.stagger = s.stopNext := by
  rw [State.stagger, stopping]

theorem decideStartCooler_barred (stopped : s.cooler.state = .stopped) (barred : s.di 22 = true) :
    decideStartCooler s = s.refuse .notPermitted := by
  simp only [decideStartCooler, stopped, barred, if_true]

theorem decideStartCooler_starts (stopped : s.cooler.state = .stopped) (free : s.di 22 = false) :
    decideStartCooler s = s.beginStart.settle.accepted := by
  simp only [decideStartCooler, stopped, free, Bool.false_eq_true, if_false]

theorem decideStartCooler_busy (busy : s.cooler.state = .starting ∨ s.cooler.state = .stopping) :
    decideStartCooler s = s.refuse .busy := by
  obtain state | state := busy <;> simp only [decideStartCooler, state]

theorem decideStartCooler_runs (runs : s.cooler.state = .running ∨ s.cooler.state = .surge) :
    decideStartCooler s = s.done [] := by
  obtain state | state := runs <;> simp only [decideStartCooler, state]

theorem decideStopCooler_stopped (stopped : s.cooler.state = .stopped ∨ s.cooler.state = .stopping) :
    decideStopCooler s = s.done [] := by
  obtain state | state := stopped <;> simp only [decideStopCooler, state]

theorem decideStopCooler_active (active : s.cooler.state ∈ [.starting, .running, .surge]) :
    decideStopCooler s = if s.burner.state.atRest then s.beginStop.settle.accepted else s.refuse .notPermitted := by
  simp only [List.mem_cons, List.not_mem_nil, or_false] at active
  obtain state | state | state := active <;> simp only [decideStopCooler, state]

end

end Sys2Proof.Machine

open Sys2Proof Sys2Proof.Machine

/-- Settles O41. -/
theorem coolerStartsAndStops : Obligations.CoolerStartsAndStops := by
  intro s changed atRest
  refine ⟨fun tag ready => ?_, fun live => ?_⟩
  · intro u c clamped
    refine ⟨fun stopped barred => exec_refused rfl ready (decideStartCooler_barred stopped barred),
      fun stopped free => exec_accepted rfl ready (decideStartCooler_starts stopped free),
      fun busy => exec_refused rfl ready (decideStartCooler_busy busy),
      fun runs => exec_done rfl ready (decideStartCooler_runs runs),
      fun stopped => exec_done rfl ready (decideStopCooler_stopped stopped),
      fun active => ⟨fun burning => exec_refused rfl ready ?_, fun rests => ?_⟩⟩
    · exact (decideStopCooler_active active).trans (if_neg (mt (BurnerState.atRest_iff _).1 burning))
    · obtain ⟨stopping, taken⟩ := u.beginStop_stops
      exact ⟨_, _, exec_accepted rfl ready ((decideStopCooler_active active).trans
        (if_pos ((BurnerState.atRest_iff _).2 rests))), stopping, taken⟩
  · intro c turn' started
    have grates : s.cooler.turned = started := by
      rw [Cooler.turned, turn_eq]
    refine ⟨fun kind event t named starting timer past => ?_, fun t g rest stopping timer past stops => ?_,
      fun t timer past => ⟨_, next_settled live (Cooler.sequenceDue_of timer past) rfl, State.coolerStop_taken _⟩⟩
    · have next : ∀ v : State, s.startNext = v → exec event s = .next v.settle.pump := fun v leaves => by
        obtain ⟨rfl, rfl⟩ | ⟨rfl, rfl⟩ := named
        · refine next_settled live ?_ leaves
          rw [starting, Cooler.sequenceDue_of timer past]
          rfl
        · refine next_settled live (Cooler.sequenceDue_of timer past) ((State.stagger_starts starting).trans leaves)
      refine ⟨fun more => next _ ?_, fun last => next _ ?_⟩
      · rw [State.startNext_more more, ← grates]
        rfl
      · rw [State.startNext_last last, ← grates]
        rfl
    · refine next_settled live (Cooler.sequenceDue_of timer past) ?_
      exact (State.stagger_stops stopping).trans (State.stopNext_cons stops)

end

section
/-! What SET GRATE and SET FAN SPEED store, the BED update, the release of a surge, and what the cooler forms (R93 to R95,
R98 to
R101), and O42. -/

set_option Elab.async false

namespace Sys2Proof.Machine

open Sys2Proof

/-! ### SET GRATE (R94) -/

/-- The mode and the value of SET GRATE fit the grate (R94). -/
def grateFits (g : Fin 4) (mode : Byte) (value : Nat) : Prop :=
  (mode = 0 ∧ value ≤ 300) ∨ (mode = 1 ∧ g = 0) ∨ (mode = 2 ∧ g ≠ 0 ∧ value ≤ 200)

section
variable {g : Fin 4} {value : Nat} (r : Grate)

theorem grateSetting_fixed (within : value ≤ 300) :
    grateSetting g 0 value r = some { r with mode := .fixed, fixedRate := value } := if_pos within

theorem grateSetting_bed : grateSetting 0 1 value r = some { r with mode := .bed } := rfl

theorem grateSetting_follow (other : g ≠ 0) (within : value ≤ 200) :
    grateSetting g 2 value r = some { r with mode := .follow, ratio := value } :=
  if_pos ⟨fun first => other (Fin.ext first), within⟩

theorem grateSetting_none {mode : Byte} (outside : ¬grateFits g mode value) : grateSetting g mode value r = none := by
  have code (k : Nat) (small : k < 256) (named : mode.toNat = k) : mode = BitVec.ofNat 8 k := by
    rw [← BitVec.toNat_inj, BitVec.toNat_ofNat, Nat.mod_eq_of_lt small]
    exact named
  unfold grateSetting
  split
  next zero => exact if_neg fun within => outside (.inl ⟨code 0 (by decide) zero, within⟩)
  next one => exact if_neg fun first => outside (.inr (.inl ⟨code 1 (by decide) one, Fin.ext first⟩))
  next two =>
    refine if_neg fun ⟨other, within⟩ => outside (.inr (.inr ⟨code 2 (by decide) two, fun first => other ?_, within⟩))
    rw [first]
    rfl
  · rfl

end

section
variable {s : State} {n mode : Byte} {value : Nat} {g : Fin 4}

theorem decideSetGrate_stored {f : Grate → Grate} (named : numbered 4 n = some g)
    (fits : ∀ r, grateSetting g mode value r = some (f r)) :
    decideSetGrate n mode value s = (s.modGrate g f).settle.done [] := by
  have same : s.modGrate g (fun _ => f s.cooler.grates[g.val]) = s.modGrate g f := by
    simp only [State.modGrate, State.modCooler]
    rw [upd_congr (f := fun _ => f s.cooler.grates[g.val]) (g := f) rfl]
  simp only [decideSetGrate, named, fits, same]

theorem decideSetGrate_refused (named : numbered 4 n = some g) (outside : ¬grateFits g mode value) :
    decideSetGrate n mode value s = s.refuse .badValue := by
  simp only [decideSetGrate, named, grateSetting_none _ outside]

theorem decideSetFanSpeed_refused {speed : Nat} (outside : n = 0 ∨ 12 < n.toNat ∨ 1000 < speed) :
    decideSetFanSpeed n speed s = s.refuse .badValue := by
  unfold decideSetFanSpeed
  split
  · rfl
  next k named =>
    refine if_neg fun within => ?_
    have unnamed : n = 0 ∨ 12 < n.toNat := outside.imp_right fun above => above.resolve_right (by omega)
    rw [numbered_none unnamed] at named
    cases named

theorem decideSetFanSpeed_stored {speed : Nat} {k : Fin 12} (named : numbered 12 n = some k) (within : speed ≤ 1000) :
    decideSetFanSpeed n speed s = (s.modChamber k fun r => { r with setSpeed := speed }).settle.done [] := by
  simp only [decideSetFanSpeed, named, within, if_true]

end

/-! ### The BED value and the release (R93, R98) -/

/-- The BED value as it is formed, held while the bed mean is absent (R93). -/
theorem Cooler.formBed_bed (c : Cooler) :
    c.formBed.bed =
      match c.bedMean with
      | some m =>
        min c.cfg.bedMax (max c.cfg.bedMin ((c.cfg.bedBase : Int) + c.cfg.bedGain * (m - c.cfg.bedSetpoint)).toNat)
      | none => c.bed := by
  unfold Cooler.formBed
  cases c.bedMean <;> rfl

section
variable (s : State)

theorem State.release_cooler :
    s.release.cooler =
      { s.cooler with
        state := .running, history := [], pulseCount := 0, bed := s.cooler.formBed.bed, releaseAt := none } := by
  rw [State.release, State.endSurge_cooler, Cooler.formBed_bed, Cooler.formBed_bed]
  rfl

theorem State.release_attention : s.release.attention = (s.raise .cooler).attention := by
  have kept (t : State) : t.endSurge.attention = t.attention := t.endSurge_sameBut .attention (by decide)
  exact (kept _).trans (State.raise_attention_congr rfl _)

theorem State.release_shift : s.release.shift = (s.addEvent .surgeEnd).shift := by
  have ended (t : State) : t.endSurge.shift = (t.addEvent .surgeEnd).shift := by
    simp only [State.endSurge, State.evaluate_frame]
    exact State.addEvent_shift_congr rfl rfl _
  exact (ended _).trans (State.addEvent_shift_congr rfl rfl _)

theorem State.release_sameBut : SameBut [.lines, .heat, .cooler, .attention, .shift] s s.release := by
  intro b other
  cases b <;> simp_all [Block.Same, State.release, State.modCooler]

end

/-! ### What the cooler forms (R93 to R95, R99 to R101) -/

/-- The cooler's record with its rates and speeds formed, and its SAT-low condition, before the low-current timers. -/
def State.coolerRates (s : State) : Cooler :=
  { s.cooler.form s.floorTime with satLow := satLowNext s.cooler.satLow s.envelope.satLowLimit (s.ai 1) }

theorem State.formCooler_cooler (s : State) :
    s.formCooler.cooler =
      { s.coolerRates with
        chambers := mapAt s.coolerRates.chambers fun i k =>
          if h : i < 12 then
            k.watchCurrent (({ s with cooler := s.coolerRates } : State).lowCurrent ⟨i, h⟩) s.floorTime else k } := rfl

section
variable (s : State)

theorem State.formCooler_grate (g : Fin 4) :
    s.formCooler.cooler.grates[g] =
      s.cooler.grates[g].command (grateRate s.cooler (leadRate s.cooler) g.val s.cooler.grates[g]) s.floorTime := by
  rw [State.formCooler_cooler]
  exact mapAt_get _ _ _ g.isLt

theorem State.coolerRates_chamber (k : Fin 12) :
    s.coolerRates.chambers[k] = { s.cooler.chambers[k] with commanded := fanSpeed s.cooler k.val s.cooler.chambers[k] } :=
  mapAt_get _ _ _ k.isLt

theorem State.formCooler_chamber (k : Fin 12) :
    s.formCooler.cooler.chambers[k] =
      s.coolerRates.chambers[k].watchCurrent (({ s with cooler := s.coolerRates } : State).lowCurrent k) s.floorTime := by
  rw [State.formCooler_cooler]
  refine (mapAt_get _ _ _ k.isLt).trans ?_
  exact dif_pos k.isLt

theorem State.formCooler_record :
    s.formCooler.cooler =
      { s.cooler with
        lead := s.formCooler.cooler.lead, grates := s.formCooler.cooler.grates,
        chambers := s.formCooler.cooler.chambers, satLow := s.formCooler.cooler.satLow } := rfl

theorem State.formCooler_sameBut : SameBut [.cooler] s s.formCooler := by
  intro b other
  cases b <;> simp_all [Block.Same]

theorem satLowNext_bad {low : Bool} {limit : Nat} {ch : Channel} (bad : ch.quality ≠ .good) :
    satLowNext low limit ch = false := if_neg bad

theorem satLowNext_good (low : Bool) {limit : Nat} {ch : Channel} (good : ch.quality = .good) :
    (ch.value < (limit : Int) → satLowNext low limit ch = true) ∧
      ((limit : Int) + 20 ≤ ch.value → satLowNext low limit ch = false) ∧
      ((limit : Int) ≤ ch.value → ch.value < (limit : Int) + 20 → satLowNext low limit ch = low) := by
  have next : satLowNext low limit ch =
      if low then decide (ch.value < (limit : Int) + 20) else decide (ch.value < (limit : Int)) := if_pos good
  rw [next]
  cases low with
  | true => exact ⟨fun below => decide_eq_true (by omega), fun above => decide_eq_false (by omega), fun _ within =>
      decide_eq_true within⟩
  | false => exact ⟨fun below => decide_eq_true below, fun above => decide_eq_false (by omega), fun above _ =>
      decide_eq_false (by omega)⟩

/-- A grate under a commanded rate: its watch runs while the rate is not 0, from the rise of the rate (R100). -/
theorem Grate.command_watch (g : Grate) (rate now : Nat) :
    ((g.command rate now).commanded = 0 → (g.command rate now).watch = none) ∧
      ((g.command rate now).commanded ≠ 0 →
        (g.command rate now).watch = if g.commanded = 0 then some now else g.watch) :=
  ⟨fun zero => if_pos zero, fun turns => if_neg turns⟩

section
variable (c : Cooler) (lead : Nat) (g : Fin 4) {r : Grate}

theorem grateRate_idle (idle : r.state ≠ .running) : grateRate c lead g.val r = 0 := if_neg idle

theorem grateRate_first (running : r.state = .running) : grateRate c lead 0 r = lead := by
  rw [grateRate, if_pos running, if_pos rfl]

theorem grateRate_fixed (running : r.state = .running) (other : g ≠ 0) (fixed : r.mode = .fixed) :
    grateRate c lead g.val r = r.fixedRate := by
  have apart : g.val ≠ 0 := fun first => other (Fin.ext first)
  rw [grateRate, if_pos running, if_neg apart, if_pos fixed]

theorem grateRate_follow (running : r.state = .running) (other : g ≠ 0) (follow : r.mode = .follow) :
    grateRate c lead g.val r = if c.grates[0].state = .fault then 0 else min 300 (lead * r.ratio / 100) := by
  have apart : g.val ≠ 0 := fun first => other (Fin.ext first)
  rw [grateRate, if_pos running, if_neg apart, if_neg (by rw [follow]; decide)]

end

theorem fanMin_get (cfg : CoolerSettings) (k : Fin 12) : cfg.fanMinSpeed.toList.getD k.val 0 = cfg.fanMinSpeed[k] := by
  simp [List.getD]

theorem fanSpeed_eq (c : Cooler) (k : Fin 12) (r : Chamber) :
    fanSpeed c k.val r =
      match c.state with
      | .stopped => 0
      | .starting => c.cfg.fanMinSpeed[k]
      | .running | .stopping => max r.setSpeed c.cfg.fanMinSpeed[k]
      | .surge =>
        if k.val < 4 then max (max r.setSpeed c.cfg.fanMinSpeed[k]) c.cfg.boostSpeed
        else max r.setSpeed c.cfg.fanMinSpeed[k] := by
  unfold fanSpeed runningSpeed
  cases c.state <;> simp only [fanMin_get]

theorem Chamber.watchCurrent_eq (k : Chamber) (low : Bool) (now : Nat) :
    k.watchCurrent low now =
      { k with lowAt := (k.watchCurrent low now).lowAt, lowExpired := (k.watchCurrent low now).lowExpired } := by
  unfold Chamber.watchCurrent
  split
  · split <;> rfl
  · rfl

/-- A low-current timer runs while its conditions hold and it has not expired (R101). -/
theorem Chamber.watchCurrent_cases (k : Chamber) (now : Nat) :
    k.watchCurrent false now = { k with lowAt := none, lowExpired := false } ∧
      k.watchCurrent true now =
        { k with
          lowAt := if k.lowExpired = true ∨ k.lowAt.isSome = true then k.lowAt else some (now + 10000) } := by
  refine ⟨rfl, ?_⟩
  unfold Chamber.watchCurrent
  simp only [if_true, Bool.or_eq_true]
  split <;> rfl

theorem State.lowCurrent_iff (k : Fin 12) :
    s.lowCurrent k = true ↔
      0 < s.cooler.chambers[k].commanded ∧ (s.ai (currentOf k)).quality = .good ∧
        (s.ai (currentOf k)).value < (s.cooler.cfg.fanThreshold[k] : Int) := by
  simp [State.lowCurrent, and_assoc]

end

end Sys2Proof.Machine

open Sys2Proof Sys2Proof.Machine

/-- Settles O42. -/
theorem coolerOutputsFormed : Obligations.CoolerOutputsFormed := by
  intro s
  refine ⟨fun tag n mode value ready => ?_, ?_, ?_⟩
  · intro u
    refine ⟨fun outside => exec_refused rfl ready ?_, fun g number => ?_, fun outside =>
      exec_refused rfl ready (decideSetFanSpeed_refused outside), fun k number within =>
      exec_done rfl ready (decideSetFanSpeed_stored (numbered_eq number) within)⟩
    · simp only [decision, decideSetGrate, numbered_none outside]
    · intro stored inside
      have named := numbered_eq number
      refine ⟨fun fixed within => ?_, fun bed first => ?_, fun follow other within => ?_, fun outside => ?_⟩
      · subst fixed
        exact exec_done rfl ready (decideSetGrate_stored named fun r => grateSetting_fixed r within)
      · subst bed first
        exact exec_done rfl ready (decideSetGrate_stored named grateSetting_bed)
      · subst follow
        exact exec_done rfl ready (decideSetGrate_stored named fun r => grateSetting_follow r other within)
      · exact exec_refused rfl ready (decideSetGrate_refused named outside)
  · intro c formed live
    have bed : c.formBed.bed = formed := c.formBed_bed
    refine ⟨fun t timer past => next_settled live (isDue_of timer past) ?_, fun t surge timer past => ?_⟩
    · have ticked : c.bedTick = { c with bed := formed, bedAt := some (t + 2000) } := by
        rw [Cooler.bedTick, Cooler.formBed_eq, bed, show c.bedAt = some t from timer]
        rfl
      exact congrArg (fun k : Cooler => ({ s with cooler := k } : State)) ticked
    · have due : (decide (s.cooler.state = .surge) && isDue s.cooler.releaseAt s.floorTime) = true := by
        rw [show s.cooler.state = .surge from surge, isDue_of timer past]
        rfl
      refine ⟨_, next_settled live due rfl, s.release_sameBut, s.release_cooler.trans ?_, rfl, s.release_attention,
        s.release_shift⟩
      rw [bed]
  · intro c minimum sat limit
    have first := s.formCooler_grate 0
    have mode : c.grates[(0 : Fin 4)].mode = s.cooler.grates[(0 : Fin 4)].mode := (congrArg Grate.mode first :)
    have rate : c.grates[(0 : Fin 4)].fixedRate = s.cooler.grates[(0 : Fin 4)].fixedRate :=
      (congrArg Grate.fixedRate first :)
    have state : c.grates[(0 : Fin 4)].state = s.cooler.grates[(0 : Fin 4)].state := (congrArg Grate.state first :)
    refine ⟨s.formCooler_sameBut, ?_, satLowNext_bad, satLowNext_good _, ?_, fun g => ?_, fun k => ?_⟩
    · exact s.formCooler_record
    · have lead : c.lead = leadRate s.cooler := rfl
      have kept : c.state = s.cooler.state := rfl
      rw [lead, kept, leadRate]
      cases s.cooler.state with
      | starting => exact (congrArg₂ (fun (m : GrateMode) (n : Nat) => if m = .fixed then n else s.cooler.bed) mode
        rate).symm
      | running => exact (congrArg₂ (fun (m : GrateMode) (n : Nat) => if m = .fixed then n else s.cooler.bed) mode rate).symm
      | stopping => exact (congrArg₂ (fun (m : GrateMode) (n : Nat) => if m = .fixed then n else s.cooler.bed) mode
        rate).symm
      | stopped => rfl
      | surge => rfl
    · have grate := s.formCooler_grate g
      have turns := s.cooler.grates[g].command_watch (grateRate s.cooler (leadRate s.cooler) g.val s.cooler.grates[g])
        s.floorTime
      have rates : c.grates[g].commanded = grateRate s.cooler (leadRate s.cooler) g.val s.cooler.grates[g] :=
        (congrArg Grate.commanded grate :)
      have own : c.grates[g].state = s.cooler.grates[g].state := (congrArg Grate.state grate :)
      rw [← grate] at turns
      refine ⟨?_, fun idle => rates.trans (grateRate_idle _ _ g (own ▸ idle)), fun running => ⟨fun g1 => ?_,
        fun other fixed => ?_, fun other follow => ?_⟩, turns.1, turns.2⟩
      · rw [show c.grates[g] = _ from grate]
        rfl
      · subst g1
        exact rates.trans (grateRate_first _ _ (own ▸ running))
      · have mode : c.grates[g].mode = s.cooler.grates[g].mode := (congrArg Grate.mode grate :)
        have rate : c.grates[g].fixedRate = s.cooler.grates[g].fixedRate := (congrArg Grate.fixedRate grate :)
        exact rates.trans ((grateRate_fixed _ _ g (own ▸ running) other (mode ▸ fixed)).trans rate.symm)
      · have mode : c.grates[g].mode = s.cooler.grates[g].mode := (congrArg Grate.mode grate :)
        have ratio : c.grates[g].ratio = s.cooler.grates[g].ratio := (congrArg Grate.ratio grate :)
        refine rates.trans ((grateRate_follow _ _ g (own ▸ running) other (mode ▸ follow)).trans ?_)
        rw [ratio]
        exact congrArg (fun st : GrateState => if st = .fault then 0 else _) state.symm
    · intro old current low
      have chamber := s.formCooler_chamber k
      rw [s.coolerRates_chamber k] at chamber
      have kept := Chamber.watchCurrent_eq
        { s.cooler.chambers[k] with commanded := fanSpeed s.cooler k.val s.cooler.chambers[k] }
        (({ s with cooler := s.coolerRates } : State).lowCurrent k) s.floorTime
      rw [← chamber] at kept
      have commanded : c.chambers[k].commanded = fanSpeed s.cooler k.val old := (congrArg Chamber.commanded kept :)
      have speed : c.chambers[k].setSpeed = old.setSpeed := (congrArg Chamber.setSpeed kept :)
      have formed : s.coolerRates.chambers[k].commanded = c.chambers[k].commanded :=
        (congrArg Chamber.commanded (s.coolerRates_chamber k) :).trans commanded.symm
      have lows : ({ s with cooler := s.coolerRates } : State).lowCurrent k = true ↔ low := by
        rw [State.lowCurrent_iff, formed]
        rfl
      obtain ⟨ends, runs⟩ := Chamber.watchCurrent_cases
        { s.cooler.chambers[k] with commanded := fanSpeed s.cooler k.val s.cooler.chambers[k] } s.floorTime
      refine ⟨?_, commanded.trans ((fanSpeed_eq _ _ _).trans ?_), fun ample => ?_, fun short => ?_⟩
      · rw [commanded]
        exact kept
      · rw [speed]
        rfl
      · rw [Bool.eq_false_iff.2 (mt lows.1 ample), ends] at chamber
        exact ⟨(congrArg Chamber.lowAt chamber :), (congrArg Chamber.lowExpired chamber :)⟩
      · rw [lows.2 short, runs] at chamber
        exact ⟨(congrArg Chamber.lowExpired chamber :), (congrArg Chamber.lowAt chamber :)⟩

end

section
/-! The rotation monitor: the index pulse, what the batch lines and the blasters make of it, and the stop timer (R63, R67,
R103,
R112, R113), and O48. -/

set_option Elab.async false

namespace Sys2Proof.Machine

open Sys2Proof

section
variable (s : State)

/-- The state in which an index pulse is counted and the monitor has taken it, before the period is handed on (R111, R112).
-/
def State.pulsed : State :=
  (s.countPulse 10).modField fun f => { f with rotation := f.rotation.pulse s.floorTime f.cfg.kilnStopTime }

/-- The state in which the lines have the period of a pulse (R113). -/
def State.pulseHanded : State := s.pulsed.handPeriod s.field.rotation.period

variable {s}

theorem State.indexPulse_stopped (stopped : s.pulsed.field.rotation.turning = false) : s.indexPulse = s.pulseHanded := by
  unfold State.indexPulse
  refine if_neg fun turning => ?_
  simp only [State.handPeriod_frame] at turning
  exact Bool.false_ne_true (stopped.symm.trans turning)

theorem State.indexPulse_turning (turning : s.pulsed.field.rotation.turning = true) :
    s.indexPulse = ((s.pulseHanded.batchPulse 0).batchPulse 1).blasterPulse := by
  unfold State.indexPulse
  refine if_pos ?_
  simp only [State.handPeriod_frame]
  exact turning

theorem Rotation.pulse_turning {r : Rotation} (held : r.last ≠ none ∨ r.turning = true) (now time : Nat) :
    (r.pulse now time).turning = true := by
  unfold Rotation.pulse
  cases last : r.last with
  | none => exact held.resolve_left fun other => other last
  | some t => rfl

theorem Rotation.pulse_first {r : Rotation} (first : r.last = none) (stopped : r.turning = false) (now time : Nat) :
    (r.pulse now time).turning = false := by
  rw [Rotation.pulse, first]
  exact stopped

theorem State.indexPulse_field : s.indexPulse.field = s.pulsed.field := by
  cases monitor : s.pulsed.field.rotation.turning with
  | false => simp [State.indexPulse_stopped monitor, State.pulseHanded]
  | true => simp [State.indexPulse_turning monitor, State.pulseHanded]

/-- With no order active an evaluation leaves no batch order to take a pulse. -/
theorem State.handPeriod_inactive (period : Option Nat) (l : Fin 6) (idle : s.lines[l].progress = none) :
    (s.handPeriod period).lines[l].activeBatch = none := by
  have kept (t : State) (periods : Nat → Option Nat) :
      (t.evaluateAt periods).lines[l].activeBatch = t.lines[l].activeBatch := (t.evaluateAt_kept periods l).2.2.2.2
  exact ((kept _ _).trans (kept _ _)).trans (Line.activeBatch_none (.inr (.inl idle)))

theorem State.blasterPulse_off (off : s.cooler.blasters = false) : s.blasterPulse = s := by
  unfold State.blasterPulse
  rw [off]
  rfl

theorem State.blasterPulse_running (on : s.cooler.blasters = true) (running : s.cooler.state = .running) :
    s.blasterPulse.cooler =
      if s.cooler.cfg.blasterRevs ≤ s.cooler.pulseCount + 1 then
        { s.cooler with
          pulseCount := 0, cycle := if s.cooler.cycle.isSome then s.cooler.cycle else some (1, s.floorTime) }
      else { s.cooler with pulseCount := s.cooler.pulseCount + 1 } := by
  unfold State.blasterPulse
  rw [on, running]
  rfl

/-- A pulse that finds no order active and the blasters off reaches nothing but the lines' evaluations. -/
theorem State.indexPulse_unheard (idle : ∀ l : Fin 6, s.lines[l].progress = none) (off : s.cooler.blasters = false) :
    s.indexPulse = s.pulseHanded := by
  cases monitor : s.pulsed.field.rotation.turning with
  | false => exact State.indexPulse_stopped monitor
  | true =>
    have unheard (b : Fin 2) : s.pulseHanded.batchPulse b = s.pulseHanded :=
      State.batchPulse_idle (State.handPeriod_inactive (s := s.pulsed) _ (lineOfBatch b) (idle _))
    rw [State.indexPulse_turning monitor, unheard, unheard]
    exact State.blasterPulse_off ((congrArg Cooler.blasters (by simp [State.pulseHanded, State.pulsed])).trans off)

/-! ### The stop timer (R112) -/

/-- The state in which the monitor has forgotten its pulse (R112). -/
def State.forgot (s : State) : State := s.modField fun f => { f with rotation := Rotation.reset }

/-- The state in which a monitor that was TURNING has closed both gates and ended the blaster cycle (R67, R103). -/
def State.kilnRests (s : State) : State := ((s.forgot.closeGate 4).closeGate 5).endBlasting

theorem State.kilnStop_stopped (stopped : s.field.rotation.turning = false) : s.kilnStop = s.forgot :=
  if_neg fun turning => Bool.false_ne_true (stopped.symm.trans turning)

theorem State.kilnStop_turning (turning : s.field.rotation.turning = true) :
    s.kilnStop = s.kilnRests.handPeriod s.field.rotation.period := if_pos turning

theorem State.closeGates_batches (b : Fin 2) :
    ((s.closeGate 4).closeGate 5).batches[b] = { s.batches[b] with gateOpen := false, idle := 0 } := by
  rw [State.closeGate_get, State.closeGate_get]
  fin_cases b <;> rfl

theorem State.closeGate_sameBut (s : State) (l : Fin 6) : SameBut [.batches] s (s.closeGate l) := by
  unfold State.closeGate
  cases batchOf l with
  | none => exact SameBut.refl _ _
  | some b => exact s.modBatch_sameBut _ _ (by decide)

theorem State.handPeriod_sameBut (s : State) (period : Option Nat) : SameBut [.lines, .heat] s (s.handPeriod period) :=
  (s.evaluateAt_sameBut _).trans (State.evaluateAt_sameBut _ _)

theorem State.kilnRests_sameBut : SameBut [.batches, .cooler, .shift] s.forgot s.kilnRests :=
  (((s.forgot.closeGate_sameBut 4).trans (State.closeGate_sameBut _ 5)).mono (by decide)).trans
    ((State.endBlasting_sameBut _).mono (by decide))

theorem State.kilnStop_sameBut (turning : s.field.rotation.turning = true) :
    SameBut [.lines, .batches, .heat, .cooler, .shift] s.forgot s.kilnStop := by
  rw [State.kilnStop_turning turning]
  exact (State.kilnRests_sameBut.mono (by decide)).trans ((State.handPeriod_sameBut _ _).mono (by decide))

theorem State.kilnStop_field : s.kilnStop.field = s.forgot.field := by
  cases monitor : s.field.rotation.turning with
  | false => rw [State.kilnStop_stopped monitor]
  | true => exact State.kilnStop_sameBut monitor .field (by decide)

/-- Neither the gates nor the blasters bear on what the lines are handed at the end of the period. -/
theorem State.kilnStop_lines (turning : s.field.rotation.turning = true) :
    s.kilnStop.lines = (s.forgot.handPeriod s.field.rotation.period).lines ∧
      s.kilnStop.heat = (s.forgot.handPeriod s.field.rotation.period).heat := by
  have rests : SameBut [.batches, .cooler, .shift] s.forgot s.kilnRests := State.kilnRests_sameBut
  have field : s.kilnRests.field = s.forgot.field := rests .field (by decide)
  have burner : s.kilnRests.burner = s.forgot.burner := rests .burner (by decide)
  have satLow : s.kilnRests.cooler.satLow = s.forgot.cooler.satLow := by
    rw [State.kilnRests, State.endBlasting_cooler]
    simp
  rw [State.kilnStop_turning turning]
  exact State.handPeriod_reads _ (rests .lines (by decide)) (rests .heat (by decide)) (rests .envelope (by decide))
    (rests .time (by decide)) satLow (congrArg Burner.ceiling burner) (congrArg Field.rotation field)

theorem State.kilnStop_batches (turning : s.field.rotation.turning = true) (b : Fin 2) :
    s.kilnStop.batches[b] = { s.batches[b] with gateOpen := false, idle := 0 } := by
  have batches : s.kilnStop.batches = ((s.forgot.closeGate 4).closeGate 5).batches := by
    rw [State.kilnStop_turning turning, State.kilnRests]
    simp
  rw [batches]
  exact State.closeGates_batches b

theorem State.kilnStop_cooler (turning : s.field.rotation.turning = true) :
    s.kilnStop.cooler.cycle = Option.none ∧ s.kilnStop.cooler.pulseCount = 0 := by
  have cooler : s.kilnStop.cooler = s.kilnRests.cooler := by
    rw [State.kilnStop_turning turning]
    simp
  rw [cooler, State.kilnRests, State.endBlasting_cooler]
  exact ⟨rfl, rfl⟩

end

end Sys2Proof.Machine

open Sys2Proof Sys2Proof.Machine

/-- Settles O48. -/
theorem rotationMonitored : Obligations.RotationMonitored := by
  intro s live handed
  refine ⟨⟨s.indexPulse, next_event_settled live rfl, ?_⟩, ?_, ?_⟩
  · rw [State.indexPulse_field]
    refine ⟨?_, fun first stopped => ?_, State.indexPulse_unheard, fun held => ?_, fun held on running => ?_⟩
    · simp only [State.pulsed, State.countPulse, State.modField, Rotation.pulse]
      cases s.field.rotation.last <;> rfl
    · exact State.indexPulse_stopped (Rotation.pulse_first first stopped _ _)
    · exact State.indexPulse_turning (Rotation.pulse_turning held _ _)
    · have cooler : ((s.pulseHanded.batchPulse 0).batchPulse 1).cooler = s.cooler := by
        simp [State.pulseHanded]
        rfl
      have floor : ((s.pulseHanded.batchPulse 0).batchPulse 1).floorTime = s.floorTime := by
        simp [State.pulseHanded]
        rfl
      rw [State.indexPulse_turning (Rotation.pulse_turning (.inl held) _ _),
        State.blasterPulse_running (cooler ▸ on) (cooler ▸ running), cooler, floor]
      refine ⟨fun below => ?_, fun reached => ?_⟩
      · rw [if_neg (Nat.not_le.2 below)]
      · rw [if_pos reached]
        exact ⟨rfl, rfl⟩
  · intro b x r withBatch served
    have serves (t : State) : t.gateIdle b = served t := t.gateIdle_eq b
    refine ⟨fun idle => State.batchPulse_idle (Line.activeBatch_none idle), ?_⟩
    intro o rest slots revs mass opened active head body counted
    have order := Line.activeBatch_some opened active head body
    refine ⟨fun all => ?_, fun left other => ?_, fun left multiple => ?_⟩
    · exact (State.batchPulse_all_opened order all).trans (serves s)
    · exact ((State.batchPulse_counts order left).trans (congrArg (State.gateIdle · b) (if_neg other))).trans
        (serves counted)
    · exact ((State.batchPulse_counts order left).trans (congrArg (State.gateIdle · b) (if_pos multiple))).trans (serves _)
  · intro t timer past
    refine ⟨s.kilnStop, next_settled live (isDue_of timer past) rfl, ?_⟩
    rw [State.kilnStop_field]
    refine ⟨rfl, State.kilnStop_stopped, fun turning => ?_⟩
    obtain ⟨cycle, count⟩ := State.kilnStop_cooler turning
    obtain ⟨lines, heat⟩ := State.kilnStop_lines turning
    exact ⟨State.kilnStop_batches turning, cycle, count, lines, heat,
      (s.modField_sameBut _ (by decide)).trans ((State.kilnStop_sameBut turning).mono (by decide))⟩
end

section
/-! The end of a slot: its record and its counts, and the order that retires with its last slot (R61, R65, R69, R70). -/

set_option Elab.async false

namespace Sys2Proof.Machine

open Sys2Proof

/-! ### What the end of an order leaves of the recorder -/

/-- The totals of a line but for the count of its retired orders. -/
def LineTotals.unretired (t : LineTotals) : LineTotals := { t with retired := 0 }

/-- From `s` to `t` no report is stored and no total of a line changes but the count of its retired orders. -/
def Tallies (s t : State) : Prop :=
  t.shift.store = s.shift.store ∧
    ∀ l : Fin 6, t.shift.current.totals.lines[l].unretired = s.shift.current.totals.lines[l].unretired

namespace Tallies

variable {s t u : State} {l : Fin 6}

theorem refl (s : State) : Tallies s s := ⟨rfl, fun _ => rfl⟩

theorem trans (first : Tallies s t) (second : Tallies t u) : Tallies s u :=
  ⟨second.1.trans first.1, fun l => (second.2 l).trans (first.2 l)⟩

theorem of_shift (same : t.shift = s.shift) : Tallies s t := ⟨by rw [same], fun _ => by rw [same]⟩

theorem addEvent (s : State) (e : EventKind) : Tallies s (s.addEvent e) := by
  simp only [State.addEvent, State.modShift]
  split <;> exact ⟨rfl, fun _ => rfl⟩

theorem endHead (s : State) (l : Fin 6) (outcome : OrderOutcome) : Tallies s (s.endHead l outcome) := by
  cases head : s.lines[l.val].queue with
  | nil => simp only [State.endHead, head]; exact refl s
  | cons o rest =>
    have retired (t : State) : Tallies t (t.modLineTotals l fun n => { n with retired := add32 n.retired 1 }) := by
      refine ⟨rfl, fun m => ?_⟩
      show (upd t.shift.current.totals.lines l _)[m.val].unretired = _
      rw [upd_get]
      split
      next same =>
        subst same
        rfl
      · rfl
    rw [State.endHead_eq outcome head]
    have counted := (of_shift (s := s) (t := s.modLine l fun r => r.retire o rest
      (completionOf o outcome s.lines[l.val].progress s.floorTime (s.batchCounts l o))) rfl).trans (retired _)
    cases o.body with
    | batch slots revs mass => exact counted.trans (of_shift (by simp))
    | rate target ramp hold => exact counted
    | context cv priority => exact counted

theorem retireHead (s : State) (l : Fin 6) (outcome : OrderOutcome) : Tallies s (s.retireHead l outcome) := by
  cases head : s.lines[l.val].queue with
  | nil => simp only [State.retireHead, head]; exact refl s
  | cons o rest =>
    simp only [State.retireHead, head]
    exact (endHead s l outcome).trans (of_shift (by simp))

theorem takeUp (l : Fin 6) (q : List Order) : ∀ s : State, Tallies s (s.takeUp l q) := by
  induction q with
  | nil => exact refl
  | cons o rest ih =>
    intro s
    cases body : o.body with
    | context cv priority =>
      rw [State.takeUp_context body]
      exact ((of_shift (t := s.inContext l cv priority) rfl).trans (retireHead _ l .complete)).trans
        ((addEvent _ _).trans (ih _))
    | rate target ramp hold =>
      by_cases opened : s.lines[l.val].state = .opened
      · have active (reached : Bool) : Tallies s (s.atRate l target reached) := of_shift rfl
        rw [State.takeUp_rate body opened]
        split
        · exact ((active _).trans (retireHead _ l .complete)).trans (ih _)
        · exact active _
      · rw [State.takeUp_waits (by simp [body]) opened]
        exact refl s
    | batch slots revs mass =>
      by_cases opened : s.lines[l.val].state = .opened
      · rw [State.takeUp_batch body opened]
        refine of_shift ?_
        unfold State.atBatch
        cases batchOf l <;> rfl
      · rw [State.takeUp_waits (by simp [body]) opened]
        exact refl s

theorem completeHead (s : State) (l : Fin 6) : Tallies s (s.completeHead l) :=
  ((retireHead s l .complete).trans (takeUp l _ _)).trans (of_shift rfl)

end Tallies

/-! ### The active order of a batch line (R61) -/

theorem Line.activeBatch_iff {r : Line} {slots revs mass : Nat} :
    r.activeBatch = some (slots, revs, mass) ↔
      r.state = .opened ∧ r.progress ≠ none ∧ ∃ o rest, r.queue = o :: rest ∧ o.body = .batch slots revs mass := by
  refine ⟨fun order => ?_, fun ⟨opened, active, o, rest, head, body⟩ => Line.activeBatch_some opened active head body⟩
  unfold Line.activeBatch at order
  split at order
  next runs =>
    obtain ⟨opened, active⟩ := (Bool.and_eq_true _ _).mp runs
    split at order
    next queue =>
      cases order
      exact ⟨of_decide_eq_true opened, Option.isSome_iff_ne_none.1 active, _, _, queue, rfl⟩
    · cases order
  · cases order

/-- The state after a slot's end has been recorded: the order whose slots are all decided retires (R61). -/
def State.slotEnded (s : State) (b : Fin 2) : State :=
  let r := s.batches[b.val]
  match s.lines[(lineOfBatch b).val].activeBatch with
  | some (slots, _, _) => if r.fed + r.missed + r.skipped = slots then s.completeHead (lineOfBatch b) else s
  | none => s

theorem State.endSlot_eq (s : State) (b : Fin 2) (z : SlotRecord) : s.endSlot b z = (s.recordSlot b z).slotEnded b := rfl

section
variable {s : State} {b : Fin 2}

theorem State.slotEnded_retires {slots revs mass : Nat}
    (order : s.lines[lineOfBatch b].activeBatch = some (slots, revs, mass))
    (all : s.batches[b].fed + s.batches[b].missed + s.batches[b].skipped = slots) :
    s.slotEnded b = s.completeHead (lineOfBatch b) := by
  simp only [Fin.getElem_fin] at order all
  simp only [State.slotEnded, order, all, if_true]

theorem State.slotEnded_goesOn
    (left : ∀ slots revs mass, s.lines[lineOfBatch b].activeBatch = some (slots, revs, mass) →
      s.batches[b].fed + s.batches[b].missed + s.batches[b].skipped ≠ slots) : s.slotEnded b = s := by
  unfold State.slotEnded
  dsimp only
  split
  next slots revs mass order => exact if_neg (left slots revs mass order)
  · rfl

theorem State.slotEnded_falls (s : State) (b : Fin 2) : Falls (lineOfBatch b) s (s.slotEnded b) := by
  unfold State.slotEnded
  dsimp only
  split
  next slots revs mass order =>
    obtain ⟨-, -, o, rest, head, -⟩ := Line.activeBatch_iff.1 order
    split
    · exact State.completeHead_falls head
    · exact .refl _ _
  · exact .refl _ _

theorem State.slotEnded_tallies (s : State) (b : Fin 2) : Tallies s (s.slotEnded b) := by
  unfold State.slotEnded
  dsimp only
  split
  · split
    · exact .completeHead s _
    · exact .refl s
  · exact .refl s

/-- What the retirement of the active order leaves of its batch line: the gate CLOSED, and the order behind it taken up. -/
theorem State.completeHead_gate {o : Order} {rest : List Order} {slots revs mass : Nat}
    (head : s.lines[(lineOfBatch b).val].queue = o :: rest) (body : o.body = .batch slots revs mass) :
    (s.completeHead (lineOfBatch b)).batches[b].gateOpen = false ∧ (s.completeHead (lineOfBatch b)).batches[b].idle = 0 := by
  have kind : o.isBatch = true := by simp only [Order.isBatch, body]
  have retired : (s.retireHead (lineOfBatch b) .complete).batches[b] = (s.closeGate (lineOfBatch b)).batches[b] := by
    rw [State.retireHead_batches head, if_pos kind]
  obtain ⟨gate, idle⟩ := (s.closeGate_batch (lineOfBatch b) b).2 (.inl (batchOf_lineOfBatch b))
  exact (State.completeHead_after head).gate b (retired ▸ gate) (retired ▸ idle)

theorem State.completeHead_next {l : Fin 6} {o q : Order} {more : List Order} {slots revs mass : Nat}
    (named : batchOf l = some b)
    (head : s.lines[l.val].queue = o :: q :: more) (opened : s.lines[l].state = .opened)
    (body : q.body = .batch slots revs mass) :
    (s.completeHead l).BatchActivated b s.floorTime ∧ (s.completeHead l).lines[l].queue = q :: more := by
  have queue := State.retireHead_queue .complete head
  have live : (s.retireHead l .complete).lines[l].state = .opened :=
    (congrArg Line.state (State.retireHead_falls head .complete).base :).trans opened
  have taken : s.completeHead l = ((s.retireHead l .complete).atBatch l).evaluate := by
    simp only [State.completeHead, queue]
    rw [State.takeUp_batch body live]
  have time : (s.retireHead l .complete).floorTime = s.floorTime := by simp
  rw [taken]
  refine ⟨time ▸ (State.atBatch_activated named).evaluate, ?_⟩
  rw [Fin.getElem_fin, State.evaluate_queue, ← Fin.getElem_fin, State.atBatch_queue]
  exact queue

/-- A slot whose end has been recorded in `u`, its line otherwise as in `s` but for what it was delivered, is counted. -/
theorem State.SlotCounted.of_recorded {u : State} {z : Batch} {w : Line} (time : u.floorTime = s.floorTime)
    (own : u.lines[lineOfBatch b] = w)
    (line : w = { s.lines[lineOfBatch b] with lifetime := w.lifetime, progress := w.progress })
    (active : w.progress = none ↔ s.lines[lineOfBatch b].progress = none)
    (batch : u.batches[b] = { z with last := u.batches[b].last }) : s.SlotCounted b z w (u.slotEnded b) := by
  have fed : u.batches[b].fed = z.fed := (congrArg Batch.fed batch :)
  have missed : u.batches[b].missed = z.missed := (congrArg Batch.missed batch :)
  have skipped : u.batches[b].skipped = z.skipped := (congrArg Batch.skipped batch :)
  have state : w.state = s.lines[lineOfBatch b].state := (congrArg Line.state line :)
  have queue : w.queue = s.lines[lineOfBatch b].queue := (congrArg Line.queue line :)
  have retired : w.retired = s.lines[lineOfBatch b].retired := (congrArg Line.retired line :)
  refine ⟨fun goesOn => ?_, fun decided o rest head => ?_⟩
  · have left := State.slotEnded_goesOn (s := u) (b := b) fun slots revs mass order all => ?_
    · rw [left]
      exact ⟨batch, own⟩
    · rw [own, Line.activeBatch_iff, state, queue] at order
      obtain ⟨opened, goes, o, rest, head, body⟩ := order
      rw [fed, missed, skipped] at all
      exact goesOn ⟨opened, fun none => goes (active.2 none), o, rest, slots, revs, mass, head, body, all⟩
  · obtain ⟨opened, goes, o', rest', slots, revs, mass, head', body, all⟩ := decided
    obtain ⟨rfl, rfl⟩ : o' = o ∧ rest' = rest := List.cons.inj (head'.symm.trans head)
    have headU : u.lines[(lineOfBatch b).val].queue = o' :: rest' := (own ▸ queue :).trans head
    have openedU : u.lines[lineOfBatch b].state = .opened := (own ▸ state :).trans opened
    have goesU : w.progress ≠ none := fun none => goes (active.1 none)
    have order : u.lines[lineOfBatch b].activeBatch = some (slots, revs, mass) :=
      Line.activeBatch_some openedU (own ▸ goesU) headU body
    have ends := State.slotEnded_retires order (by rw [fed, missed, skipped, all])
    have counts : u.batchCounts (lineOfBatch b) o' = some (z.fed, z.missed, z.skipped) := by
      have runs : u.lines[(lineOfBatch b).val].progress.isSome = true :=
        Option.isSome_iff_ne_none.2 (own ▸ goesU : u.lines[lineOfBatch b].progress ≠ none)
      simp only [State.batchCounts, body, batchOf_lineOfBatch, runs, if_true]
      rw [← fed, ← missed, ← skipped]
      rfl
    have mark : u.lines[lineOfBatch b].mark = s.lines[lineOfBatch b].mark := (congrArg Line.mark own).trans
      (congrArg Line.mark line :)
    have records : u.lines[lineOfBatch b].records = s.lines[lineOfBatch b].records := (congrArg Line.records own).trans
      (congrArg Line.records line :)
    obtain ⟨leaves, suffix, -⟩ := Falls.leaves headU (State.completeHead_after headU)
    obtain ⟨gate, idle⟩ := State.completeHead_gate headU body
    have slots := (State.completeHead_falls headU).slots b
    simp only [Batch.slots, Prod.mk.injEq] at slots
    obtain ⟨-, -, misses, batchMissed⟩ := slots
    have completed := State.completeHead_completed headU records time counts
    rw [own] at leaves completed
    rw [ends]
    refine ⟨retired ▸ leaves, suffix, gate, idle, misses.trans (congrArg Batch.misses batch :),
      batchMissed.trans (congrArg Batch.batchMissed batch :), ?_, completed, fun last => ?_, fun q more _ _ _ follows
        kind => ?_⟩
    · have taken := (State.completeHead_lowWater headU).of_mark mark
      rwa [← head] at taken
    · obtain ⟨idle, -, empties⟩ := State.completeHead_last headU last
      exact ⟨idle, empties openedU⟩
    · subst follows
      exact time ▸ State.completeHead_next (batchOf_lineOfBatch b) headU openedU kind

/-! ### The record of a slot's end (R69, R70) -/

variable {z : SlotRecord}

theorem State.recordSlot_missed (missed : z.outcome = .missed) :
    (s.recordSlot b z).batches[b] =
        { s.batches[b] with
          last := some z, missed := s.batches[b].missed + 1, misses := min 65535 (s.batches[b].misses + 1),
          batchMissed := s.batches[b].batchMissed || decide (3 ≤ min 65535 (s.batches[b].misses + 1)) } ∧
      (s.recordSlot b z).shift.current.totals.lines[lineOfBatch b].missed =
        min 4294967295 (s.shift.current.totals.lines[lineOfBatch b].missed + 1) := by
  simp only [State.recordSlot, missed]
  exact ⟨upd_get_self _ _ _, (congrArg LineTotals.missed (upd_get_self _ _ _) :)⟩

theorem State.recordSlot_skipped (skipped : z.outcome = .skipped) :
    (s.recordSlot b z).batches[b] = { s.batches[b] with last := some z, skipped := s.batches[b].skipped + 1 } ∧
      (s.recordSlot b z).shift.current.totals.lines[lineOfBatch b].skipped =
        min 4294967295 (s.shift.current.totals.lines[lineOfBatch b].skipped + 1) := by
  simp only [State.recordSlot, skipped]
  exact ⟨upd_get_self _ _ _, (congrArg LineTotals.skipped (upd_get_self _ _ _) :)⟩

theorem State.recordSlot_fed (fed : z.outcome = .fed) :
    (s.recordSlot b z).batches[b] =
        { s.batches[b] with last := some z, fed := s.batches[b].fed + 1, misses := 0, batchMissed := false } ∧
      (s.recordSlot b z).shift.store = s.shift.store ∧
      (s.recordSlot b z).shift.current.totals.lines[lineOfBatch b] =
        { s.shift.current.totals.lines[lineOfBatch b] with
          fed := min 4294967295 (s.shift.current.totals.lines[lineOfBatch b].fed + 1) } := by
  simp only [State.recordSlot, fed]
  exact ⟨upd_get_self _ _ _, rfl, upd_get_self _ _ _⟩

theorem State.recordSlot_aborted (aborted : z.outcome = .aborted) :
    (s.recordSlot b z).shift.store = s.shift.store ∧
      (s.recordSlot b z).shift.current.totals.lines[lineOfBatch b] =
        { s.shift.current.totals.lines[lineOfBatch b] with
          aborted := min 4294967295 (s.shift.current.totals.lines[lineOfBatch b].aborted + 1) } := by
  simp only [State.recordSlot, aborted]
  exact ⟨rfl, upd_get_self _ _ _⟩

end

end Sys2Proof.Machine
end

section
/-! The slots of L5 and L6 from their opening to their end (R61, R63 to R69), and O39. -/

set_option Elab.async false

namespace Sys2Proof.Machine

open Sys2Proof

/-! ### What a delivery makes of the shift's totals (R160) -/

section
variable (s : State) (l : Fin 6) (grams : Nat)

theorem State.deliver_within_totals (within : s.shift.current.totals.lines[l].mass + grams ≤ 4294967295) :
    (s.deliver l grams).shift.current.totals.lines[l] =
      { s.shift.current.totals.lines[l] with
        mass := s.shift.current.totals.lines[l].mass + grams
        heat := s.shift.current.totals.lines[l].heat + grams * s.lines[l].cv } := by
  have stays : s.beforeDelivery l grams = s := if_neg (Nat.not_lt.2 within)
  rw [State.deliver_eq, stays]
  exact upd_get_self _ _ _

/-- A shift that a delivery opens has counted no slot. -/
theorem State.deliver_beyond_totals (beyond : 4294967295 < s.shift.current.totals.lines[l].mass + grams) :
    (s.deliver l grams).shift.current.totals.lines[l].fed = 0 ∧
      (s.deliver l grams).shift.current.totals.lines[l].aborted = 0 := by
  have closes : s.beforeDelivery l grams = s.closeShift .request .request 0 := if_pos beyond
  have opened : (s.beforeDelivery l grams).shift.current.totals.lines[l].fed = 0 ∧
      (s.beforeDelivery l grams).shift.current.totals.lines[l].aborted = 0 := by
    rw [closes, State.closeShift_shift]
    have fresh := mapAt_get s.shift.current.totals.lines
      (fun _ n => { LineTotals.zero with deviation := n.deviation.carry s.floorTime, cut := n.cut.carry s.floorTime })
      l.val l.isLt
    exact ⟨(congrArg LineTotals.fed fresh :), (congrArg LineTotals.aborted fresh :)⟩
  have delivered : (s.deliver l grams).shift.current.totals.lines[l] =
      { (s.beforeDelivery l grams).shift.current.totals.lines[l] with
        mass := (s.beforeDelivery l grams).shift.current.totals.lines[l].mass + grams
        heat := (s.beforeDelivery l grams).shift.current.totals.lines[l].heat + grams * s.lines[l].cv } := by
    rw [State.deliver_eq]
    exact upd_get_self _ _ _
  exact ⟨(congrArg LineTotals.fed delivered :).trans opened.1, (congrArg LineTotals.aborted delivered :).trans opened.2⟩

end

theorem Line.delivering_eq (r : Line) (grams : Nat) :
    r.delivering grams =
      { r with lifetime := (r.delivering grams).lifetime, progress := (r.delivering grams).progress } := rfl

theorem Line.delivering_idle (r : Line) (grams : Nat) : (r.delivering grams).progress = none ↔ r.progress = none :=
  Option.map_eq_none_iff

theorem headCharge_batch {r : Line} {o : Order} {rest : List Order} {slots revs nominal : Nat} (head : r.queue = o :: rest)
    (body : o.body = .batch slots revs nominal) : headCharge r = (o.tag, nominal * 1000) := by
  obtain ⟨tag, notify, delay, kind⟩ := o
  cases body
  simp only [headCharge, head]

/-! ### A slot that ends counted (R65, R69, R70) -/

section
variable {s t : State} {b : Fin 2} {z : SlotRecord} {x : Batch}

theorem State.slotEnded_last (s : State) (b : Fin 2) : (s.slotEnded b).batches[b].last = s.batches[b].last ∧
    (s.slotEnded b).batches[b].slot = s.batches[b].slot := by
  have slots := (s.slotEnded_falls b).slots b
  simp only [Batch.slots, Prod.mk.injEq] at slots
  exact ⟨slots.2.1, slots.1⟩

section
variable (time : t.floorTime = s.floorTime) (lines : t.lines = s.lines) (batch : t.batches[b] = x)
include time lines

/-- A slot that ends without a charge leaves its line to be counted as it is. -/
theorem State.endSlot_uncharged {y : Batch} (record : (t.recordSlot b z).batches[b] = { y with last := some z }) :
    s.SlotCounted b y s.lines[lineOfBatch b] (t.endSlot b z) ∧ (t.endSlot b z).batches[b].last = some z := by
  have own : (t.recordSlot b z).lines = s.lines := by simp [lines]
  have last : (t.recordSlot b z).batches[b].last = some z := (congrArg Batch.last record :)
  rw [State.endSlot_eq]
  refine ⟨.of_recorded (by simp [time]) (by rw [own]) rfl Iff.rfl ?_, (State.slotEnded_last _ b).1.trans last⟩
  rw [last]
  exact record

include batch

theorem State.endSlot_missed (missed : z.outcome = .missed) :
    s.SlotCounted b
        { x with
          missed := x.missed + 1, misses := min 65535 (x.misses + 1)
          batchMissed := x.batchMissed || decide (3 ≤ min 65535 (x.misses + 1)) }
        s.lines[lineOfBatch b] (t.endSlot b z) ∧
      (t.endSlot b z).batches[b].last = some z ∧
      (t.endSlot b z).shift.current.totals.lines[lineOfBatch b].missed =
        min 4294967295 (t.shift.current.totals.lines[lineOfBatch b].missed + 1) := by
  obtain ⟨record, counted⟩ := State.recordSlot_missed (s := t) (b := b) missed
  rw [batch] at record
  obtain ⟨counts, last⟩ := State.endSlot_uncharged time lines (y := { x with
    missed := x.missed + 1, misses := min 65535 (x.misses + 1)
    batchMissed := x.batchMissed || decide (3 ≤ min 65535 (x.misses + 1)) }) record
  have tallies := (State.slotEnded_tallies (t.recordSlot b z) b).2 (lineOfBatch b)
  exact ⟨counts, last, (congrArg LineTotals.missed tallies :).trans counted⟩

theorem State.endSlot_skipped (skipped : z.outcome = .skipped) :
    s.SlotCounted b { x with skipped := x.skipped + 1 } s.lines[lineOfBatch b] (t.endSlot b z) ∧
      (t.endSlot b z).batches[b].last = some z ∧
      (t.endSlot b z).shift.current.totals.lines[lineOfBatch b].skipped =
        min 4294967295 (t.shift.current.totals.lines[lineOfBatch b].skipped + 1) := by
  obtain ⟨record, counted⟩ := State.recordSlot_skipped (s := t) (b := b) skipped
  rw [batch] at record
  obtain ⟨counts, last⟩ := State.endSlot_uncharged time lines (y := { x with skipped := x.skipped + 1 }) record
  have tallies := (State.slotEnded_tallies (t.recordSlot b z) b).2 (lineOfBatch b)
  exact ⟨counts, last, (congrArg LineTotals.skipped tallies :).trans counted⟩

end

/-! ### The opening of a slot (R64, R65) -/

/-- The batch record of a slot that opens, before the slot is decided: its share is added to the credit (R64). -/
def State.opening (s : State) (b : Fin 2) : Batch :=
  { s.batches[b] with
    opened := s.batches[b].opened + 1
    credit := min 199 (s.batches[b].credit +
      creditShare s.heat.entries[lineOfBatch b].requested s.heat.entries[lineOfBatch b].allowed) }

/-- The state in which a slot that opens is decided. -/
def State.slotOpened (s : State) (b : Fin 2) : State := s.modBatch b fun _ => s.opening b

/-- The record of a slot that is decided at its opening (R65). -/
def State.decidedSlot (s : State) (b : Fin 2) (outcome : SlotOutcome) (reason : Option MissReason) : SlotRecord :=
  { number := (s.opening b).opened, tag := (headCharge s.lines[lineOfBatch b]).1, openedAt := s.floorTime,
    endedAt := s.floorTime, outcome := outcome, reason := reason, credit := (s.opening b).credit, mass := none,
    estimated := false }

theorem State.slotOpened_own (s : State) (b : Fin 2) : (s.slotOpened b).batches[b] = s.opening b := s.modBatch_own b _

/-- The slot that an opening begins, its charge taken from the credit (R65, R66). -/
def State.begunSlot (s : State) (b : Fin 2) : Slot :=
  { number := (s.opening b).opened, phase := .gateDelay,
    endsAt := s.floorTime + s.lines[lineOfBatch b].cfg.gateDelay * 1000, openedAt := s.floorTime,
    credit := (s.opening b).credit - 100 }

theorem State.modBatch_congr {s : State} {b : Fin 2} {f g : Batch → Batch} (same : f s.batches[b] = g s.batches[b]) :
    s.modBatch b f = s.modBatch b g :=
  congrArg (fun batches : Vector Batch 2 => { s with batches := batches }) (upd_congr same)

/-- The first condition of Table 3-3 that holds decides the slot. -/
theorem State.openSlot_eq (s : State) (b : Fin 2) :
    s.openSlot b =
      if s.batches[b].slot.isSome then (s.slotOpened b).endSlot b (s.decidedSlot b .missed (some .busy))
      else if !s.di (readyOf b) then (s.slotOpened b).endSlot b (s.decidedSlot b .missed (some .notReady))
      else if (s.opening b).credit < 100 then (s.slotOpened b).endSlot b (s.decidedSlot b .skipped none)
      else
        let t := s.modBatch b fun _ => { s.opening b with credit := (s.opening b).credit - 100 }
        if s.batches[b].gateOpen then t.beginDrop b (s.begunSlot b)
        else t.modBatch b fun x => { x with gateOpen := true, idle := 0, slot := some (s.begunSlot b) } := by
  have opens : (s.modBatch b fun x =>
      { x with
        opened := x.opened + 1
        credit := min Config.creditCap (x.credit +
          creditShare s.heat.entries[(lineOfBatch b).val].requested s.heat.entries[(lineOfBatch b).val].allowed) }) =
      s.slotOpened b := State.modBatch_congr rfl
  have charged : ((s.slotOpened b).modBatch b fun x => { x with credit := x.credit - 100 }) =
      s.modBatch b fun _ => { s.opening b with credit := (s.opening b).credit - 100 } := by
    rw [State.slotOpened, State.modBatch, State.modBatch, State.modBatch, upd_upd]
  have own : (s.slotOpened b).batches[b.val] = s.opening b := s.slotOpened_own b
  unfold State.openSlot
  dsimp only
  rw [opens, charged, own]
  rfl

section
variable (free : s.batches[b].slot = none)
include free

theorem State.openSlot_unready (unready : s.di (readyOf b) = false) :
    s.openSlot b = (s.slotOpened b).endSlot b (s.decidedSlot b .missed (some .notReady)) := by
  rw [State.openSlot_eq, free, if_neg (by decide), unready]
  exact if_pos rfl

theorem State.openSlot_decided (ready : s.di (readyOf b) = true) :
    s.openSlot b =
      if (s.opening b).credit < 100 then (s.slotOpened b).endSlot b (s.decidedSlot b .skipped none)
      else
        let t := s.modBatch b fun _ => { s.opening b with credit := (s.opening b).credit - 100 }
        if s.batches[b].gateOpen then t.beginDrop b (s.begunSlot b)
        else t.modBatch b fun x => { x with gateOpen := true, idle := 0, slot := some (s.begunSlot b) } := by
  rw [State.openSlot_eq, free, if_neg (by decide), ready]
  exact if_neg (by decide)

/-- A slot that feeds takes 100 from the credit, and its charge drops at once where the gate is OPEN (R65, R66). -/
theorem State.openSlot_begins (ready : s.di (readyOf b) = true) (full : ¬(s.opening b).credit < 100) :
    (s.openSlot b).batches[b] =
      if s.batches[b].gateOpen then
        { s.opening b with
          credit := (s.opening b).credit - 100
          before := some ((s.ai (scaleOf b)).value, (s.ai (scaleOf b)).quality)
          slot := some { s.begunSlot b with phase := .drop, endsAt := s.floorTime + 500 } }
      else
        { s.opening b with
          credit := (s.opening b).credit - 100, gateOpen := true, idle := 0, slot := some (s.begunSlot b) } := by
  rw [State.openSlot_decided free ready, if_neg full]
  cases s.batches[b].gateOpen
  · exact (State.modBatch_own _ _ _).trans (by rw [State.modBatch_own]; rfl)
  · exact (State.modBatch_own _ _ _).trans (by rw [State.modBatch_own]; rfl)

end

/-- A slot that is decided MISSED at its opening (R65, R70). -/
theorem State.opening_missed (reason : MissReason)
    (decided : s.openSlot b = (s.slotOpened b).endSlot b (s.decidedSlot b .missed (some reason))) :
    s.SlotCounted b
        { s.opening b with
          missed := s.batches[b].missed + 1, misses := min 65535 (s.batches[b].misses + 1)
          batchMissed := s.batches[b].batchMissed || decide (3 ≤ min 65535 (s.batches[b].misses + 1)) }
        s.lines[lineOfBatch b] (s.openSlot b) ∧
      (s.openSlot b).batches[b].last = some (s.decidedSlot b .missed (some reason)) ∧
      (s.openSlot b).shift.current.totals.lines[lineOfBatch b].missed =
        min 4294967295 (s.shift.current.totals.lines[lineOfBatch b].missed + 1) := by
  rw [decided]
  exact State.endSlot_missed (s := s) rfl rfl (s.slotOpened_own b) rfl

theorem State.opening_skipped
    (decided : s.openSlot b = (s.slotOpened b).endSlot b (s.decidedSlot b .skipped none)) :
    s.SlotCounted b { s.opening b with skipped := s.batches[b].skipped + 1 } s.lines[lineOfBatch b] (s.openSlot b) ∧
      (s.openSlot b).batches[b].last = some (s.decidedSlot b .skipped none) ∧
      (s.openSlot b).shift.current.totals.lines[lineOfBatch b].skipped =
        min 4294967295 (s.shift.current.totals.lines[lineOfBatch b].skipped + 1) := by
  rw [decided]
  exact State.endSlot_skipped (s := s) rfl rfl (s.slotOpened_own b) rfl

/-! ### The phases of a slot that feeds (R66) -/

theorem next_phase {w : Slot} {phase : SlotPhase} {v : State} (live : s.resetRun = none) (slot : s.batches[b].slot = some w)
    (ends : w.endsAt ≤ s.floorTime) (runs : w.phase = phase) {effect : State → Slot → State} (leaves : effect s w = v) :
    (Host.Outcome.next (s.endPhase b phase effect) : Result) = .next v.settle.pump := by
  have due : s.batches[b.val].slotDue phase s.floorTime = some w := by
    have own : s.batches[b.val].slot = some w := slot
    simp only [Batch.slotDue, own, runs, ends, and_self, if_true]
  simp only [State.endPhase, due]
  exact next_event_settled live leaves

/-- The mass of the charge of a slot whose settle ends, and whether it is the nominal mass (R66). -/
def State.weighed (s : State) (b : Fin 2) : Nat × Bool :=
  chargeMass s.batches[b].before (s.ai (scaleOf b)) (headCharge s.lines[lineOfBatch b]).2

/-- The record of a slot that is weighed. -/
def State.fedSlot (s : State) (b : Fin 2) (w : Slot) : SlotRecord :=
  { number := w.number, tag := (headCharge s.lines[lineOfBatch b]).1, openedAt := w.openedAt, endedAt := s.floorTime,
    outcome := .fed, reason := none, credit := w.credit, mass := some (s.weighed b).1, estimated := (s.weighed b).2 }

/-- The state in which a charge has been delivered and its slot is counted (R66; log entry 43). -/
def State.chargeWeighed (s : State) (b : Fin 2) : State :=
  (s.modBatch b fun x => { x with slot := none, idle := 0 }).deliver (lineOfBatch b) (s.weighed b).1

theorem State.slotEnded_idle (idle : s.batches[b].idle = 0) : (s.slotEnded b).batches[b].idle = 0 := by
  unfold State.slotEnded
  dsimp only
  split
  next slots revs mass order =>
    obtain ⟨-, -, o, rest, head, body⟩ := Line.activeBatch_iff.1 order
    split
    · exact (State.completeHead_gate head body).2
    · exact idle
  · exact idle

theorem State.chargeWeighed_time : (s.chargeWeighed b).floorTime = s.floorTime := by
  simp [State.chargeWeighed, State.modBatch]

theorem State.weighSlot_eq (w : Slot) : s.weighSlot b w = (s.chargeWeighed b).endSlot b (s.fedSlot b w) := by
  unfold State.fedSlot
  rw [← State.chargeWeighed_time (s := s) (b := b)]
  rfl

theorem State.chargeWeighed_own : (s.chargeWeighed b).batches[b] = { s.batches[b] with slot := none, idle := 0 } := by
  have kept : (s.chargeWeighed b).batches = (s.modBatch b fun x => { x with slot := none, idle := 0 }).batches := by
    simp [State.chargeWeighed]
  rw [kept]
  exact s.modBatch_own b _

theorem State.chargeWeighed_shift :
    (s.chargeWeighed b).shift = (s.deliver (lineOfBatch b) (s.weighed b).1).shift :=
  (State.deliver_congr (s := s) (t := s.modBatch b fun x => { x with slot := none, idle := 0 }) _ _ rfl rfl rfl rfl rfl).1

theorem chargeMass_good {before : Int} {after : Channel} (good : after.quality = .good) (nominal : Nat) :
    chargeMass (some (before, .good)) after nominal = ((before - after.value).toNat * 1000, false) := by
  simp only [chargeMass, good, if_true]

theorem chargeMass_nominal {before : Option (Int × Quality)} {after : Channel}
    (unread : (∀ n : Int, before ≠ some (n, .good)) ∨ after.quality ≠ .good) (nominal : Nat) :
    chargeMass before after nominal = (nominal, true) := by
  unfold chargeMass
  split
  next n => exact if_neg (unread.resolve_left fun other => other n rfl)
  · rfl

/-- A slot that ends FED in `t`, in which its charge has been delivered. -/
theorem State.endSlot_fed {r : Line} {grams : Nat} (time : t.floorTime = s.floorTime)
    (line : s.lines[lineOfBatch b] = r) (own : t.lines[lineOfBatch b] = r.delivering grams) (batch : t.batches[b] = x)
    (fed : z.outcome = .fed) :
    s.SlotCounted b { x with fed := x.fed + 1, misses := 0, batchMissed := false } (r.delivering grams) (t.endSlot b z) ∧
      (t.endSlot b z).batches[b].last = some z ∧ (t.endSlot b z).batches[b].slot = x.slot ∧
      (x.idle = 0 → (t.endSlot b z).batches[b].idle = 0) ∧
      (t.endSlot b z).lines[lineOfBatch b].lifetime = r.lifetime + grams := by
  obtain ⟨record, -⟩ := State.recordSlot_fed (s := t) (b := b) fed
  rw [batch] at record
  have last : (t.recordSlot b z).batches[b].last = some z := (congrArg Batch.last record :)
  have lines : (t.recordSlot b z).lines = t.lines := by simp
  have ends : (t.recordSlot b z).lines[lineOfBatch b] = r.delivering grams := by rw [lines, own]
  have base := (State.slotEnded_falls (t.recordSlot b z) b).base
  rw [State.endSlot_eq]
  refine ⟨.of_recorded (by simp [time]) ends ?_ ?_ ?_, (State.slotEnded_last _ b).1.trans last,
    (State.slotEnded_last _ b).2.trans (congrArg Batch.slot record :),
    fun rests => State.slotEnded_idle ((congrArg Batch.idle record :).trans rests), ?_⟩
  · rw [line]
    exact Line.delivering_eq _ _
  · rw [line]
    exact Line.delivering_idle _ _
  · rw [last]
    exact record
  · exact (congrArg Line.lifetime base :).trans (congrArg Line.lifetime ends :)

theorem State.endSlot_tallied (fed : z.outcome = .fed) :
    (t.endSlot b z).shift.store = t.shift.store ∧
      (t.endSlot b z).shift.current.totals.lines[lineOfBatch b].mass =
        t.shift.current.totals.lines[lineOfBatch b].mass ∧
      (t.endSlot b z).shift.current.totals.lines[lineOfBatch b].fed =
        min 4294967295 (t.shift.current.totals.lines[lineOfBatch b].fed + 1) := by
  obtain ⟨stored, totals⟩ := State.slotEnded_tallies (t.recordSlot b z) b
  obtain ⟨-, store, counted⟩ := State.recordSlot_fed (s := t) (b := b) fed
  have kept := totals (lineOfBatch b)
  rw [counted] at kept
  exact ⟨stored.trans store, (congrArg LineTotals.mass kept :), (congrArg LineTotals.fed kept :)⟩

/-- The recorder after a charge has been weighed: the mass as delivered, the slot counted in the shift it then stands in. -/
theorem State.weighSlot_tallied (w : Slot) :
    (s.weighSlot b w).shift.store = (s.deliver (lineOfBatch b) (s.weighed b).1).shift.store ∧
      (s.weighSlot b w).shift.current.totals.lines[lineOfBatch b].mass =
        (s.deliver (lineOfBatch b) (s.weighed b).1).shift.current.totals.lines[lineOfBatch b].mass ∧
      (s.weighSlot b w).shift.current.totals.lines[lineOfBatch b].fed =
        min 4294967295
          ((s.deliver (lineOfBatch b) (s.weighed b).1).shift.current.totals.lines[lineOfBatch b].fed + 1) := by
  have tallied := State.endSlot_tallied (t := s.chargeWeighed b) (b := b) (z := s.fedSlot b w) rfl
  rw [State.chargeWeighed_shift] at tallied
  rw [State.weighSlot_eq]
  exact tallied

/-! ### A slot in flight that is aborted (R68) -/

theorem SlotPhase.dropped_eq (p : SlotPhase) : (p != .gateDelay) = decide (p ≠ .gateDelay) := by cases p <;> rfl

theorem State.charged_shift (s : State) {l : Fin 6} (w : Slot) (named : batchOf l = some b)
    (slot : s.batches[b].slot = some w) :
    (s.abortSlot l).shift.store = (s.charged l w).shift.store ∧
      (s.abortSlot l).shift.current.totals.lines[l] =
        { (s.charged l w).shift.current.totals.lines[l] with
          aborted := min 4294967295 ((s.charged l w).shift.current.totals.lines[l].aborted + 1) } := by
  have own := lineOfBatch_of named
  subst own
  have records := State.recordSlot_aborted (s := (s.charged (lineOfBatch b) w).modBatch b fun x => { x with slot := none })
    (b := b) (z := s.abortedSlot (lineOfBatch b) w) rfl
  rw [State.abortSlot_slot named slot]
  exact records

section
variable {w : Slot} {o : Order} {rest : List Order} {slots revs nominal : Nat} {l : Fin 6}
  (head : s.lines[l].queue = o :: rest) (body : o.body = .batch slots revs nominal)
include head body

theorem State.abortedSlot_batch :
    s.abortedSlot l w =
      { number := w.number, tag := o.tag, openedAt := w.openedAt, endedAt := s.floorTime, outcome := .aborted,
        reason := none, credit := w.credit,
        mass := if decide (w.phase ≠ .gateDelay) = true then some (nominal * 1000) else none,
        estimated := decide (w.phase ≠ .gateDelay) } := by
  have time : (s.charged l w).floorTime = s.floorTime := by
    unfold State.charged
    split
    · simp
    · rfl
  have charge : headCharge s.lines[l.val] = (o.tag, nominal * 1000) := headCharge_batch head body
  unfold State.abortedSlot
  rw [time, charge, SlotPhase.dropped_eq]

theorem State.charged_batch :
    s.charged l w = if decide (w.phase ≠ .gateDelay) = true then s.deliver l (nominal * 1000) else s := by
  have charge : headCharge s.lines[l.val] = (o.tag, nominal * 1000) := headCharge_batch head body
  rw [State.charged, charge, SlotPhase.dropped_eq]

end

/-! ### The line that enters OPEN with a BATCH order at its head (R37, R61) -/

section
variable {o : Order} {rest : List Order} {slots revs nominal : Nat} {l : Fin 6}
  (head : s.lines[l].queue = o :: rest) (body : o.body = .batch slots revs nominal)
include head body

/-- The line that has entered OPEN, before it takes its head up (R37). -/
def State.entersOpen (s : State) (l : Fin 6) : State :=
  ((s.modLine l fun r => r.enter .opened).addEvent (.lineAdmitted l)).evaluate

omit head body in
theorem State.entersOpen_keeps :
    (s.entersOpen l).lines[l].queue = s.lines[l].queue ∧ (s.entersOpen l).lines[l].state = .opened := by
  have own := s.modLine_own l fun r => r.enter .opened
  have opened : (s.entersOpen l).lines[l].state = ((s.modLine l fun r => r.enter .opened).lines[l]).state :=
    (congrArg Line.state (State.evaluate_line ((s.modLine l fun r => r.enter .opened).addEvent (.lineAdmitted l)) l) :)
  have queue : (s.entersOpen l).lines[l].queue = ((s.modLine l fun r => r.enter .opened).lines[l]).queue :=
    (congrArg Line.queue (State.evaluate_line ((s.modLine l fun r => r.enter .opened).addEvent (.lineAdmitted l)) l) :)
  exact ⟨queue.trans (congrArg Line.queue own :), opened.trans (congrArg Line.state own :)⟩

theorem State.openLine_batch : s.openLine l = (s.entersOpen l).atBatch l := by
  obtain ⟨queue, opened⟩ := s.entersOpen_keeps (l := l)
  have whole : (s.entersOpen l).lines[l.val].queue = o :: rest := queue.trans head
  have opens : s.openLine l = if (s.entersOpen l).lines[l.val].queue = [] then (s.entersOpen l).setReason l .empty
      else (s.entersOpen l).takeUp l (s.entersOpen l).lines[l.val].queue := rfl
  rw [opens, whole, if_neg (List.cons_ne_nil _ _), State.takeUp_batch body opened]

end

theorem State.atBatch_gate (s : State) (l : Fin 6) (b : Fin 2) :
    (s.atBatch l).batches[b].gateOpen = s.batches[b].gateOpen := by
  unfold State.atBatch
  dsimp only
  have kept (t : State) : t.evaluate.batches = t.batches := by simp
  rw [kept]
  cases batchOf l with
  | none => rfl
  | some c =>
    simp only [State.modBatch, State.modLine]
    rw [Fin.getElem_fin, upd_get]
    split
    next same =>
      subst same
      rfl
    · rfl

end

end Sys2Proof.Machine

open Sys2Proof Sys2Proof.Machine

/-- Settles O39. -/
theorem slotsRun : Obligations.SlotsRun := by
  intro s b l x r e shift up share credit delivered ended missed
  have tagged {z : SlotRecord} (tag : z.tag = (headCharge s.lines[lineOfBatch b]).1) (o : Order) (rest : List Order)
      (slots revs nominal : Nat) (head : r.queue = o :: rest) (body : o.body = .batch slots revs nominal) : z.tag = o.tag :=
    tag.trans (congrArg Prod.fst (headCharge_batch head body))
  have missing (reason : MissReason)
      (decided : s.openSlot b = (s.slotOpened b).endSlot b (s.decidedSlot b .missed (some reason))) :
      missed (s.openSlot b) reason := by
    obtain ⟨counted, last, total⟩ := State.opening_missed reason decided
    exact ⟨⟨_, last, rfl, rfl, rfl, rfl, rfl, rfl, rfl, tagged rfl⟩, counted, total⟩
  refine ⟨fun o rest slots revs nominal head body => ?_, fun busy => ?_, fun free unready => ?_, fun free ready low => ?_,
    fun free ready full => ?_, fun free => ?_, fun w o rest slots revs nominal slot head body => ?_, fun w live slot past
      => ?_⟩
  · obtain ⟨queue, opened⟩ := s.entersOpen_keeps (l := l)
    have time : (s.entersOpen l).floorTime = s.floorTime := by simp [State.entersOpen, State.modLine]
    have batches : (s.entersOpen l).batches = s.batches := by simp [State.entersOpen, State.modLine]
    rw [State.openLine_batch head body]
    refine ⟨time ▸ State.atBatch_activated (batchOf_lineOfBatch b), ?_, State.atBatch_queue.trans queue, ?_⟩
    · exact (congrArg Line.state ((s.entersOpen l).atBatch_falls l).base :).trans opened
    · rw [State.atBatch_gate, batches]
  · refine missing .busy ?_
    rw [State.openSlot_eq, if_pos (Option.isSome_iff_ne_none.2 busy)]
  · exact missing .notReady (State.openSlot_unready free unready)
  · obtain ⟨counted, last, total⟩ := State.opening_skipped ((State.openSlot_decided free ready).trans (if_pos low))
    exact ⟨⟨_, last, rfl, rfl, rfl, rfl, rfl, rfl, rfl, tagged rfl⟩, counted, total⟩
  · have own := State.openSlot_begins free ready (Nat.not_lt.2 full)
    cases gate : x.gateOpen with
    | false =>
      rw [if_neg (by simp only [show s.batches[b].gateOpen = false from gate]; decide)] at own
      exact ⟨(congrArg Batch.credit own :), (congrArg Batch.opened own :), (congrArg Batch.gateOpen own :), _,
        (congrArg Batch.slot own :), rfl, rfl, rfl, fun _ => ⟨rfl, rfl⟩, fun other => absurd other (by decide)⟩
    | true =>
      rw [if_pos gate] at own
      exact ⟨(congrArg Batch.credit own :), (congrArg Batch.opened own :), (congrArg Batch.gateOpen own :).trans gate, _,
        (congrArg Batch.slot own :), rfl, rfl, rfl, fun other => absurd other (by decide),
        fun _ => ⟨rfl, rfl, (congrArg Batch.before own :)⟩⟩
  · refine State.abortSlot_idle fun c named => ?_
    rw [← Option.some.inj ((batchOf_lineOfBatch b).symm.trans named)]
    exact free
  · have named := batchOf_lineOfBatch b
    have charged := State.charged_batch (w := w) head body
    have line : (s.abortSlot l).lines[l] = (s.charged l w).lines[l] := by
      rw [State.abortSlot_slot named slot]
      simp
      rfl
    have batch : (s.abortSlot l).batches[b] = x.aborted (s.abortedSlot l w) := by
      rw [State.abortSlot_batches named slot]
      exact upd_get_self _ _ _
    obtain ⟨store, totals⟩ := s.charged_shift w named slot
    rw [State.abortedSlot_batch head body] at batch
    rw [charged] at line store totals
    have aborted := (congrArg LineTotals.aborted totals :)
    have massed := (congrArg LineTotals.mass totals :)
    refine ⟨s.abortSlot_sameBut l, batch, line.trans ?_, fun counts => aborted.trans ?_, fun dropped beyond =>
      aborted.trans ?_,
      fun dropped => ⟨store.trans ?_, massed.trans ?_⟩⟩
    · split
      · exact s.deliver_own l _
      · rfl
    · split
      next dropped =>
        have within := counts.resolve_left (by rw [dropped]; decide)
        rw [State.deliver_within_totals s l _ within]
      · rfl
    · rw [if_pos dropped, (State.deliver_beyond_totals s l _ beyond).2]
      rfl
    · rw [if_pos dropped]
    · rw [if_pos dropped]
  · refine ⟨fun waits => next_phase live slot past waits rfl, fun drops => next_phase live slot past drops rfl,
      fun settles => ?_⟩
    obtain ⟨store, mass, fed⟩ := State.weighSlot_tallied (s := s) (b := b) w
    have ended := State.endSlot_fed (s := s) (b := b) (z := s.fedSlot b w) State.chargeWeighed_time rfl
      (State.deliver_own _ _ _) State.chargeWeighed_own rfl
    rw [← State.weighSlot_eq] at ended
    obtain ⟨counted, last, slot', idle, lifetime⟩ := ended
    refine ⟨s.weighSlot b w, (s.weighed b).1, (s.weighed b).2, next_phase live slot past settles rfl, slot', idle rfl,
      lifetime,
      counted, fed.trans ?_, store, mass, ⟨_, last, rfl, rfl, rfl, rfl, rfl⟩, fun before read good => ?_, fun unread => ?_⟩
    · split
      next within =>
        rw [State.deliver_within_totals s l _ within]
      next beyond =>
        rw [(State.deliver_beyond_totals s l _ (Nat.not_le.1 beyond)).1]
        rfl
    · have mass : s.weighed b = _ := (congrArg (chargeMass · _ _) read).trans (chargeMass_good good _)
      rw [mass]
      exact ⟨rfl, rfl⟩
    · have mass : s.weighed b = _ := chargeMass_nominal unread _
      rw [mass]
      exact ⟨rfl, fun o rest slots revs nominal head body => congrArg Prod.snd (headCharge_batch head body)⟩

end

section
/-! The discrete inputs: the debounce and what an accepted change is handed to (R109, R110, R66), and O47. -/

set_option Elab.async false

namespace Sys2Proof.Machine

open Sys2Proof

/-! ### What an accepted change is handed to (Table 6-1) -/

section
variable (s : State) (n : Fin 24) (level : Bool)

theorem State.handInput_inputs : (s.handInput n level).field.inputs = s.field.inputs :=
  (((Keeps.refl false false false s).handInput n level).field.signals rfl).1

theorem State.handInput_unheard (other : n ∉ ([0, 2, 3, 19, 20, 22] : List (Fin 24))) : s.handInput n level = s := by
  have apart (m : Fin 24) (member : m ∈ ([0, 2, 3, 19, 20, 22] : List (Fin 24))) : n.val ≠ m.val :=
    fun same => other (Fin.ext same ▸ member)
  unfold State.handInput
  split
  next same => exact absurd same (apart 0 (by decide))
  next same => exact absurd same (apart 2 (by decide))
  next same => exact absurd same (apart 3 (by decide))
  next same => exact absurd same (apart 19 (by decide))
  next same => exact absurd same (apart 20 (by decide))
  next same => exact absurd same (apart 22 (by decide))
  · rfl

theorem State.handInput_flame (scanner : n = 2 ∨ n = 3) : s.handInput n level = s.voteFlame := by
  obtain rfl | rfl := scanner <;> rfl

section
variable {n level}

theorem State.handInput_released (input : n = 0 ∨ n = 22) (off : level = false) : s.handInput n level = s := by
  subst off
  obtain rfl | rfl := input <;> rfl

theorem State.handInput_estop (estop : n = 0) (on : level = true) : s.handInput n level = s.emergency .estopInput := by
  subst estop on
  rfl

theorem State.handInput_stop (stop : n = 22) (on : level = true) : s.handInput n level = s.stopCooler := by
  subst stop on
  rfl

end

theorem State.flameNow_eq :
    s.flameNow =
      match s.burner.cfg.voting with
      | .oneOfTwo => s.di 2 || s.di 3
      | .twoOfTwo => s.di 2 && s.di 3 := by
  unfold State.flameNow
  cases s.burner.cfg.voting <;> rfl

theorem State.voteFlame_burner :
    s.voteFlame.burner =
      { s.burner with
        flame :=
          match s.burner.cfg.voting with
          | .oneOfTwo => s.voteFlame.di 2 || s.voteFlame.di 3
          | .twoOfTwo => s.voteFlame.di 2 && s.voteFlame.di 3 } :=
  congrArg (fun flame => { s.burner with flame := flame }) s.flameNow_eq

theorem State.handInput_ready (b : Fin 2) : s.handInput (readyOf b) level = if level then s else s.readyLost b := by
  fin_cases b <;> rfl

theorem State.stopCooler_eq :
    s.stopCooler = if s.cooler.state ∈ [CoolerState.starting, .running, .surge] then s.beginStop else s := by
  unfold State.stopCooler
  cases s.cooler.state <;> rfl

end

/-! ### The doser ready input that goes inactive (R66) -/

section
variable {s t : State} {b : Fin 2}

theorem State.readyLost_unheard (waits : ∀ w, s.batches[b].slot = some w → w.phase ≠ .gateDelay) : s.readyLost b = s := by
  unfold State.readyLost
  split
  next w slot => exact if_neg (waits w slot)
  · rfl

/-- The record of a slot whose doser is lost in the gate delay. -/
def State.lostSlot (s : State) (b : Fin 2) (w : Slot) : SlotRecord :=
  { number := w.number, tag := (headCharge s.lines[lineOfBatch b]).1, openedAt := w.openedAt, endedAt := s.floorTime,
    outcome := .missed, reason := some .readyLost, credit := w.credit, mass := none, estimated := false }

theorem State.readyLost_eq {w : Slot} (slot : s.batches[b].slot = some w) (delays : w.phase = .gateDelay) :
    s.readyLost b = (s.modBatch b fun x => { x with slot := none }).endSlot b (s.lostSlot b w) := by
  have own : s.batches[b.val].slot = some w := slot
  simp only [State.readyLost, own, delays, if_true]
  rfl

end

/-! ### The raw level and its debounce (R109) -/

/-- The state in which an input takes a raw level, its debounced level with it (R109). -/
def State.takesLevel (s : State) (n : Fin 24) (level : Bool) : State :=
  s.modField fun f => { f with inputs := upd f.inputs n fun _ => { raw := level, level := level, dueAt := none } }

section
variable {s : State} {n : Fin 24} {level : Bool}

theorem State.modInput_twice (s : State) (n : Fin 24) (f g : Input → Input) :
    ((s.modField fun d => { d with inputs := upd d.inputs n f }).modField fun d => { d with inputs := upd d.inputs n g }) =
      s.modField fun d => { d with inputs := upd d.inputs n fun x => g (f x) } := by
  simp only [State.modField, upd_upd]

theorem State.modInput_congr {f g : Input → Input} (same : f s.field.inputs[n] = g s.field.inputs[n]) :
    (s.modField fun d => { d with inputs := upd d.inputs n f }) = s.modField fun d =>
      { d with inputs := upd d.inputs n g } :=
  congrArg (fun inputs => ({ s with field := { s.field with inputs := inputs } } : State)) (upd_congr same)

theorem State.accept_eq (raw : s.field.inputs[n].raw = level) :
    s.accept n level = (s.takesLevel n level).handInput n level := by
  refine congrArg (State.handInput · n level) (State.modInput_congr ?_)
  rw [raw]

theorem State.rawChange_same (same : s.field.inputs[n].raw = level) : s.rawChange n level = s := if_pos same

/-- A raw level that differs from what it was (R109). -/
theorem State.rawChange_eq (differs : s.field.inputs[n].raw ≠ level) :
    s.rawChange n level =
      if s.field.inputs[n].level = level then
        s.modField fun f => { f with inputs := upd f.inputs n fun d => { d with raw := level, dueAt := none } }
      else if debounceOf s.field.cfg n = 0 then (s.takesLevel n level).handInput n level
      else
        s.modField fun f =>
          { f with
            inputs :=
              upd f.inputs n fun d =>
                { d with raw := level, dueAt := some (s.floorTime + debounceOf s.field.cfg n) } } := by
  have accepts : (s.modField fun f => { f with inputs := upd f.inputs n fun d => { d with raw := level } }).accept n level =
      (s.takesLevel n level).handInput n level :=
    congrArg (State.handInput · n level) (s.modInput_twice n _ _)
  unfold State.rawChange
  refine (if_neg differs).trans ?_
  dsimp only
  rw [accepts, State.modInput_twice, State.modInput_twice]
  rfl

theorem debounceOf_eq (c : FieldSettings) (n : Fin 24) :
    debounceOf c n = if n = 0 then 5 else c.debounce.toList.getD (n.val - 1) 0 := by
  unfold debounceOf
  by_cases first : n = 0
  · exact (if_pos (congrArg Fin.val first)).trans (if_pos first).symm
  · exact (if_neg fun same => first (Fin.ext same)).trans (if_neg first).symm

/-- A raw level is taken where the device is not in a reset (R109, R175). -/
theorem exec_rawChange (live : s.resetRun = none) : exec (.diRawChange n level) s = .next
    (s.rawChange n level).settle.pump := by
  simp only [exec.eq_def, execDiRawChange, live, Option.isSome_none, Bool.false_eq_true, if_false]

end

end Sys2Proof.Machine

open Sys2Proof Sys2Proof.Machine

/-- Settles O47. -/
theorem inputsDebounced : Obligations.InputsDebounced := by
  intro s n level live d withInput time accepted
  have span : debounceOf s.field.cfg n = time := debounceOf_eq _ _
  let t : State := withInput fun _ => { raw := level, level := level, dueAt := none }
  have taken : s.takesLevel n level = t := rfl
  have takes : accepted (t.handInput n level) := by
    refine ⟨t.handInput_inputs n level, t.handInput_unheard n level, fun scanner => ?_, fun input off => ?_, fun estop on
      => ?_,
      fun stop on => ?_, fun b ready => ?_⟩
    · rw [State.handInput_flame t n level scanner]
      exact ⟨t.modBurner_sameBut _ (by decide), t.voteFlame_burner⟩
    · exact t.handInput_released input off
    · rw [State.handInput_estop t estop on]
      exact ⟨t.emergency_counted .estopInput, t.emergency_lockedOut .estopInput⟩
    · rw [State.handInput_stop t stop on, State.stopCooler_eq]
      refine ⟨fun rests => if_neg fun active => ?_, fun active => ?_⟩
      · have either : s.cooler.state ∈ [CoolerState.starting, .running, .surge] := active
        revert rests either
        cases s.cooler.state <;> decide
      · rw [if_pos active]
        exact ⟨_, t.beginStop_stops⟩
    · intro x l
      have handed : t.handInput n level = if level then t else t.readyLost b :=
        (congrArg (t.handInput · level) ready).trans (t.handInput_ready level b)
      rw [handed]
      refine ⟨fun still => ?_, fun w off slot delays => ?_⟩
      · split
        · rfl
        next off => exact State.readyLost_unheard (still.resolve_left off)
      · have lost := State.readyLost_eq (s := t) slot delays
        have own : (t.modBatch b fun x => { x with slot := none }).batches[b] = { x with slot := none } :=
          t.modBatch_own b _
        obtain ⟨counted, last, total⟩ := State.endSlot_missed (s := s) (t := t.modBatch b fun x => { x with slot := none })
          (z := t.lostSlot b w) rfl rfl own rfl
        rw [if_neg (by rw [off]; decide), lost]
        exact ⟨counted, total, _, last, rfl, rfl, rfl, rfl, rfl, rfl, rfl, fun o rest slots revs mass head body =>
          congrArg Prod.fst (headCharge_batch head body)⟩
  refine ⟨fun same => ?_, fun differs returns => ?_, fun differs apart delays => ?_, fun differs apart instant => ?_,
    fun at_ timer past same => ?_⟩
  · rw [exec_rawChange live, State.rawChange_same same]
  · rw [exec_rawChange live, State.rawChange_eq differs, if_pos returns]
    rfl
  · rw [exec_rawChange live, State.rawChange_eq differs, if_neg apart, if_neg (span ▸ delays), span]
    rfl
  · refine ⟨_, ?_, takes⟩
    rw [exec_rawChange live, State.rawChange_eq differs, if_neg apart, if_pos (span.trans instant), taken]
  · refine ⟨_, next_settled live (isDue_of timer past) ?_, takes⟩
    have raw : s.field.inputs[n.val].raw = level := same
    rw [raw, State.accept_eq same, taken]
end

section
/-! The latch of an output diagnostic record and what its owner makes of it (R40, R100, R101, R117). -/

set_option Elab.async false

namespace Sys2Proof.Machine

open Sys2Proof

/-! ### A valve that is commanded (R118) -/

section
variable (s : State) (v : Fin 7) (toOpen : Bool)

theorem State.commandValve_field :
    (s.commandValve v toOpen).field = { s.field with valves := (s.commandValve v toOpen).field.valves } := by
  unfold State.commandValve
  split <;> rfl

theorem State.commandValve_valve (w : Fin 7) (other : w ≠ v) :
    (s.commandValve v toOpen).field.valves[w] = s.field.valves[w] := by
  unfold State.commandValve
  split
  · rfl
  · exact upd_get_ne _ _ _ _ other.symm

end

/-! ### A line that enters FAULT (R40) -/

section
variable (s : State) (l : Fin 6)

/-- The line of a fault before its head ends: in FAULT with its gate CLOSED and its valve commanded closed. -/
def State.faulting (s : State) (l : Fin 6) : State :=
  (((s.abortSlot l).modLine l fun r => { r.enter .fault with requested := 0, shutRamp := none }).closeGate l).commandValve
    (svOf l) false

/-- The line of a fault whose active head has ended ABORTED_FAULT. -/
def State.faultedHead (s : State) (l : Fin 6) : State :=
  if s.lines[l.val].state = .admitting ∨ s.lines[l.val].state = .opened then (s.faulting l).retireHead l .abortedFault
  else s.faulting l

theorem State.faultLine_eq :
    s.faultLine l =
      ((((s.faultedHead l).takeUp l (s.faultedHead l).lines[l.val].queue).setReason l .state).addEvent
        (.lineFault l)).evaluate := rfl

theorem State.faultLine_field : (s.faultLine l).field = (s.commandValve (svOf l) false).field := by
  have faulting : (s.faulting l).field = (s.commandValve (svOf l) false).field :=
    State.commandValve_field_congr (by simp) (by simp) _ _
  rw [State.faultLine_eq, ← faulting]
  simp only [State.evaluate_frame, State.addEvent_frame, State.setReason_frame, State.takeUp_frame, State.faultedHead]
  split
  · simp
  · rfl

theorem State.faulting_still : (s.faulting l).lines[l].still = (.fault, 0, false, none) := by
  have lines : (s.faulting l).lines =
      ((s.abortSlot l).modLine l fun r => { r.enter .fault with requested := 0, shutRamp := none }).lines := by
    simp [State.faulting]
  have own : (s.faulting l).lines[l] =
      { (s.abortSlot l).lines[l].enter .fault with requested := 0, shutRamp := none } :=
    (congrArg (fun v : Vector Line 6 => v[l]) lines).trans (State.modLine_own _ _ _)
  exact (congrArg Line.still own :)

theorem State.faultedHead_still : (s.faultedHead l).lines[l].still = (.fault, 0, false, none) := by
  unfold State.faultedHead
  split
  · cases head : (s.faulting l).lines[l.val].queue with
    | nil =>
      have none : (s.faulting l).retireHead l .abortedFault = s.faulting l := by simp only [State.retireHead, head]
      rw [none, State.faulting_still]
    | cons o rest => exact (State.retireHead_still head .abortedFault).1.trans (s.faulting_still l)
  · exact s.faulting_still l

theorem Line.still_faulted {r : Line} (still : r.still = (.fault, 0, false, none)) : r.state = .fault ∧ r.requested = 0 :=
  ⟨(congrArg Prod.fst still :), (congrArg (fun x => x.2.1) still :)⟩

theorem Line.still_shut {r : Line} (still : r.still = (.fault, 0, false, none)) : r.state ≠ .opened := by
  rw [(Line.still_faulted still).1]
  decide

theorem State.faultLine_own : (s.faultLine l).lines[l].state = .fault ∧ (s.faultLine l).lines[l].requested = 0 := by
  have ended := s.faultedHead_still l
  have taken : ((s.faultedHead l).takeUp l (s.faultedHead l).lines[l.val].queue).lines[l].still = (.fault, 0, false, none) :=
    (State.takeUp_still l _ _ rfl (Line.still_shut ended)).1.trans ended
  have told (t : State) : ((t.setReason l .state).addEvent (.lineFault l)).lines[l].still = t.lines[l].still :=
    (congrArg Line.still (t.modLine_own l fun x => { x with stateFlag := true }) :)
  have reasoned := (told _).trans taken
  rw [State.faultLine_eq]
  exact Line.still_faulted ((State.evaluate_still (Line.still_shut reasoned)).trans reasoned)

theorem State.retireHead_others (s : State) (l m : Fin 6) (other : m ≠ l) (outcome : OrderOutcome) :
    (s.retireHead l outcome).lines[m].core = s.lines[m].core := by
  cases head : s.lines[l.val].queue with
  | nil => simp only [State.retireHead, head]
  | cons o rest => exact (State.retireHead_falls head outcome).others m other

theorem State.faultLine_others (m : Fin 6) (other : m ≠ l) : (s.faultLine l).lines[m].core = s.lines[m].core := by
  have faulting : (s.faulting l).lines[m] = s.lines[m] := by
    have lines : (s.faulting l).lines =
        upd s.lines l fun _ => { (s.abortSlot l).lines[l].enter .fault with requested := 0, shutRamp := none } := by
      rw [← s.abortSlot_upd l fun r => { r.enter .fault with requested := 0, shutRamp := none }]
      simp [State.faulting, State.modLine]
    exact (congrArg (fun v : Vector Line 6 => v[m]) lines).trans (upd_get_ne _ _ _ _ (Ne.symm other))
  have ended : (s.faultedHead l).lines[m].core = s.lines[m].core := by
    unfold State.faultedHead
    split
    · rw [State.retireHead_others _ _ _ other, faulting]
    · rw [faulting]
  have told (t : State) : ((t.setReason l .state).addEvent (.lineFault l)).lines[m] = t.lines[m] :=
    upd_get_ne _ _ _ _ (Ne.symm other)
  rw [State.faultLine_eq, State.evaluate_core, told, (State.takeUp_falls l _ _ rfl).others m other, ended]

theorem Requests.faultLine : Requests s (s.faultLine l) := by
  have shut : Requests s (s.faulting l) := ((((Requests.refl s).abortSlot l).modLine l _).closeGate l).commandValve _ _
  have ended : Requests s (s.faultedHead l) := by
    unfold State.faultedHead
    split
    · exact shut.retireHead l _
    · exact shut
  exact (((ended.takeUp l _).setReason l .state).addEvent _).evaluate

theorem State.faultLine_closed : (s.faultLine l).valveOpen (svOf l) = false := by simp

end

/-! ### Records and their outputs (Table 6-6) -/

theorem outputOf_valve (v : Fin 7) : outputOf (recordOfValve v) = .valve v := by fin_cases v <;> rfl

theorem outputOf_grate (g : Fin 4) : outputOf (recordOfGrate g) = .grate g := by fin_cases g <;> rfl

theorem outputOf_fan (k : Fin 12) : outputOf (recordOfFan k) = .fan k := by fin_cases k <;> rfl

theorem record_cases (r : Fin 23) :
    (∃ v, r = recordOfValve v) ∨ (∃ g, r = recordOfGrate g) ∨ ∃ k, r = recordOfFan k := by
  revert r
  decide

theorem recordOfValve_inj {v w : Fin 7} (same : recordOfValve v = recordOfValve w) : v = w :=
  Fin.ext (congrArg Fin.val same :)

theorem recordOfFan_inj {j k : Fin 12} (same : recordOfFan j = recordOfFan k) : j = k := by
  have value : j.val + 11 = k.val + 11 := congrArg Fin.val same
  exact Fin.ext (Nat.add_right_cancel value)

theorem recordOfValve_ne_grate (v : Fin 7) (g : Fin 4) : recordOfValve v ≠ recordOfGrate g := by
  revert v g
  decide

theorem recordOfValve_ne_fan (v : Fin 7) (k : Fin 12) : recordOfValve v ≠ recordOfFan k := by
  revert v k
  decide

theorem recordOfGrate_ne_fan (g : Fin 4) (k : Fin 12) : recordOfGrate g ≠ recordOfFan k := by
  revert g k
  decide

theorem lineOfValve_sv (l : Fin 6) : lineOfValve (svOf l) = some l := by
  revert l
  decide

theorem sv_of_lineOfValve {v : Fin 7} {l : Fin 6} (line : lineOfValve v = some l) : v = svOf l := by
  revert v l
  decide

/-! ### A record that latches (R117) -/

theorem DiagState.latch_holds (d : DiagState) (k : FaultKind) : ∃ ks, d.latch k = .fault ks ∧ ks.has k = true := by
  cases d <;> cases k <;> exact ⟨_, rfl, rfl⟩

theorem DiagState.holds_iff (d : DiagState) (k : FaultKind) : d.holds k = true ↔ ∃ ks, d = .fault ks ∧ ks.has k = true := by
  cases d <;> simp [DiagState.holds]

/-- The state in which a record has latched, before its owner is handed the latch. -/
def State.latched (s : State) (r : Fin 23) (k : FaultKind) : State :=
  (if (s.record r).holds k then s else s.raise .diag).modField fun f =>
    { f with records := upd f.records r fun d => { d with state := d.state.latch k } }

theorem State.latch_eq (s : State) (r : Fin 23) (k : FaultKind) : s.latch r k = (s.latched r k).handLatch r k := rfl

section
variable (s : State) (r : Fin 23) (k : FaultKind)

theorem State.latched_sameBut : SameBut [.field, .attention] s (s.latched r k) := by
  unfold State.latched
  split
  · exact s.modField_sameBut _ (by decide)
  · exact (s.raise_sameBut _ (by decide)).trans (State.modField_sameBut _ _ (by decide))

theorem State.latched_field :
    (s.latched r k).field =
      { s.field with records := upd s.field.records r fun d => { d with state := d.state.latch k } } := by
  unfold State.latched
  split <;> rfl

theorem State.latched_requests : Requests s (s.latched r k) := by
  unfold State.latched
  split
  · exact Requests.refl s
  · exact (Requests.refl s).raise .diag

theorem State.latched_request (new : (s.record r).holds k = false) :
    (s.latched r k).attention.request.getLsbD 6 = true := by
  unfold State.latched
  rw [new]
  exact s.raise_sets .diag

theorem State.lineLatch_cases (l : Fin 6) : s.lineLatch l k = s ∨ s.lineLatch l k = s.faultLine l := by
  unfold State.lineLatch
  split
  · exact .inr rfl
  · exact .inr rfl
  · exact .inr rfl
  · exact .inr rfl
  · exact .inl rfl

theorem State.lineLatch_faults {l : Fin 6}
    (hears : s.lines[l].state = .shutting ∧ k ≠ .noMotion ∨
      (s.lines[l].state = .admitting ∨ s.lines[l].state = .opened) ∧ k = .failToOpen) :
    s.lineLatch l k = s.faultLine l := by
  unfold State.lineLatch
  obtain ⟨shutting, motion⟩ | ⟨admitting | opened, rfl⟩ := hears
  · have state : s.lines[l.val].state = .shutting := shutting
    rw [state]
    cases k with
    | failToOpen => rfl
    | failToClose => rfl
    | noMotion => exact absurd rfl motion
  · have state : s.lines[l.val].state = .admitting := admitting
    rw [state]
  · have state : s.lines[l.val].state = .opened := opened
    rw [state]

theorem State.handLatch_line (l : Fin 6) : s.handLatch (recordOfValve (svOf l)) k = s.lineLatch l k := by
  rw [State.handLatch, outputOf_valve]
  simp only [lineOfValve_sv]

theorem State.handLatch_valve (v : Fin 7) :
    s.handLatch (recordOfValve v) k = s ∨ ∃ l, v = svOf l ∧ s.handLatch (recordOfValve v) k = s.faultLine l := by
  cases line : lineOfValve v with
  | none =>
    refine .inl ?_
    rw [State.handLatch, outputOf_valve]
    simp only [line]
  | some l =>
    have own := sv_of_lineOfValve line
    subst own
    rw [State.handLatch_line]
    exact (s.lineLatch_cases k l).imp id fun faults => ⟨l, rfl, faults⟩

theorem State.handLatch_grate (g : Fin 4) : s.handLatch (recordOfGrate g) k = s.faultGrate g := by
  rw [State.handLatch, outputOf_grate]

theorem State.handLatch_fan (j : Fin 12) :
    s.handLatch (recordOfFan j) k = s.modChamber j fun c => { c with fault := true } := by
  rw [State.handLatch, outputOf_fan]

/-- What an owner does at a latch leaves the records and the masks. -/
theorem State.handLatch_field : (s.handLatch r k).field = { s.field with valves := (s.handLatch r k).field.valves } := by
  obtain ⟨v, rfl⟩ | ⟨g, rfl⟩ | ⟨j, rfl⟩ := record_cases r
  · obtain same | ⟨l, -, faults⟩ := s.handLatch_valve k v
    · rw [same]
    · rw [faults, State.faultLine_field, ← State.commandValve_field]
  · rw [State.handLatch_grate, State.faultGrate]
    split <;> rfl
  · rw [State.handLatch_fan]
    rfl

theorem State.handLatch_requests : Requests s (s.handLatch r k) := by
  obtain ⟨v, rfl⟩ | ⟨g, rfl⟩ | ⟨j, rfl⟩ := record_cases r
  · obtain same | ⟨l, -, faults⟩ := s.handLatch_valve k v
    · rw [same]
      exact .refl s
    · rw [faults]
      exact Requests.faultLine s l
  · rw [State.handLatch_grate, State.faultGrate]
    split
    · exact .refl s
    · exact ((Requests.refl s).of_same (u := s.modGrate g _) rfl).raise .cooler
  · rw [State.handLatch_fan]
    exact (Requests.refl s).of_same rfl

theorem State.latch_requests : Requests s (s.latch r k) :=
  (s.latched_requests r k).trans (State.handLatch_requests _ r k)

/-- A latch of a new kind is requested (R117). -/
theorem State.latch_request (new : (s.record r).holds k = false) : (s.latch r k).attention.request.getLsbD 6 = true :=
  State.handLatch_requests _ r k 6 (s.latched_request r k new)

theorem State.latch_records :
    (s.latch r k).field.records = upd s.field.records r fun d => { d with state := d.state.latch k } := by
  have handed := (congrArg Field.records (State.handLatch_field (s.latched r k) r k) :)
  exact handed.trans (congrArg Field.records (s.latched_field r k) :)

theorem State.latch_record : (s.latch r k).record r = (s.record r).latch k := by
  unfold State.record
  rw [State.latch_records]
  exact congrArg DiagRecord.state (upd_get_self _ _ _)

theorem State.latch_masks :
    (s.latch r k).field.openCheck = s.field.openCheck ∧ (s.latch r k).field.closeCheck = s.field.closeCheck ∧
      (s.latch r k).field.motionCheck = s.field.motionCheck := by
  have handed := State.handLatch_field (s.latched r k) r k
  have field := s.latched_field r k
  exact ⟨(congrArg Field.openCheck handed :).trans (congrArg Field.openCheck field :),
    (congrArg Field.closeCheck handed :).trans (congrArg Field.closeCheck field :),
    (congrArg Field.motionCheck handed :).trans (congrArg Field.motionCheck field :)⟩

/-- A fan whose record latches has its flag set (R101). -/
theorem State.latch_fan (j : Fin 12) :
    (s.latch (recordOfFan j) k).cooler =
        { s.cooler with chambers := upd s.cooler.chambers j fun c => { c with fault := true } } ∧
      SameBut [.cooler, .field, .attention] s (s.latch (recordOfFan j) k) := by
  have latched := s.latched_sameBut (recordOfFan j) k
  have cooler : (s.latched (recordOfFan j) k).cooler = s.cooler := latched .cooler (by decide)
  rw [State.latch_eq, State.handLatch_fan]
  refine ⟨?_, (latched.mono (by decide)).trans (State.modCooler_sameBut _ _ (by decide))⟩
  rw [← cooler]
  rfl

theorem State.faultGrate_sameBut (g : Fin 4) : SameBut [.cooler, .attention] s (s.faultGrate g) := by
  unfold State.faultGrate
  split
  · exact .refl _ _
  · exact (s.modCooler_sameBut _ (by decide)).trans (State.raise_sameBut _ _ (by decide))

theorem State.latch_grate (g : Fin 4) :
    s.latch (recordOfGrate g) k = (s.latched (recordOfGrate g) k).faultGrate g := by
  rw [State.latch_eq, State.handLatch_grate]

/-- The line of a valve whose record latches a kind that its state hears (R40). -/
theorem State.latch_line {l : Fin 6}
    (hears : s.lines[l].state = .shutting ∧ k ≠ .noMotion ∨
      (s.lines[l].state = .admitting ∨ s.lines[l].state = .opened) ∧ k = .failToOpen) :
    (s.latch (recordOfValve (svOf l)) k).lines[l].state = .fault ∧
      (s.latch (recordOfValve (svOf l)) k).lines[l].requested = 0 ∧
        (s.latch (recordOfValve (svOf l)) k).valveOpen (svOf l) = false := by
  have lines : (s.latched (recordOfValve (svOf l)) k).lines = s.lines :=
    s.latched_sameBut (recordOfValve (svOf l)) k .lines (by decide)
  have faults : s.latch (recordOfValve (svOf l)) k = (s.latched (recordOfValve (svOf l)) k).faultLine l := by
    rw [State.latch_eq, State.handLatch_line, State.lineLatch_faults]
    rw [lines]
    exact hears
  obtain ⟨state, requested⟩ := State.faultLine_own (s.latched (recordOfValve (svOf l)) k) l
  rw [faults]
  exact ⟨state, requested, State.faultLine_closed _ l⟩

end

end Sys2Proof.Machine
end

section
/-! The drive watches and the valve watches: what a failed check latches, and what it hands on where the check is masked
(R37,
R39, R40, R100, R101, R118 to R120), and O44. -/

set_option Elab.async false

namespace Sys2Proof.Machine

open Sys2Proof

/-! ### A latch where the check applies (R117, R120) -/

section
variable {s : State} {r : Fin 23} {k : FaultKind}

theorem State.checkApplies_iff :
    s.checkApplies r k = true ↔ s.field.records[r].checked = true ∧ s.kindChecked k = true :=
  Bool.and_eq_true _ _ ▸ Iff.rfl

/-- A record that has latched holds the kind, with a DIAG request where it did not before. -/
theorem State.latch_told (s : State) (r : Fin 23) (k : FaultKind) :
    (∃ ks, (s.latch r k).record r = .fault ks ∧ ks.has k = true) ∧
      ((¬∃ ks, s.record r = .fault ks ∧ ks.has k = true) → (s.latch r k).attention.request.getLsbD 6 = true) := by
  refine ⟨?_, fun new => s.latch_request r k (Bool.not_eq_true _ ▸ fun held => new ((DiagState.holds_iff _ _).1 held))⟩
  rw [State.latch_record]
  exact DiagState.latch_holds _ _

end

/-! ### The motion watch of a grate (R100) -/

section
variable {s : State} {g : Fin 4}

theorem State.modGrate_own (s : State) (g : Fin 4) (f : Grate → Grate) :
    (s.modGrate g f).cooler.grates[g] = f s.cooler.grates[g] := upd_get_self _ _ _

theorem State.faultGrate_enters (other : s.cooler.grates[g].state ≠ .fault) :
    s.faultGrate g = (s.modGrate g fun r => { r with state := .fault, commanded := 0, watch := none }).raise .cooler :=
  if_neg other

theorem State.faultGrate_state (s : State) (g : Fin 4) : (s.faultGrate g).cooler.grates[g].state = .fault := by
  by_cases fault : s.cooler.grates[g].state = .fault
  · have same : s.faultGrate g = s := if_pos fault
    rw [same]
    exact fault
  · rw [State.faultGrate_enters fault]
    exact (congrArg Grate.state (s.modGrate_own g _) :)

/-- A grate that was not in FAULT is stopped by a latch on its record, with a COOLER request. -/
theorem State.faultGrate_stops (other : s.cooler.grates[g].state ≠ .fault) :
    (s.faultGrate g).cooler.grates[g].commanded = 0 ∧ (s.faultGrate g).cooler.grates[g].watch = none ∧
      (s.faultGrate g).attention.request.getLsbD 4 = true := by
  have own := s.modGrate_own g fun r => { r with state := .fault, commanded := 0, watch := none }
  rw [State.faultGrate_enters other]
  exact ⟨(congrArg Grate.commanded own :), (congrArg Grate.watch own :), State.raise_sets _ .cooler⟩

theorem State.watchFailed_latches (applies : s.checkApplies (recordOfGrate g) .noMotion = true) :
    s.watchFailed g = s.latch (recordOfGrate g) .noMotion := if_pos applies

theorem State.watchFailed_masked (other : ¬s.checkApplies (recordOfGrate g) .noMotion = true) :
    s.watchFailed g = s.modGrate g fun r => { r with watch := some s.floorTime } := if_neg other

theorem State.latch_grate_sameBut (s : State) (g : Fin 4) (k : FaultKind) :
    SameBut [.cooler, .field, .attention] s (s.latch (recordOfGrate g) k) := by
  rw [State.latch_grate]
  exact ((s.latched_sameBut _ k).mono (by decide)).trans ((State.faultGrate_sameBut _ g).mono (by decide))

theorem State.watchFailed_sameBut (s : State) (g : Fin 4) : SameBut [.cooler, .field, .attention] s (s.watchFailed g) := by
  unfold State.watchFailed
  split
  · exact s.latch_grate_sameBut g _
  · exact s.modCooler_sameBut _ (by decide)

/-- A latch on a grate's record puts the grate in FAULT (R100). -/
theorem State.latch_grate_stops (s : State) (g : Fin 4) (k : FaultKind) :
    (s.latch (recordOfGrate g) k).cooler.grates[g].state = .fault ∧
      (s.cooler.grates[g].state ≠ .fault →
        (s.latch (recordOfGrate g) k).cooler.grates[g].commanded = 0 ∧
          (s.latch (recordOfGrate g) k).cooler.grates[g].watch = none ∧
            (s.latch (recordOfGrate g) k).attention.request.getLsbD 4 = true) := by
  have cooler : (s.latched (recordOfGrate g) k).cooler = s.cooler := s.latched_sameBut _ k .cooler (by decide)
  rw [State.latch_grate]
  refine ⟨State.faultGrate_state _ g, fun other => State.faultGrate_stops ?_⟩
  rw [cooler]
  exact other

/-! ### The low current of a fan (R101) -/

/-- The state in which a low-current timer has expired. -/
def State.lowExpires (s : State) (k : Fin 12) : State := s.modChamber k fun r => { r with lowAt := none, lowExpired := true }

theorem State.lowExpires_own (s : State) (k : Fin 12) :
    (s.lowExpires k).cooler.chambers[k] = { s.cooler.chambers[k] with lowAt := none, lowExpired := true } :=
  upd_get_self _ _ _

theorem State.currentFailed_latches {k : Fin 12} (applies : s.checkApplies (recordOfFan k) .noMotion = true) :
    s.currentFailed k = (s.lowExpires k).latch (recordOfFan k) .noMotion := if_pos applies

theorem State.currentFailed_masked {k : Fin 12} (other : ¬s.checkApplies (recordOfFan k) .noMotion = true) :
    s.currentFailed k = s.lowExpires k := if_neg other

theorem State.latch_fan_own (s : State) (j : Fin 12) (k : FaultKind) :
    (s.latch (recordOfFan j) k).cooler.chambers[j] = { s.cooler.chambers[j] with fault := true } := by
  rw [(s.latch_fan k j).1]
  exact upd_get_self _ _ _

theorem Grate.watchAt_of {r : Grate} {t now : Nat} (watch : r.watch = some t)
    (past : t + max 10000 (1800000 / r.commanded) ≤ now) : isDue r.watchAt now = true := by
  refine isDue_of (t := t + watchLimit r.commanded) ?_ past
  rw [Grate.watchAt, watch]
  rfl

end

/-! ### The proof of a valve (R37, R39, R118, R119) -/

section
variable {s : State} {n : Fin 7}

/-- A valve watch in a phase that is not PROVING, its timer stopped. -/
def State.inPhase (s : State) (n : Fin 7) (phase : WatchPhase) : State :=
  s.modField fun f => { f with valves := upd f.valves n fun w => { w with phase := phase, proofAt := none } }

theorem State.setPhase_eq (s : State) (n : Fin 7) {phase : WatchPhase} (other : phase ≠ .proving) :
    s.setPhase n phase = s.inPhase n phase := by
  simp only [State.setPhase, State.inPhase, if_neg other]

theorem State.inPhase_openCommand (s : State) (n : Fin 7) (phase : WatchPhase) :
    (s.inPhase n phase).field.valves[n].openCommand = s.field.valves[n].openCommand :=
  (congrArg Valve.openCommand (upd_get_self s.field.valves n fun w => { w with phase := phase, proofAt := none }) :)

/-- The line awaits the proof of its valve. -/
def Line.awaits (r : Line) (toOpen : Bool) : Prop :=
  (r.state = .admitting ∧ toOpen = true) ∨ (r.state = .shutting ∧ toOpen = false)

theorem State.lineProof_deaf {l : Fin 6} {toOpen : Bool} (deaf : ¬s.lines[l].awaits toOpen) : s.lineProof l toOpen = s := by
  unfold State.lineProof
  split
  next state => exact absurd (.inl ⟨state, rfl⟩) deaf
  next state => exact absurd (.inr ⟨state, rfl⟩) deaf
  · rfl

theorem State.lineProof_field (l : Fin 6) (toOpen : Bool) : (s.lineProof l toOpen).field = s.field := by
  unfold State.lineProof
  split
  · simp
  · simp [State.enterShut]
  · rfl

theorem State.enterShut_state (s : State) (l : Fin 6) : (s.enterShut l).lines[l].state = .shut := by
  have core := ((s.modLine l fun r => r.enter .shut).addEvent (.lineShut l)).evaluate_core l
  exact (congrArg Line.state core :).trans (congrArg Line.state (s.modLine_own l fun r => r.enter .shut) :)

theorem State.openLine_state (s : State) (l : Fin 6) : (s.openLine l).lines[l].state = .opened :=
  (congrFun (s.openLine_lineState l) l).trans (Function.update_self _ _ _)

/-- A line that awaits the proof of its valve goes on at it (R37, R39). -/
theorem State.lineProof_awaited {l : Fin 6} {toOpen : Bool} (awaits : s.lines[l].awaits toOpen) :
    (s.lineProof l toOpen).lines[l].state = if toOpen = true then LineState.opened else .shut := by
  obtain ⟨state, rfl⟩ | ⟨state, rfl⟩ := awaits
  · have opens : s.lineProof l true = s.openLine l := by
      have own : s.lines[l.val].state = .admitting := state
      simp only [State.lineProof, own]
    rw [opens]
    exact s.openLine_state l
  · have shuts : s.lineProof l false = s.enterShut l := by
      have own : s.lines[l.val].state = .shutting := state
      simp only [State.lineProof, own]
    rw [shuts]
    exact s.enterShut_state l

theorem State.handProof_line (s : State) (l : Fin 6) :
    s.handProof (svOf l) = s.lineProof l s.field.valves[svOf l].openCommand := by
  unfold State.handProof
  simp only [lineOfValve_sv]
  rfl

theorem State.handProof_field (s : State) (n : Fin 7) : (s.handProof n).field = s.field := by
  unfold State.handProof
  split
  · exact State.lineProof_field _ _
  · rfl

theorem State.handProof_deaf
    (deaf : ∀ l : Fin 6, n = svOf l → ¬s.lines[l].awaits s.field.valves[n].openCommand) : s.handProof n = s := by
  unfold State.handProof
  split
  next l line => exact State.lineProof_deaf (deaf l (sv_of_lineOfValve line))
  · rfl

/-! ### A proof that fails, and a limit that leaves -/

/-- The mask of the check on a valve commanded to a position. -/
def Field.valveMask (f : Field) (toOpen : Bool) : Bool := if toOpen then f.openCheck else f.closeCheck

/-- A fault of a valve commanded to a position is held. -/
def FaultKinds.ofValve (toOpen : Bool) : FaultKinds → Bool :=
  if toOpen then FaultKinds.failToOpen else FaultKinds.failToClose

theorem FaultKinds.has_valve (ks : FaultKinds) (toOpen : Bool) : ks.has (valveKind toOpen) = ofValve toOpen ks := by
  cases toOpen <;> rfl

theorem State.valveApplies_iff (s : State) (n : Fin 7) (toOpen : Bool) :
    s.checkApplies (recordOfValve n) (valveKind toOpen) = true ↔
      s.field.records[recordOfValve n].checked = true ∧ s.field.valveMask toOpen = true := by
  rw [State.checkApplies_iff]
  cases toOpen <;> rfl

/-- What is handed on with the latch of a valve's record that was in PROVING or PROVEN. -/
theorem State.unproven_told (s : State) (n : Fin 7) (toOpen : Bool) :
    (∃ ks, ((s.inPhase n .unproven).latch (recordOfValve n) (valveKind toOpen)).record (recordOfValve n) = .fault ks ∧
        FaultKinds.ofValve toOpen ks = true) ∧
      ((¬∃ ks, s.record (recordOfValve n) = .fault ks ∧ FaultKinds.ofValve toOpen ks = true) →
        ((s.inPhase n .unproven).latch (recordOfValve n) (valveKind toOpen)).attention.request.getLsbD 6 = true) ∧
      ∀ l : Fin 6, n = svOf l →
        (s.lines[l].state = .shutting ∨ toOpen = true ∧ (s.lines[l].state = .admitting ∨ s.lines[l].state = .opened)) →
          ((s.inPhase n .unproven).latch (recordOfValve n) (valveKind toOpen)).lines[l].state = .fault ∧
            ((s.inPhase n .unproven).latch (recordOfValve n) (valveKind toOpen)).lines[l].requested = 0 ∧
              ((s.inPhase n .unproven).latch (recordOfValve n) (valveKind toOpen)).valveOpen n = false := by
  obtain ⟨held, new⟩ := (s.inPhase n .unproven).latch_told (recordOfValve n) (valveKind toOpen)
  simp only [FaultKinds.has_valve] at held new
  refine ⟨held, new, fun l own hears => ?_⟩
  subst own
  refine State.latch_line (s := s.inPhase (svOf l) .unproven) (valveKind toOpen) ?_
  refine hears.imp (fun shutting => ⟨shutting, ?_⟩) fun ⟨opens, state⟩ => ⟨state, ?_⟩
  · cases toOpen <;> decide
  · rw [opens]
    rfl

theorem State.unprove_latches {masked : State → State} (toOpen : Bool) (command : s.field.valves[n].openCommand = toOpen)
    (applies : s.field.records[recordOfValve n].checked = true ∧ s.field.valveMask toOpen = true) :
    s.unprove n masked = (s.inPhase n .unproven).latch (recordOfValve n) (valveKind toOpen) := by
  have checked : (s.inPhase n .unproven).checkApplies (recordOfValve n) (valveKind s.field.valves[n.val].openCommand) =
    true :=
    command ▸ (s.valveApplies_iff n toOpen).2 applies
  have kind : valveKind s.field.valves[n.val].openCommand = valveKind toOpen := congrArg valveKind command
  unfold State.unprove
  rw [s.setPhase_eq n (by decide : WatchPhase.unproven ≠ .proving)]
  refine (if_pos checked).trans ?_
  rw [kind]

theorem State.unprove_masked {masked : State → State} (toOpen : Bool) (command : s.field.valves[n].openCommand = toOpen)
    (other : ¬(s.field.records[recordOfValve n].checked = true ∧ s.field.valveMask toOpen = true)) :
    s.unprove n masked = masked (s.inPhase n .unproven) := by
  have checked : ¬(s.inPhase n .unproven).checkApplies (recordOfValve n) (valveKind s.field.valves[n.val].openCommand) =
    true :=
    fun applies => other ((s.valveApplies_iff n toOpen).1 (command ▸ applies))
  unfold State.unprove
  rw [s.setPhase_eq n (by decide : WatchPhase.unproven ≠ .proving)]
  exact if_neg checked

theorem State.watchValve_unproves (proven : s.field.valves[n].phase = .proven) (lost : s.limitLost n = true) :
    s.watchValve n = s.unprove n fun s => s := by
  have phase : s.field.valves[n.val].phase = .proven := proven
  simp only [State.watchValve, phase, lost, if_true]

theorem Valve.proofDue_of {w : Valve} {t now : Nat} (proving : w.phase = .proving) (timer : w.proofAt = some t)
    (past : t ≤ now) : w.proofDue now = true := by
  rw [Valve.proofDue, decide_eq_true proving, isDue_of timer past]
  rfl

/-! ### The limits of a valve (R118, R119) -/

/-- The limits of valve `n`, the open limit of PV read from its closed limit. -/
def State.openIn (s : State) (n : Fin 7) : Bool :=
  if h : n.val < 6 then s.di ⟨n.val + 10, by omega⟩ else !s.di (closedLimit n)

theorem State.commandShown_eq (s : State) (n : Fin 7) :
    s.commandShown n =
      if s.field.valves[n].openCommand then s.openIn n && !s.di (closedLimit n) else s.di (closedLimit n) := by
  have shown : s.openShown n = (s.openIn n && !s.di (closedLimit n)) := by
    unfold State.openShown State.openIn openLimit State.closedShown
    by_cases line : n.val < 6 <;> simp [line]
  unfold State.commandShown
  rw [shown]
  rfl

theorem State.limitLost_eq (s : State) (n : Fin 7) :
    s.limitLost n = if s.field.valves[n].openCommand then !s.openIn n else !s.di (closedLimit n) := by
  unfold State.limitLost State.openIn openLimit State.closedShown
  by_cases line : n.val < 6 <;> simp [line]

end

end Sys2Proof.Machine

open Sys2Proof Sys2Proof.Machine

/-- Settles O44. -/
theorem watchesLatch : Obligations.WatchesLatch := by
  intro s live applies holds
  have unapplied {r : Fin 23} {k : FaultKind} {mask : Bool} (kind : s.kindChecked k = mask) (other : ¬applies r mask) :
      ¬s.checkApplies r k = true := by
    rw [State.checkApplies_iff, kind]
    exact other
  refine ⟨fun g => ?_, fun g t watch past => ?_, fun k t low past => ?_, fun n t proving timer past => ?_, fun n => ?_⟩
  · exact ⟨s.stroke g, next_event_settled live rfl, (s.modField_sameBut _ (by decide)).trans
      ((State.modCooler_sameBut _ _ (by decide)).trans (State.modTotals_sameBut _ _ (by decide))),
      ⟨⟨g.val + 6, by omega⟩, rfl, rfl⟩, rfl, rfl⟩
  · refine ⟨s.watchFailed g, next_settled live (Grate.watchAt_of watch past) rfl, s.watchFailed_sameBut g, fun applied => ?_,
      fun other => ?_⟩
    · obtain ⟨held, new⟩ := s.latch_told (recordOfGrate g) .noMotion
      obtain ⟨fault, stops⟩ := s.latch_grate_stops g .noMotion
      rw [State.watchFailed_latches (State.checkApplies_iff.2 applied)]
      exact ⟨held, fault, new, stops⟩
    · rw [State.watchFailed_masked (unapplied rfl other)]
      exact ⟨rfl, rfl, rfl⟩
  · have due := next_settled live (isDue_of low past) (f := fun s => s.currentFailed k) rfl
    have own := s.lowExpires_own k
    have expires : SameBut [.cooler, .field, .attention] s (s.lowExpires k) := s.modCooler_sameBut _ (by decide)
    by_cases applied : s.checkApplies (recordOfFan k) .noMotion = true
    · obtain ⟨held, new⟩ := (s.lowExpires k).latch_told (recordOfFan k) .noMotion
      have latched := (s.lowExpires k).latch_fan_own k .noMotion
      rw [own] at latched
      refine ⟨s.currentFailed k, due, ?_⟩
      rw [State.currentFailed_latches applied]
      exact ⟨expires.trans (State.latch_fan _ .noMotion k).2, (congrArg Chamber.lowAt latched :),
        (congrArg Chamber.lowExpired latched :), (congrArg Chamber.commanded latched :),
        fun _ => ⟨held, (congrArg Chamber.fault latched :), new⟩,
        fun other => absurd applied (unapplied rfl other)⟩
    · refine ⟨s.currentFailed k, due, ?_⟩
      rw [State.currentFailed_masked applied]
      exact ⟨expires, (congrArg Chamber.lowAt own :), (congrArg Chamber.lowExpired own :),
        (congrArg Chamber.commanded own :),
        fun applies => absurd (State.checkApplies_iff.2 applies) applied,
        fun _ => ⟨rfl, rfl, (congrArg Chamber.fault own :)⟩⟩
  · intro toOpen mask kind
    refine ⟨s.proofExpired n, next_settled live (Valve.proofDue_of proving timer past) rfl, fun applied => ?_, fun other
      => ?_⟩
    · have latches : s.proofExpired n = _ := State.unprove_latches toOpen rfl applied
      obtain ⟨held, new, line⟩ := s.unproven_told n toOpen
      rw [latches]
      exact ⟨held, new, fun l own hears => line l own (hears.elim (fun ⟨admits, opens⟩ => .inr ⟨opens, .inl admits⟩) .inl)⟩
    · have masked : s.proofExpired n = (s.inPhase n .unproven).handProof n := State.unprove_masked toOpen rfl other
      rw [masked]
      refine ⟨(congrArg Field.records (State.handProof_field _ n) :), fun l own => ?_⟩
      subst own
      have command : (s.inPhase (svOf l) .unproven).field.valves[svOf l].openCommand = toOpen := s.inPhase_openCommand _ _
      rw [State.handProof_line, command]
      refine ⟨fun ⟨admits, opens⟩ => ?_, fun ⟨shuts, closes⟩ => ?_⟩
      · exact (State.lineProof_awaited (s := s.inPhase (svOf l) .unproven) (.inl ⟨admits, opens⟩)).trans (if_pos opens)
      · exact (State.lineProof_awaited (s := s.inPhase (svOf l) .unproven) (.inr ⟨shuts, closes⟩)).trans
          (if_neg (by rw [closes]; decide))
  · intro w closedIn openIn shown lost mask kind inPhase awaits t
    have shows : s.commandShown n = shown := s.commandShown_eq n
    have loses : s.limitLost n = lost := s.limitLost_eq n
    have proves : s.setPhase n .proven = inPhase .proven := s.setPhase_eq n (by decide)
    refine ⟨fun proving hidden => ?_, fun proving shown => ?_, fun proven kept => ?_, fun proven gone => ⟨fun other => ?_,
      fun applied => ?_⟩, fun unproven => ?_⟩
    · exact State.watchValve_proving proving (shows.trans hidden)
    · have hands : t = (s.inPhase n .proven).handProof n :=
        (State.watchValve_proof proving (shows.trans shown)).trans (congrArg (State.handProof · n) proves)
      have command : (s.inPhase n .proven).field.valves[n].openCommand = w.openCommand := s.inPhase_openCommand n _
      rw [hands]
      refine ⟨State.handProof_field _ n, fun deaf => State.handProof_deaf fun l own => ?_, fun l own awaited => ?_⟩
      · rw [command]
        exact deaf l own
      · subst own
        rw [State.handProof_line, command]
        exact State.lineProof_awaited (s := s.inPhase (svOf l) .proven) awaited
    · exact State.watchValve_proven proven (loses.trans kept)
    · have unproves : t = s.unprove n fun s => s := State.watchValve_unproves proven (loses.trans gone)
      rw [unproves]
      exact State.unprove_masked w.openCommand rfl other
    · have unproves : t = s.unprove n fun s => s := State.watchValve_unproves proven (loses.trans gone)
      obtain ⟨held, new, line⟩ := s.unproven_told n w.openCommand
      rw [unproves, State.unprove_latches w.openCommand rfl applied]
      exact ⟨held, new, line⟩
    · have back := State.watchValve_back (v := n) unproven
      rw [shows, proves] at back
      exact back
end

section
/-! Records that are tested one after another: what the test of one leaves of what concerns another (R121, R122). -/

set_option Elab.async false

namespace Sys2Proof.Machine

open Sys2Proof

/-- From `s` to `t` what concerns record `r` is left: the record and the masks, its valve with the line of it, or its fan. -/
structure Aside (r : Fin 23) (s t : State) : Prop where
  record : t.field.records[r] = s.field.records[r]
  masks : (t.field.openCheck, t.field.closeCheck, t.field.motionCheck) =
    (s.field.openCheck, s.field.closeCheck, s.field.motionCheck)
  valve : ∀ v : Fin 7, r = recordOfValve v → t.field.valves[v] = s.field.valves[v]
  fan : ∀ k : Fin 12, r = recordOfFan k → t.cooler.chambers[k] = s.cooler.chambers[k]
  line : ∀ l : Fin 6, r = recordOfValve (svOf l) → t.lines[l].core = s.lines[l].core
  requests : Requests s t

namespace Aside

variable {r : Fin 23} {s t u : State}

theorem refl (r : Fin 23) (s : State) : Aside r s s :=
  ⟨rfl, rfl, fun _ _ => rfl, fun _ _ => rfl, fun _ _ => rfl, .refl s⟩

theorem trans (first : Aside r s t) (second : Aside r t u) : Aside r s u where
  record := second.record.trans first.record
  masks := second.masks.trans first.masks
  valve v own := (second.valve v own).trans (first.valve v own)
  fan k own := (second.fan k own).trans (first.fan k own)
  line l own := (second.line l own).trans (first.line l own)
  requests := first.requests.trans second.requests

theorem state (a : Aside r s t) : t.record r = s.record r := (congrArg DiagRecord.state a.record :)

theorem kindChecked (a : Aside r s t) (k : FaultKind) : t.kindChecked k = s.kindChecked k := by
  have masks := a.masks
  simp only [Prod.mk.injEq] at masks
  obtain ⟨openCheck, closeCheck, motionCheck⟩ := masks
  cases k
  · exact openCheck
  · exact closeCheck
  · exact motionCheck

theorem applies (a : Aside r s t) (k : FaultKind) : t.checkApplies r k = s.checkApplies r k :=
  congrArg₂ Bool.and (congrArg DiagRecord.checked a.record :) (a.kindChecked k)

theorem failing (a : Aside r s t) : t.failing r = s.failing r := by
  obtain ⟨v, rfl⟩ | ⟨g, rfl⟩ | ⟨j, rfl⟩ := record_cases r
  · have valve : t.field.valves[v.val] = s.field.valves[v.val] := a.valve v rfl
    simp only [State.failing, outputOf_valve, valve]
  · simp only [State.failing, outputOf_grate]
  · have chamber : t.cooler.chambers[j.val] = s.cooler.chambers[j.val] := a.fan j rfl
    simp only [State.failing, outputOf_fan, chamber]

/-- What the latch of another record leaves. -/
theorem latched {q : Fin 23} (other : q ≠ r) (s : State) (k : FaultKind) : Aside r s (s.latched q k) := by
  have field := s.latched_field q k
  have same := s.latched_sameBut q k
  have cooler : (s.latched q k).cooler = s.cooler := same .cooler (by decide)
  have lines : (s.latched q k).lines = s.lines := same .lines (by decide)
  refine ⟨?_, by rw [field], fun v _ => by rw [field], fun j _ => by rw [cooler], fun l _ => by rw [lines],
    s.latched_requests q k⟩
  rw [field]
  exact upd_get_ne _ _ _ _ other

theorem handLatch {q : Fin 23} (other : q ≠ r) (s : State) (k : FaultKind) : Aside r s (s.handLatch q k) := by
  have field := s.handLatch_field q k
  have records : (s.handLatch q k).field.records = s.field.records := (congrArg Field.records field :)
  have masks : ((s.handLatch q k).field.openCheck, (s.handLatch q k).field.closeCheck, (s.handLatch q k).field.motionCheck) =
      (s.field.openCheck, s.field.closeCheck, s.field.motionCheck) := by rw [field]
  refine ⟨by rw [records], masks, fun v own => ?_, fun j own => ?_, fun l own => ?_, s.handLatch_requests q k⟩
  · obtain ⟨w, rfl⟩ | ⟨g, rfl⟩ | ⟨i, rfl⟩ := record_cases q
    · obtain same | ⟨m, line, faults⟩ := s.handLatch_valve k w
      · rw [same]
      · rw [faults, State.faultLine_field]
        exact s.commandValve_valve _ _ v fun same => other (own ▸ congrArg recordOfValve (line.trans same.symm))
    · rw [State.handLatch_grate, s.faultGrate_sameBut g .field (by decide)]
    · rw [State.handLatch_fan]
      rfl
  · obtain ⟨w, rfl⟩ | ⟨g, rfl⟩ | ⟨i, rfl⟩ := record_cases q
    · obtain same | ⟨m, line, faults⟩ := s.handLatch_valve k w
      · rw [same]
      · rw [faults]
        simp
    · rw [State.handLatch_grate]
      unfold State.faultGrate
      split <;> rfl
    · rw [State.handLatch_fan]
      exact upd_get_ne _ _ _ _ fun same => other (own ▸ congrArg recordOfFan same)
  · obtain ⟨w, rfl⟩ | ⟨g, rfl⟩ | ⟨i, rfl⟩ := record_cases q
    · obtain same | ⟨m, line, faults⟩ := s.handLatch_valve k w
      · rw [same]
      · rw [faults]
        exact s.faultLine_others m l fun same => other (own ▸ congrArg recordOfValve (line.trans (congrArg svOf same.symm)))
    · rw [State.handLatch_grate, s.faultGrate_sameBut g .lines (by decide)]
    · rw [State.handLatch_fan]
      rfl

theorem latch {q : Fin 23} (other : q ≠ r) (s : State) (k : FaultKind) : Aside r s (s.latch q k) :=
  (latched other s k).trans (handLatch other _ k)

theorem testRecord {q : Fin 23} (other : q ≠ r) (s : State) : Aside r s (s.testRecord q) := by
  unfold State.testRecord
  split
  · split
    · exact latch other s _
    · exact refl r s
  · exact refl r s

theorem retest {q : Fin 23} (other : q ≠ r) (before s : State) : Aside r s (before.retest s q) := by
  unfold State.retest
  split
  · split
    · exact latch other s _
    · exact refl r s
  · exact refl r s

theorem handClear {q : Fin 23} (other : q ≠ r) (s : State) : Aside r s (s.handClear q) := by
  obtain ⟨w, rfl⟩ | ⟨g, rfl⟩ | ⟨i, rfl⟩ := record_cases q
  · rw [State.handClear, outputOf_valve]
    exact refl r s
  · rw [State.handClear, outputOf_grate]
    unfold State.clearGrate
    dsimp only
    split <;> exact ⟨rfl, rfl, fun _ _ => rfl, fun _ _ => rfl, fun _ _ => rfl, .refl s⟩
  · rw [State.handClear, outputOf_fan]
    exact ⟨rfl, rfl, fun _ _ => rfl,
      fun j own => upd_get_ne _ _ _ _ fun same => other (own ▸ congrArg recordOfFan same), fun _ _ => rfl, .refl s⟩

theorem handCleared {q : Fin 23} (other : q ≠ r) (before s : State) : Aside r s (before.handCleared s q) := by
  unfold State.handCleared
  split
  · exact handClear other s
  · exact refl r s

/-- Where each step on another record leaves what concerns `r`, its own step is taken between such. -/
theorem foldl {f : State → Fin 23 → State} (apart : ∀ (t : State) (q : Fin 23), q ≠ r → Aside r t (f t q))
    {named : List (Fin 23)} (once : named.Nodup) (member : r ∈ named) (s : State) :
    ∃ t, Aside r s t ∧ Aside r (f t r) (named.foldl f s) := by
  have past (rest : List (Fin 23)) (absent : r ∉ rest) (t : State) : Aside r t (rest.foldl f t) := by
    induction rest generalizing t with
    | nil => exact refl r t
    | cons q rest ih =>
      rw [List.mem_cons, not_or] at absent
      exact (apart t q (Ne.symm absent.1)).trans (ih absent.2 _)
  induction named generalizing s with
  | nil => cases member
  | cons q rest ih =>
    obtain ⟨absent, once⟩ := List.nodup_cons.1 once
    by_cases same : q = r
    · subst same
      exact ⟨s, refl q s, past rest absent _⟩
    · have later := (List.mem_cons.1 member).resolve_left (Ne.symm same)
      obtain ⟨t, first, second⟩ := ih once later (f s q)
      exact ⟨t, (apart s q same).trans first, second⟩

end Aside

theorem allRecords_nodup : allRecords.Nodup := List.nodup_finRange 23

theorem mem_allRecords (r : Fin 23) : r ∈ allRecords := List.mem_finRange r

end Sys2Proof.Machine
end

section
/-! CLEAR DIAGNOSTICS (R102, R121), and O45. -/

set_option Elab.async false

namespace Sys2Proof.Machine

open Sys2Proof

/-! ### The records set to OK -/

theorem foldl_clear (named : List (Fin 23)) (records : Vector DiagRecord 23) (r : Fin 23) :
    (named.foldl (fun v q => upd v q fun d => { d with state := .ok }) records)[r] =
      if r ∈ named then { records[r] with state := .ok } else records[r] := by
  induction named generalizing records with
  | nil => rfl
  | cons q named ih =>
    refine (ih _).trans ?_
    by_cases same : q = r
    · subst same
      have own : (upd records q fun d => { d with state := DiagState.ok })[q] = { records[q] with state := .ok } :=
        upd_get_self _ _ _
      rw [own, if_pos List.mem_cons_self]
      split <;> rfl
    · have kept : (upd records q fun d => { d with state := DiagState.ok })[r] = records[r] := upd_get_ne _ _ _ _ same
      have member : r ∈ q :: named ↔ r ∈ named := by simp [Ne.symm same]
      rw [kept]
      simp only [member]

section
variable (s : State) (named : List (Fin 23))

/-- The state in which the named records have been set to OK (R121). -/
def State.cleared : State := s.modField fun f => f.cleared named

/-- The state in which the named records have been tested again. -/
def State.retested : State := named.foldl (fun t r => t.testRecord r) (s.cleared named)

theorem State.clearRecords_eq :
    s.clearRecords named = named.foldl (fun t r => s.handCleared t r) (s.retested named) := rfl

variable {named} {r : Fin 23}

theorem State.cleared_failing : (s.cleared named).failing r = s.failing r := rfl

theorem State.cleared_record (member : r ∈ named) : (s.cleared named).field.records[r] =
    { s.field.records[r] with state := .ok } :=
  (foldl_clear named s.field.records r).trans (if_pos member)

theorem State.cleared_ok (member : r ∈ named) : (s.cleared named).record r = .ok :=
  (congrArg DiagRecord.state (s.cleared_record member) :)

theorem State.cleared_applies (member : r ∈ named) (k : FaultKind) : (s.cleared named).checkApplies r k = s.checkApplies
    r k :=
  congrArg (· && s.kindChecked k) (congrArg DiagRecord.checked (s.cleared_record member) :)

end

/-! ### The test of a record -/

section
variable {s : State} {r : Fin 23} {k : FaultKind}

theorem State.testRecord_passes (passes : ∀ k, s.failing r = some k → s.checkApplies r k = false) : s.testRecord r = s := by
  unfold State.testRecord
  split
  next k failing => exact if_neg (by rw [passes k failing]; decide)
  · rfl

theorem State.testRecord_latches (failing : s.failing r = some k) (applies : s.checkApplies r k = true) :
    s.testRecord r = s.latch r k := by
  simp only [State.testRecord, failing, applies, if_true]

/-- A record in OK that latches holds the one kind. -/
theorem State.latch_ok (ok : s.record r = .ok) :
    (s.latch r k).record r = .fault (FaultKinds.none.add k) ∧ (s.latch r k).attention.request.getLsbD 6 = true := by
  refine ⟨?_, s.latch_request r k (by rw [ok]; rfl)⟩
  rw [State.latch_record, ok]
  rfl

theorem State.handCleared_latched {before : State} (latched : (s.record r).isFault = true) :
    before.handCleared s r = s := by
  unfold State.handCleared
  rw [latched, Bool.not_true, Bool.and_false]
  rfl

theorem State.handCleared_sound {before : State} (sound : (before.record r).isFault = false) :
    before.handCleared s r = s := by
  unfold State.handCleared
  rw [sound, Bool.false_and]
  rfl

theorem State.handCleared_clears {before : State} (fault : (before.record r).isFault = true) (ok : s.record r = .ok) :
    before.handCleared s r = s.handClear r := by
  unfold State.handCleared
  rw [fault, ok]
  rfl

theorem State.handClear_fan (j : Fin 12) :
    (s.handClear (recordOfFan j)).cooler.chambers[j] = { s.cooler.chambers[j] with fault := false } := by
  rw [State.handClear, outputOf_fan]
  exact upd_get_self _ _ _

theorem State.handClear_grate (g : Fin 4) : s.handClear (recordOfGrate g) = s.clearGrate g := by
  rw [State.handClear, outputOf_grate]

/-- A grate in FAULT leaves it by the cooler state (R102). -/
theorem State.clearGrate_leaves {g : Fin 4} (fault : s.cooler.grates[g].state = .fault) :
    (s.clearGrate g).cooler.grates[g].state = clearedState s.cooler g := by
  have leaves : s.clearGrate g = s.modGrate g fun r => { r with state := clearedState s.cooler g } := if_pos fault
  rw [leaves]
  exact (congrArg Grate.state (s.modGrate_own g _) :)

theorem clearedState_cases (c : Cooler) (g : Fin 4) :
    (c.state = .running ∨ c.state = .surge → clearedState c g = .running) ∧
      (c.state = .starting → clearedState c g = if 3 < g.val + c.started then .running else .still) ∧
      (c.state = .stopping ∨ c.state = .stopped → clearedState c g = .still) := by
  unfold clearedState
  cases c.state <;> simp

theorem State.clearGrate_sameBut (g : Fin 4) : SameBut [.cooler] s (s.clearGrate g) := by
  unfold State.clearGrate
  split
  · exact s.modCooler_sameBut _ (by decide)
  · exact .refl _ _

theorem State.handClear_sameBut : SameBut [.cooler] s (s.handClear r) := by
  obtain ⟨v, rfl⟩ | ⟨g, rfl⟩ | ⟨j, rfl⟩ := record_cases r
  · rw [State.handClear, outputOf_valve]
    exact .refl _ _
  · rw [State.handClear_grate]
    exact State.clearGrate_sameBut g
  · rw [State.handClear, outputOf_fan]
    exact s.modCooler_sameBut _ (by decide)

theorem State.handCleared_sameBut {before : State} : SameBut [.cooler] s (before.handCleared s r) := by
  unfold State.handCleared
  split
  · exact State.handClear_sameBut
  · exact .refl _ _

end

/-! ### One record that is cleared -/

section
variable {s : State} {r : Fin 23} {k : FaultKind}

theorem State.clearRecords_one (s : State) (r : Fin 23) :
    s.clearRecords [r] = s.handCleared ((s.cleared [r]).testRecord r) r := rfl

theorem State.cleared_one_ok : (s.cleared [r]).record r = .ok :=
  s.cleared_ok List.mem_cons_self

theorem State.cleared_one_sameBut : SameBut [.field] s (s.cleared [r]) := s.modField_sameBut _ (by decide)

/-- A record that does not latch again stays OK and is handed to its owner. -/
theorem State.clearRecords_passes (passes : ∀ k, s.failing r = some k → s.checkApplies r k = false) :
    s.clearRecords [r] = s.handCleared (s.cleared [r]) r := by
  rw [State.clearRecords_one, State.testRecord_passes]
  intro k failing
  rw [s.cleared_applies List.mem_cons_self]
  exact passes k failing

/-- A record that latches again is not handed on. -/
theorem State.clearRecords_latches (failing : s.failing r = some k) (applies : s.checkApplies r k = true) :
    s.clearRecords [r] = (s.cleared [r]).latch r k := by
  have latches : (s.cleared [r]).testRecord r = (s.cleared [r]).latch r k :=
    State.testRecord_latches failing ((s.cleared_applies List.mem_cons_self k).trans applies)
  rw [State.clearRecords_one, latches]
  refine State.handCleared_latched ?_
  rw [(State.latch_ok State.cleared_one_ok).1]
  rfl

/-- A drive's record that latches leaves all but the cooler, the field unit and the requests. -/
theorem State.latch_drive_sameBut (s : State) (drive : 7 ≤ r.val) (k : FaultKind) :
    SameBut [.cooler, .field, .attention] s (s.latch r k) := by
  obtain ⟨v, rfl⟩ | ⟨g, rfl⟩ | ⟨j, rfl⟩ := record_cases r
  · exact absurd drive (Nat.not_le.2 v.isLt)
  · exact s.latch_grate_sameBut g k
  · exact (s.latch_fan k j).2

end

/-! ### All records that are cleared together -/

/-- A record's failing condition holds and the check applies (R119, R120, R122). -/
def State.latches (s : State) (r : Fin 23) : Prop := ∃ k, s.failing r = some k ∧ s.checkApplies r k = true

section
variable (s : State) {named : List (Fin 23)} (once : named.Nodup) {r : Fin 23} (member : r ∈ named)
include once member

/-- The states between which the test of `r` and the hand-over of `r` are taken. -/
theorem State.clearRecords_named :
    ∃ t u : State, Aside r (s.cleared named) t ∧ Aside r (t.testRecord r) u ∧
      Aside r (s.handCleared u r) (s.clearRecords named) := by
  obtain ⟨t, first, tested⟩ := Aside.foldl (r := r) (fun t q other => Aside.testRecord other t) once member
    (s.cleared named)
  obtain ⟨u, second, handed⟩ := Aside.foldl (r := r) (fun t q other => Aside.handCleared other s t) once member
    (s.retested named)
  exact ⟨t, u, first, tested.trans second, handed⟩

theorem State.clearRecords_named_passes (passes : ¬s.latches r) :
    (s.clearRecords named).record r = .ok ∧
      ∀ j : Fin 12, r = recordOfFan j → (s.record r).isFault = true →
        (s.clearRecords named).cooler.chambers[j].fault = false := by
  obtain ⟨t, u, first, second, third⟩ := s.clearRecords_named once member
  have kept : t.testRecord r = t := State.testRecord_passes fun k failing => by
    rw [first.failing] at failing
    rw [first.applies, s.cleared_applies member, ← Bool.not_eq_true]
    exact fun applies => passes ⟨k, failing, applies⟩
  have ok : u.record r = .ok := by
    rw [second.state, kept, first.state]
    exact s.cleared_ok member
  refine ⟨?_, fun j fan fault => ?_⟩
  · rw [third.state]
    have field : (s.handCleared u r).field = u.field := State.handCleared_sameBut .field (by decide)
    exact (congrArg (fun f : Field => f.records[r].state) field :).trans ok
  · rw [third.fan j fan, State.handCleared_clears fault ok]
    subst fan
    rw [State.handClear_fan]

theorem State.clearRecords_named_latches {k : FaultKind} (failing : s.failing r = some k)
    (applies : s.checkApplies r k = true) :
    (s.clearRecords named).record r = .fault (FaultKinds.none.add k) ∧
      (s.clearRecords named).attention.request.getLsbD 6 = true ∧
      ∀ j : Fin 12, r = recordOfFan j → (s.clearRecords named).cooler.chambers[j].fault = true := by
  obtain ⟨t, u, first, second, third⟩ := s.clearRecords_named once member
  have latched : t.testRecord r = t.latch r k :=
    State.testRecord_latches (first.failing.trans failing)
      ((first.applies k).trans ((s.cleared_applies member k).trans applies))
  have ok : t.record r = .ok :=
    first.state.trans (s.cleared_ok member)
  rw [latched] at second
  obtain ⟨held, request⟩ := State.latch_ok (k := k) ok
  have still : s.handCleared u r = u := State.handCleared_latched (by rw [second.state, held]; rfl)
  rw [still] at third
  have whole := second.trans third
  refine ⟨whole.state.trans held, whole.requests 6 request, fun j fan => ?_⟩
  rw [whole.fan j fan]
  subst fan
  rw [State.latch_fan_own]

end

/-! ### The request is decided (R121) -/

section
variable {s : State} {n : Byte}

theorem decideClear_unnamed (outside : 23 < n.toNat) : decideClearDiagnostics n s = s.refuse .badValue := by
  have other : n ≠ 0 := fun zero => by simp [zero] at outside
  have unnamed : namedRecords n = none := by rw [namedRecords, if_neg other, numbered_none (.inr outside)]; rfl
  rw [decideClearDiagnostics, unnamed]

theorem decideClear_one {r : Fin 23} (number : n.toNat = r.val + 1) :
    decideClearDiagnostics n s = (s.clearRecords [r]).settle.done (b1 ((s.clearRecords [r]).record r).code) := by
  have other : n ≠ 0 := fun zero => by simp [zero] at number
  have named : namedRecords n = some [r] := by rw [namedRecords, if_neg other, numbered_eq number]; rfl
  rw [decideClearDiagnostics, named]
  exact congrArg (State.done _) (List.append_nil _)

theorem decideClear_all (zero : n = 0) :
    decideClearDiagnostics n s =
      (s.clearRecords allRecords).settle.done
        ((List.finRange 23).map fun r => b1 ((s.clearRecords allRecords).record r).code).flatten := by
  have named : namedRecords n = some allRecords := if_pos zero
  rw [decideClearDiagnostics, named]
  rfl

end

end Sys2Proof.Machine

open Sys2Proof Sys2Proof.Machine

/-- Settles O45. -/
theorem diagnosticsCleared : Obligations.DiagnosticsCleared := by
  intro s tag n ready u
  refine ⟨fun outside => exec_refused rfl ready (decideClear_unnamed outside), fun r number => ?_, fun zero => ?_⟩
  · refine ⟨u.clearRecords [r], exec_done rfl ready (decideClear_one number), fun none => ?_, fun kind failing =>
      ⟨fun applies => ?_, fun masked => ?_⟩⟩
    · have passes := State.clearRecords_passes (s := u) (r := r) fun k failing => by rw [none] at failing; cases failing
      have handed : SameBut [.cooler] (u.cleared [r]) (u.handCleared (u.cleared [r]) r) := State.handCleared_sameBut
      have clears (fault : (u.record r).isFault = true) : u.handCleared (u.cleared [r]) r = (u.cleared [r]).handClear r :=
        State.handCleared_clears fault State.cleared_one_ok
      rw [passes]
      refine ⟨(State.cleared_one_sameBut.mono (by decide)).trans (handed.mono (by decide)), handed .field (by decide),
        fun g own stands fault => ?_, fun k own fault => ?_, fun sound => ?_⟩
      · have leaves : ((u.cleared [r]).clearGrate g).cooler.grates[g].state = clearedState u.cooler g :=
          State.clearGrate_leaves stands
        rw [clears fault, own, State.handClear_grate, ← own, leaves]
        exact clearedState_cases u.cooler g
      · rw [clears fault, own, State.handClear_fan]
      · rw [State.handCleared_sound sound]
        rfl
    · have latches := State.clearRecords_latches failing applies
      obtain ⟨held, request⟩ := State.latch_ok (k := kind) (State.cleared_one_ok (s := u) (r := r))
      rw [latches]
      refine ⟨held, request, fun valve => ?_, fun fan => ⟨?_, ?_, fun k own => ?_⟩⟩
      · exact (State.fixedCondition_valves _).2 ⟨r, valve, by rw [held]; exact fun same => nomatch same⟩
      · exact (State.cleared_one_sameBut.mono (by decide)).trans (State.latch_drive_sameBut _ (by omega) kind)
      · exact (State.fixedCondition_drives _).2 ⟨r, by omega, _, held⟩
      · subst own
        rw [State.latch_fan_own]
    · have passes := State.clearRecords_passes (s := u) (r := r) fun k other => by
        rw [Option.some.inj (other.symm.trans failing), masked]
      have same : SameBut [.cooler] (u.cleared [r]) (u.handCleared (u.cleared [r]) r) := State.handCleared_sameBut
      have field : (u.handCleared (u.cleared [r]) r).field = (u.cleared [r]).field := same .field (by decide)
      have attention : (u.handCleared (u.cleared [r]) r).attention = (u.cleared [r]).attention :=
        same .attention (by decide)
      rw [passes]
      exact ⟨(congrArg (fun f : Field => f.records[r].state) field :).trans State.cleared_one_ok, attention⟩
  · refine ⟨u.clearRecords allRecords, exec_done rfl ready (decideClear_all zero), fun r => ?_⟩
    intro latches
    refine ⟨fun passes => ?_, fun kind failing applies => ?_, fun k fan => ⟨fun ⟨kind, failing, applies⟩ => ?_,
      fun passes fault => ?_⟩⟩
    · exact (State.clearRecords_named_passes u allRecords_nodup (mem_allRecords r) passes).1
    · obtain ⟨held, request, -⟩ :=
        State.clearRecords_named_latches u allRecords_nodup (mem_allRecords r) failing applies
      exact ⟨held, request⟩
    · exact (State.clearRecords_named_latches u allRecords_nodup (mem_allRecords r) failing applies).2.2 k fan
    · exact (State.clearRecords_named_passes u allRecords_nodup (mem_allRecords r) passes).2 k fan fault
end

section
/-! SET FIELD and SET DIAG MASKS (R122, R123), and O20. -/

set_option Elab.async false

namespace Sys2Proof.Machine

open Sys2Proof

/-! ### The FIELD settings (R123) -/

/-- Every value of SET FIELD is in range (R123). -/
def fieldInside (f : FieldFields) : Prop :=
  (∀ n : Fin 23, f.debounce[n].toNat ≤ 250) ∧ 100 ≤ f.scanPeriod.toNat ∧ f.scanPeriod.toNat ≤ 2000 ∧
    30 ≤ f.kilnStopTime.toNat ∧ f.kilnStopTime.toNat ≤ 300 ∧ 5 ≤ f.valveProofTime.toNat ∧ f.valveProofTime.toNat ≤ 100

/-- The settings that SET FIELD carries, its values in range. -/
def fieldWritten (f : FieldFields) : FieldSettings :=
  { debounce := mapAt f.debounce fun _ v => v.toNat, scanPeriod := f.scanPeriod.toNat,
    kilnStopTime := f.kilnStopTime.toNat, valveProofTime := f.valveProofTime.toNat }

theorem fieldSettings_eq (f : FieldFields) [Decidable (fieldInside f)] :
    fieldSettings f = if fieldInside f then some (fieldWritten f) else none := by
  unfold fieldSettings
  refine if_congr ?_ rfl rfl
  simp only [inRange, Bool.and_eq_true, decide_eq_true_eq, vector_all_iff, fieldInside, and_assoc]

section
variable {s : State} (unlocked : s.link.locks[5] = false)
include unlocked

theorem decideSetField_inside {f : FieldFields} (inside : fieldInside f) :
    decideSetField f s = (s.modField fun k => { k with cfg := fieldWritten f }).done [] := by
  classical
  have free : ¬s.locked .field = true := by rw [State.locked, unlocked]; decide
  rw [decideSetField, if_neg free, fieldSettings_eq, if_pos inside]

theorem decideSetField_outside {f : FieldFields} (outside : ¬fieldInside f) : decideSetField f s = s.refuse .badValue := by
  classical
  have free : ¬s.locked .field = true := by rw [State.locked, unlocked]; decide
  rw [decideSetField, if_neg free, fieldSettings_eq, if_neg outside]

theorem decideSetMasks_writes (masks : BitVec 32) : decideSetMasks masks s = (s.remask masks).settle.done [] :=
  if_neg (by rw [State.locked, unlocked]; decide)

end

/-! ### The masks (R122) -/

section
variable (s : State) (masks : BitVec 32)

/-- The state in which the masks are in force, before any record is tested. -/
def State.masked : State := s.modField fun f => f.withMasks masks

theorem State.remask_eq : s.remask masks = allRecords.foldl (fun t r => s.retest t r) (s.masked masks) := rfl

theorem State.masked_record (r : Fin 23) :
    (s.masked masks).field.records[r] = { s.field.records[r] with checked := masks.getLsbD r.val } :=
  mapAt_get _ _ _ r.isLt

theorem State.masked_state (r : Fin 23) : (s.masked masks).record r = s.record r :=
  (congrArg DiagRecord.state (s.masked_record masks r) :)

/-- The bit of a kind in the masks (R176). -/
def maskBit : FaultKind → Nat
  | .failToOpen => 23
  | .failToClose => 24
  | .noMotion => 25

theorem State.masked_applies (r : Fin 23) (k : FaultKind) :
    (s.masked masks).checkApplies r k = (masks.getLsbD r.val && masks.getLsbD (maskBit k)) := by
  have checked : (s.masked masks).field.records[r].checked = masks.getLsbD r.val :=
    (congrArg DiagRecord.checked (s.masked_record masks r) :)
  have kind : (s.masked masks).kindChecked k = masks.getLsbD (maskBit k) := by cases k <;> rfl
  exact congrArg₂ Bool.and checked kind

theorem State.masked_settings :
    (s.masked masks).settings =
      { s.settings with
        recordMasks := Vector.ofFn fun r : Fin 23 => masks.getLsbD r.val
        kindMasks := (masks.getLsbD 23, masks.getLsbD 24, masks.getLsbD 25) } := by
  have records : (mapAt (s.masked masks).field.records fun _ d => d.checked) =
      Vector.ofFn fun r : Fin 23 => masks.getLsbD r.val := by
    refine Vector.ext fun i inside => ?_
    have own : (s.masked masks).field.records[i].checked = masks.getLsbD i :=
      (congrArg DiagRecord.checked (s.masked_record masks ⟨i, inside⟩) :)
    rw [mapAt_get _ _ _ inside, Vector.getElem_ofFn]
    exact own
  rw [State.settings, records]
  rfl

theorem State.remask_keeps : KeepsAll (s.masked masks) (s.remask masks) := by
  unfold State.remask
  exact Keeps.foldl (Keeps.refl false false false (s.masked masks)) (fun r k => k.retest s r) _

end

/-! ### The records whose checks newly apply -/

section
variable {before s t : State} {r : Fin 23} {k : FaultKind}

theorem State.retest_passes
    (passes : ∀ k, s.failing r = some k → s.checkApplies r k = true → before.checkApplies r k = true) :
    before.retest s r = s := by
  unfold State.retest
  split
  next k failing =>
    refine if_neg fun newly => ?_
    obtain ⟨now, old⟩ := (Bool.and_eq_true _ _).mp newly
    rw [passes k failing now] at old
    exact absurd old (by decide)
  · rfl

theorem State.retest_latches (failing : s.failing r = some k) (now : s.checkApplies r k = true)
    (old : before.checkApplies r k = false) : before.retest s r = s.latch r k := by
  simp only [State.retest, failing, now, old, Bool.not_false, Bool.and_self, if_true]

theorem foldl_fixed {α β : Type} {f : α → β → α} {a : α} (fixed : ∀ b, f a b = a) (l : List β) : l.foldl f a = a := by
  induction l with
  | nil => rfl
  | cons b l ih => rw [List.foldl_cons, fixed, ih]

/-- A failing record of a valve fails as the valve is commanded. -/
theorem State.failing_valve {v : Fin 7} (failing : s.failing (recordOfValve v) = some k) :
    k = valveKind s.field.valves[v].openCommand := by
  simp only [State.failing, outputOf_valve] at failing
  split at failing
  · exact (Option.some.inj failing).symm
  · cases failing

theorem valveKind_ne_motion (toOpen : Bool) : valveKind toOpen ≠ .noMotion := by cases toOpen <;> decide

end

section
variable {s : State} {masks : BitVec 32} {r : Fin 23} {k : FaultKind}

/-- The check of a failing record applies under the new masks and did not before (R122). -/
def State.newly (s : State) (masks : BitVec 32) (r : Fin 23) (k : FaultKind) : Prop :=
  masks.getLsbD r.val = true ∧ masks.getLsbD (maskBit k) = true ∧ s.checkApplies r k = false

/-- The states between which record `r` is tested. -/
theorem State.remask_between (s : State) (masks : BitVec 32) (r : Fin 23) :
    ∃ t, Aside r (s.masked masks) t ∧ Aside r (s.retest t r) (s.remask masks) :=
  Aside.foldl (fun t _ other => Aside.retest other s t) allRecords_nodup (mem_allRecords r) (s.masked masks)

theorem State.masked_retest {t : State} (aside : Aside r (s.masked masks) t)
    (passes : ∀ k, s.failing r = some k → ¬s.newly masks r k) : s.retest t r = t := by
  refine State.retest_passes fun k failing now => ?_
  rw [aside.applies, State.masked_applies, Bool.and_eq_true] at now
  refine Bool.not_eq_false _ ▸ fun old => passes k ?_ ⟨now.1, now.2, old⟩
  rw [← failing, aside.failing]
  rfl

theorem State.remask_passes (passes : ∀ k, s.failing r = some k → ¬s.newly masks r k) :
    (s.remask masks).record r = s.record r := by
  obtain ⟨t, first, second⟩ := s.remask_between masks r
  rw [second.state, State.masked_retest first passes, first.state, State.masked_state]

theorem State.remask_unchanged (passes : ∀ r k, s.failing r = some k → ¬s.newly masks r k) :
    s.remask masks = s.masked masks := by
  have fixed (r : Fin 23) : s.retest (s.masked masks) r = s.masked masks :=
    State.masked_retest (Aside.refl r _) (passes r)
  rw [State.remask_eq]
  exact foldl_fixed fixed _

theorem State.remask_latches (failing : s.failing r = some k) (newly : s.newly masks r k) :
    ∃ t, Aside r (s.masked masks) t ∧ Aside r (t.latch r k) (s.remask masks) := by
  obtain ⟨t, first, second⟩ := s.remask_between masks r
  obtain ⟨record, kind, old⟩ := newly
  have latches : s.retest t r = t.latch r k := by
    refine State.retest_latches (first.failing.trans failing) ?_ old
    rw [first.applies, State.masked_applies, record, kind]
    rfl
  exact ⟨t, first, latches ▸ second⟩

theorem Line.core_requested {r q : Line} (same : r.core = q.core) : r.requested = q.requested :=
  (congrArg Line.requested same :)

theorem State.valveOpen_congr {s t : State} {v : Fin 7} (same : t.field.valves[v] = s.field.valves[v]) :
    t.valveOpen v = s.valveOpen v := (congrArg Valve.openCommand same :)

/-- A failing valve whose check newly applies puts its line in FAULT (R40, R122). -/
theorem State.remask_line {l : Fin 6} (failing : s.failing (recordOfValve (svOf l)) = some k)
    (newly : s.newly masks (recordOfValve (svOf l)) k)
    (hears : s.lines[l].state = .shutting ∨
      (s.valveOpen (svOf l) = true ∧ (s.lines[l].state = .admitting ∨ s.lines[l].state = .opened))) :
    (s.remask masks).lines[l].state = .fault ∧ (s.remask masks).lines[l].requested = 0 ∧
      (s.remask masks).valveOpen (svOf l) = false := by
  obtain ⟨t, first, second⟩ := State.remask_latches failing newly
  have kind := State.failing_valve failing
  have before : t.lines[l].state = s.lines[l].state := (Line.core_fields (first.line l rfl)).1
  have after := second.line l rfl
  obtain ⟨state, requested, closed⟩ := t.latch_line k (l := l) (by
    rw [before]
    refine hears.imp (fun shutting => ⟨shutting, kind ▸ valveKind_ne_motion _⟩) fun ⟨opens, live⟩ => ⟨live, ?_⟩
    rw [kind, show s.field.valves[svOf l].openCommand = true from opens]
    rfl)
  exact ⟨(Line.core_fields after).1.trans state, (Line.core_requested after).trans requested,
    (State.valveOpen_congr (second.valve _ rfl)).trans closed⟩

end

end Sys2Proof.Machine

open Sys2Proof Sys2Proof.Machine

/-- Settles O20. -/
theorem fieldSettingsWritten : Obligations.FieldSettingsWritten := by
  intro s tag ready unlocked
  refine ⟨fun f => ⟨fun inside => ?_, fun outside => ?_⟩, fun masks => ?_⟩
  · exact ⟨fieldWritten f, fun n => mapAt_get _ _ _ n.isLt, rfl, rfl, rfl,
      exec_done rfl ready (decideSetField_inside unlocked inside)⟩
  · exact exec_refused rfl ready (decideSetField_outside unlocked outside)
  · refine ⟨s.taken.remask masks, exec_done rfl ready (decideSetMasks_writes unlocked masks), ?_, ?_, ?_⟩
    · rw [(s.taken.remask_keeps masks).settings rfl, State.masked_settings]
    · exact (s.taken.remask_keeps masks).signals rfl
    · intro newly
      have same (r : Fin 23) (k : FaultKind) : newly r k ↔ s.taken.newly masks r k := by cases k <;> rfl
      refine ⟨fun r passes => State.remask_passes fun k failing => mt (same r k).2 (passes k failing),
        fun r kind failing applies => ?_, fun passes => ?_⟩
      · have newly' := (same r kind).1 applies
        obtain ⟨t, first, second⟩ := State.remask_latches failing newly'
        have record : t.record r = s.taken.record r := first.state.trans (s.taken.masked_state masks r)
        have latched : (s.taken.remask masks).record r = (s.taken.record r).latch kind := by
          rw [second.state, State.latch_record, record]
        refine ⟨?_, fun new => second.requests 6 (t.latch_request r kind (record ▸ new)), fun k fan => ?_,
          fun l own hears => ?_⟩
        · rw [latched]
          cases s.taken.record r <;> rfl
        · rw [second.fan k fan]
          subst fan
          rw [State.latch_fan_own]
        · subst own
          exact State.remask_line failing newly' hears
      · have unchanged := State.remask_unchanged (s := s.taken) (masks := masks) fun r k failing =>
          mt (same r k).2 (passes r k failing)
        rw [unchanged]
        exact ⟨s.taken.modField_sameBut _ (by decide), rfl, s.taken.masked_record masks⟩
end

section
/-! The bed mean and the surge, the scans, the image and the Drive Link frames (R88, R96 to R98, R114 to R116), and O46. -/

set_option Elab.async false

namespace Sys2Proof.Machine

open Sys2Proof

/-! ### Entry into SURGE (R76, R97, R103) -/

theorem State.addEvent_events (s : State) (k : EventKind) :
    (s.addEvent k).shift.current.events =
      if s.shift.current.events.length < 48 then s.shift.current.events ++ [{ time := s.floorTime, kind := k }]
      else s.shift.current.events := by
  simp only [State.addEvent, State.modShift]
  split <;> rfl

theorem State.addEvent_totals (s : State) (k : EventKind) : (s.addEvent k).shift.current.totals = s.shift.current.totals
    := by
  simp only [State.addEvent, State.modShift]
  split <;> rfl

/-- The totals of the shift that an end of the blasters leaves (R104). -/
theorem State.endBlasting_shift (s : State) :
    s.endBlasting.shift.current.events = s.shift.current.events ∧
      s.endBlasting.shift.current.totals.surges = s.shift.current.totals.surges ∧
      ∀ c, s.cooler.cycle = some c →
        s.endBlasting.shift.current.totals.blastersSkipped =
          min 4294967295 (s.shift.current.totals.blastersSkipped + (9 - c.1)) := by
  cases cycle : s.cooler.cycle with
  | none =>
    rw [State.endBlasting_idle cycle]
    exact ⟨rfl, rfl, nofun⟩
  | some c =>
    obtain ⟨next, due⟩ := c
    rw [State.endBlasting_cycle cycle]
    refine ⟨rfl, rfl, fun d named => ?_⟩
    rw [← Option.some.inj named]
    rfl

theorem State.endBlasting_blasterOut (s : State) :
    s.endBlasting.cooler.blasterOut = if s.cooler.cycle.isSome then none else s.cooler.blasterOut := by
  cases cycle : s.cooler.cycle with
  | none =>
    rw [State.endBlasting_idle cycle]
    rfl
  | some c =>
    rw [State.endBlasting_cycle (next := c.1) (due := c.2) cycle]
    rfl

/-- The entry into SURGE of a cooler whose blasters have ended. -/
def State.surgeBegun (s : State) : State :=
  ((((s.modHeat fun h => { h with surge := some (h.totalCommanded * (100 - s.envelope.surgeCutback) / 100) }).modCooler
    fun c => { c with state := .surge, releaseAt := none }).raise .cooler).addEvent .surgeStart |>.modTotals
      fun t => { t with surges := add32 t.surges 1 }).evaluate

section
variable (s : State)

theorem State.beginSurge_eq : s.beginSurge = s.endBlasting.surgeBegun := rfl

theorem State.surgeBegun_shift :
    s.surgeBegun.shift.current.events = (s.addEvent .surgeStart).shift.current.events ∧
      s.surgeBegun.shift.current.totals =
        { s.shift.current.totals with surges := min 4294967295 (s.shift.current.totals.surges + 1) } := by
  have shift : s.surgeBegun.shift =
      ((s.addEvent .surgeStart).modTotals fun t => { t with surges := add32 t.surges 1 }).shift := rfl
  have totals := s.addEvent_totals .surgeStart
  rw [shift]
  exact ⟨rfl, congrArg (fun t : Totals => { t with surges := add32 t.surges 1 }) totals⟩

theorem State.beginSurge_cooler :
    s.beginSurge.cooler =
      { s.cooler with
        state := .surge, releaseAt := none, pulseCount := 0, cycle := none
        blasterOut := if s.cooler.cycle.isSome then none else s.cooler.blasterOut } := by
  have entered : s.beginSurge.cooler = { s.endBlasting.cooler with state := .surge, releaseAt := none } := rfl
  rw [entered, State.endBlasting_cooler, State.endBlasting_blasterOut]

theorem State.beginSurge_sameBut : SameBut [.lines, .heat, .cooler, .attention, .shift] s s.beginSurge := by
  refine (s.endBlasting_sameBut.mono (by decide)).trans ?_
  intro b other
  cases b <;> simp_all [Block.Same, State.beginSurge, State.modHeat, State.modCooler, State.modTotals, State.modShift]

theorem State.beginSurge_heat :
    s.beginSurge.heat.surge = some (s.heat.totalCommanded * (100 - s.envelope.surgeCutback) / 100) := by
  have frozen : s.beginSurge.heat.surge =
      some (s.endBlasting.heat.totalCommanded * (100 - s.endBlasting.envelope.surgeCutback) / 100) := rfl
  rw [frozen, s.endBlasting_sameBut .heat (by decide), s.endBlasting_sameBut .envelope (by decide)]

theorem State.beginSurge_attention : s.beginSurge.attention = (s.raise .cooler).attention := by
  have raised : s.beginSurge.attention = (s.endBlasting.raise .cooler).attention := rfl
  exact raised.trans (State.raise_attention_congr (s.endBlasting_sameBut .attention (by decide)) _)

theorem State.beginSurge_events :
    s.beginSurge.shift.current.events = (s.addEvent .surgeStart).shift.current.events := by
  have time : s.endBlasting.floorTime = s.floorTime := s.endBlasting_sameBut .time (by decide)
  rw [State.beginSurge_eq, s.endBlasting.surgeBegun_shift.1, State.addEvent_events, State.addEvent_events,
    s.endBlasting_shift.1, time]

theorem State.beginSurge_totals :
    s.beginSurge.shift.current.totals.surges = min 4294967295 (s.shift.current.totals.surges + 1) ∧
      s.beginSurge.shift.current.totals.blastersSkipped = s.endBlasting.shift.current.totals.blastersSkipped := by
  obtain ⟨-, surges, -⟩ := s.endBlasting_shift
  rw [State.beginSurge_eq, s.endBlasting.surgeBegun_shift.2, surges]
  exact ⟨rfl, rfl⟩

end

/-! ### The forming of the bed mean (R96 to R98) -/

section
variable {s : State} {mean : Option Int}

/-- The channels whose mean is the bed's. -/
def State.bedChannels (s : State) : List Channel := [s.ai 2, s.ai 3, s.ai 4, s.ai 5]

/-- The surge history after a forming (R96). -/
def State.formedHistory (s : State) : Option Int → List (Nat × Int)
  | some m => (s.cooler.history ++ [(s.floorTime, m)]).filter fun e => s.floorTime ≤ e.1 + s.cooler.cfg.surgeWindow * 1000
  | none => s.cooler.history

/-- The state in which the bed mean has been formed, before it acts (R96). -/
def State.bedFormed (s : State) (mean : Option Int) : State :=
  { s with cooler := { s.cooler with bedMean := mean, history := s.formedHistory mean } }

/-- A bed mean begins a surge (R97). -/
def State.surgesAt (s : State) (m : Int) : Prop :=
  (s.cooler.cfg.surgeLevel : Int) < m ∨ ∃ e ∈ s.formedHistory (some m), e.2 + (s.cooler.cfg.surgeRise : Int) ≤ m

/-- The rise within the window is measured against the formed mean itself too, which stands in the history. -/
theorem State.surges_iff (s : State) (m : Int) :
    surges s.cooler.cfg m (s.formedHistory (some m)) = true ↔ s.surgesAt m := by
  have present : (s.floorTime, m) ∈ s.formedHistory (some m) := by
    refine List.mem_filter.2 ⟨List.mem_append_right _ List.mem_cons_self, decide_eq_true ?_⟩
    exact Nat.le_add_right _ _
  rw [surges, Bool.or_eq_true, decide_eq_true_iff, decide_eq_true_iff, lowest_iff]
  refine or_congr_right ⟨?_, .inr⟩
  rintro (own | rise)
  · exact ⟨_, present, own⟩
  · exact rise

/-- What a formed bed mean makes of the cooler (R97, R98). -/
def State.bedActs (t : State) (mean : Option Int) : State :=
  match t.cooler.state, mean with
  | .running, some m => if surges t.cooler.cfg m t.cooler.history then t.beginSurge else t
  | .surge, _ => t.modCooler fun c => { c with releaseAt := releaseNext c mean t.floorTime }
  | _, _ => t

theorem State.bedFormed_eq (s : State) (mean : Option Int) :
    (s.modCooler fun c =>
      { c with
        bedMean := mean
        history :=
          match mean with | some m => addMean c.cfg.surgeWindow s.floorTime m c.history | none => c.history }) =
      s.bedFormed mean := by
  cases mean <;> rfl

theorem State.formBedMean_eq (means : meanOf s.bedChannels = mean) : s.formBedMean = (s.bedFormed mean).bedActs mean := by
  subst means
  rw [← State.bedFormed_eq]
  rfl

theorem State.bedActs_rests (rests : s.cooler.state ∈ [CoolerState.stopped, .starting, .stopping]) :
    s.bedActs mean = s := by
  unfold State.bedActs
  cases state : s.cooler.state with
  | stopped => rfl
  | starting => rfl
  | stopping => rfl
  | running => rw [state] at rests; exact absurd rests (by decide)
  | surge => rw [state] at rests; exact absurd rests (by decide)

theorem State.bedActs_running (running : s.cooler.state = .running) :
    s.bedActs mean =
      mean.elim s fun m => if surges s.cooler.cfg m s.cooler.history then s.beginSurge else s := by
  unfold State.bedActs
  rw [running]
  cases mean <;> rfl

theorem State.bedActs_surge (surge : s.cooler.state = .surge) :
    s.bedActs mean = s.modCooler fun c => { c with releaseAt := releaseNext c mean s.floorTime } := by
  unfold State.bedActs
  rw [surge]

section
variable (means : meanOf s.bedChannels = mean)
include means

theorem State.formBedMean_rests (rests : s.cooler.state ∈ [CoolerState.stopped, .starting, .stopping]) :
    s.formBedMean = s.bedFormed mean :=
  (State.formBedMean_eq means).trans (State.bedActs_rests rests)

theorem State.formBedMean_calm (running : s.cooler.state = .running) (calm : ∀ m, mean = some m → ¬s.surgesAt m) :
    s.formBedMean = s.bedFormed mean := by
  refine (State.formBedMean_eq means).trans ((State.bedActs_running (s := s.bedFormed mean) running).trans ?_)
  cases mean with
  | none => rfl
  | some m => exact if_neg (mt (s.surges_iff m).1 (calm m rfl))

theorem State.formBedMean_surges {m : Int} (running : s.cooler.state = .running) (formed : mean = some m)
    (begins : s.surgesAt m) : s.formBedMean = (s.bedFormed mean).beginSurge := by
  refine (State.formBedMean_eq means).trans ((State.bedActs_running (s := s.bedFormed mean) running).trans ?_)
  subst formed
  exact if_pos ((s.surges_iff m).2 begins)

theorem State.formBedMean_release (surge : s.cooler.state = .surge) :
    s.formBedMean =
      { s.bedFormed mean with
        cooler := { (s.bedFormed mean).cooler with releaseAt := releaseNext s.cooler mean s.floorTime } } :=
  (State.formBedMean_eq means).trans (State.bedActs_surge (s := s.bedFormed mean) surge)

end

theorem releaseNext_eq (c : Cooler) (mean : Option Int) (now : Nat) :
    releaseNext c mean now =
      match mean with
      | some m =>
        if m < (c.cfg.releaseLevel : Int) then some (c.releaseAt.getD (now + c.cfg.releaseTime * 1000)) else none
      | none => none := by
  cases mean with
  | none => rfl
  | some m =>
    simp only [releaseNext, runWhile, decide_eq_true_eq]
    cases c.releaseAt <;> rfl

end

/-! ### Scans (R114, R115) -/

section
variable (s : State) (scan : Vector ScanEntry 32)

/-- The state in which a valid scan has been taken, before the bed mean is formed (R114, R115). -/
def State.scanTaken : State :=
  let t := s.modField fun f =>
    { f with
      channels := mapAt scan fun _ e => scanned e, validScans := wrap32 f.validScans, lastScan := some s.floorTime,
      scanAt := some (s.floorTime + 3 * f.cfg.scanPeriod), linkFault := false }
  if s.field.linkFault then t.raise .diag else t

theorem State.takeScan_eq : s.takeScan scan = (s.scanTaken scan).formBedMean := rfl

theorem State.scanTaken_field :
    (s.scanTaken scan).field =
      { s.field with
        channels := mapAt scan fun _ e => scanned e, validScans := (s.field.validScans + 1) % 4294967296
        lastScan := some s.floorTime, scanAt := some (s.floorTime + 3 * s.field.cfg.scanPeriod), linkFault := false } := by
  unfold State.scanTaken
  dsimp only
  split <;> rfl

theorem State.scanTaken_sameBut : SameBut [.field, .attention] s (s.scanTaken scan) := by
  unfold State.scanTaken
  dsimp only
  split
  · exact (s.modField_sameBut _ (by decide)).trans (State.raise_sameBut _ _ (by decide))
  · exact s.modField_sameBut _ (by decide)

theorem State.scanTaken_attention :
    (s.scanTaken scan).attention = if s.field.linkFault then (s.raise .diag).attention else s.attention := by
  unfold State.scanTaken
  dsimp only
  split <;> rfl

/-- The state in which the scans are lost, before the bed mean is formed (R115). -/
def State.scansLost : State :=
  (s.modField fun f =>
    { f with
      channels := mapAt f.channels fun _ c => { c with quality := .stale }, scanAt := none, linkFault := true }).raise .diag

theorem State.loseScans_eq : s.loseScans = s.scansLost.formBedMean := rfl

end

/-! ### The receiver of a scan, and the image (R88, R114, R116) -/

theorem Receiver.afterGap_eq (r : Receiver) (now : Nat) :
    r.afterGap 5 now =
      match r with
      | .hunting => .hunting
      | .inFrame buffer last => if last + 5 < now then .hunting else .inFrame buffer last := by
  cases r with
  | hunting => rfl
  | inFrame buffer last => simp only [Receiver.afterGap, Receiver.gapOver, decide_eq_true_eq]

section
variable {s : State}

theorem State.formImage_same (image : s.field.image = s.ownerImage) (still : s.heat.ratesChanged = false) :
    s.formImage = s := if_pos (by rw [decide_eq_true image, still]; rfl)

theorem State.formImage_changed (changed : s.field.image ≠ s.ownerImage ∨ s.heat.ratesChanged = true) :
    s.formImage =
      { s with
        heat := { s.heat with ratesChanged := false }
        field := { s.field with image := s.ownerImage, changedAt := some (s.field.changedAt.getD s.floorTime) } } := by
  refine if_neg fun same => ?_
  obtain ⟨image, still⟩ := (Bool.and_eq_true _ _).mp same
  obtain other | rates := changed
  · exact other (of_decide_eq_true image)
  · rw [rates] at still
    exact absurd still (by decide)

end

end Sys2Proof.Machine

open Sys2Proof Sys2Proof.Machine

/-- Settles O46. -/
theorem scansAndFrames : Obligations.ScansAndFrames := by
  intro s live meanOfBed c history begins formed
  have means : meanOf s.bedChannels = meanOfBed := meanOf_eq _
  have listed : s.formedHistory meanOfBed = history := rfl
  have forms : s.bedFormed meanOfBed = formed := rfl
  have surge (m : Int) (mean : meanOfBed = some m) : begins m ↔ s.surgesAt m := by
    have own : history = s.formedHistory (some m) := listed.symm.trans (congrArg s.formedHistory mean)
    refine or_congr_right ?_
    rw [own]
  refine ⟨fun rests => (State.formBedMean_rests means rests).trans forms, fun running calm =>
    (State.formBedMean_calm means running fun m mean => mt (surge m mean).2 (calm m mean)).trans forms,
    fun m running mean begin => ?_, fun surge => ?_, fun scan => ?_, ?_, ?_, fun t timer past => ?_, ?_⟩
  · intro t left
    have begun : t = formed.beginSurge := State.formBedMean_surges means running mean ((surge m mean).1 begin)
    have kept : SameBut [.cooler] s formed := s.modCooler_sameBut
      (fun c => { c with bedMean := meanOfBed, history := history }) (by decide)
    obtain ⟨-, -, skipped⟩ := formed.endBlasting_shift
    obtain ⟨surges, counted⟩ := formed.beginSurge_totals
    rw [begun]
    refine ⟨(kept.mono (by decide)).trans formed.beginSurge_sameBut, formed.beginSurge_cooler, formed.beginSurge_heat,
      formed.beginSurge_attention, formed.beginSurge_events, surges, fun runs => counted.trans ?_⟩
    obtain ⟨cycle, runs⟩ := Option.isSome_iff_exists.1 runs
    have own : left = 9 - cycle.1 := by
      simp only [left, runs]
    rw [own]
    exact skipped cycle runs
  · refine (State.formBedMean_release means surge).trans ?_
    exact congrArg
      (fun due : Option Nat =>
        ({ s with cooler := { c with bedMean := meanOfBed, history := history, releaseAt := due } } : State))
      (releaseNext_eq s.cooler meanOfBed s.floorTime)
  · refine ⟨s.scanTaken scan, next_event_settled live (s.takeScan_eq scan), s.scanTaken_sameBut scan, fun n => ?_, ?_,
      s.scanTaken_attention scan⟩
    · rw [s.scanTaken_field scan]
      exact mapAt_get _ _ _ n.isLt
    · rw [s.scanTaken_field scan]
  · refine ⟨congrArg Host.Outcome.next (State.event_after live _), ?_⟩
    refine (congrArg Host.Outcome.next (State.event_after live _)).trans ?_
    exact congrArg
      (fun r : Receiver =>
        Host.Outcome.next
          (State.pump
            { s with
              field := { s.field with ignoredScans := (s.field.ignoredScans + 1) % 4294967296, receiver := r } }))
      (Receiver.afterGap_eq s.field.receiver s.floorTime)
  · exact ⟨State.formImage_changed, State.formImage_same⟩
  · refine ⟨s.scansLost, next_settled live (isDue_of timer past) s.loseScans_eq, ?_, fun n => mapAt_get _ _ _ n.isLt, rfl,
      rfl⟩
    exact (s.modField_sameBut _ (by decide)).trans (State.raise_sameBut _ _ (by decide))
  · refine ⟨fun changed => ?_, fun late => ?_⟩
    · exact congrArg Host.Outcome.next (State.eventIf_live live (Option.isSome_iff_ne_none.2 changed) _)
    · exact congrArg Host.Outcome.next (State.eventIf_live live (decide_eq_true late) _)
end
